-- ==== Sys2Proof/Word.lean ====
section
/-! DEFINITION. The plain words of the model: octets, port and contact numbers, per-port tables, and the two
kinds of counter of 00_scope.md ("Counters"). -/

namespace Sys2Proof

/-- One octet of a frame or record. -/
abbrev Octet := BitVec 8

/-- An Ethernet address. -/
abbrev Address := BitVec 48

/-- A line port L0..L15; port Ln serves pair n (00_scope.md, "Names and type"). -/
abbrev Port := Fin 16

/-- A supervision contact K0..K7. -/
abbrev Contact := Fin 8

/-- A fixed number of like things, one for each index. -/
abbrev Row (n : Nat) (α : Type) := Vector α n

/-- The entry of index `i`. -/
def Row.get {n : Nat} {α : Type} (v : Row n α) (i : Fin n) : α := v[i.val]

/-- `v` with the entry of index `i` replaced. -/
def Row.set {n : Nat} {α : Type} (v : Row n α) (i : Fin n) (x : α) : Row n α := Vector.set v i.val x i.isLt

/-- `v` with the entry of index `i` changed by `f`. -/
def Row.modify {n : Nat} {α : Type} (v : Row n α) (i : Fin n) (f : α → α) : Row n α := Row.set v i (f (Row.get v i))

/-- The row whose entry of index `i` is `f i`. -/
def Row.make {n : Nat} {α : Type} (f : Fin n → α) : Row n α := Vector.ofFn f

/-- The row that holds `x` at every index. -/
def Row.all {n : Nat} {α : Type} (x : α) : Row n α := Vector.replicate n x

/-- Every entry changed by `f`, which also sees the index. -/
def Row.mapEach {n : Nat} {α β : Type} (f : Fin n → α → β) (v : Row n α) : Row n β := Row.make fun i => f i (Row.get v i)

/-- The sixteen ports in ascending order. -/
def allPorts : List Port := List.finRange 16

/-- The largest value of an event counter (00_scope.md, "Counters"). -/
def eventMax : Nat := 65535

/-- An event counter increased by `k`: it saturates at 65535. -/
def bump (c : Nat) (k : Nat := 1) : Nat := min eventMax (c + k)

/-- A traffic counter increased by `k`: 32 bits wide, it wraps. -/
def count32 (c : BitVec 32) (k : Nat := 1) : BitVec 32 := c + BitVec.ofNat 32 k

/-- The smallest number of units of size `d` that hold `n` (rounded up). -/
def ceilDiv (n d : Nat) : Nat := (n + d - 1) / d

end Sys2Proof
end

