-- ==== Sys2Proof/Config.lean ====
section
/-! DEFINITION. Figures of the part, and the values the spec leaves open (opaque constants: nothing can be proved of
their value). -/

namespace Sys2Proof.Config

/-- FREE VALUE (log 11): the part's own Ethernet address, the source address of the frames it builds. 11 gives each
frame "the destination and source addresses" and no value for the part's own. -/
opaque ownAddress : Address

/-- FREE VALUE (log 11): the priority code in the tag of a report or notice frame; R179 and R186 give only the VID. -/
opaque agentTagPriority : BitVec 3

/-- FREE VALUE (log 11): the drop-eligible bit in the tag of a report or notice frame. -/
opaque agentTagDropEligible : Bool

/-- FREE VALUE (log 11): the drop-eligible bit of a tag inserted under R32, which gives the VID and priority code 0. -/
opaque insertedTagDropEligible : Bool

/-- FREE VALUE (log 8): which of the free cells of its area a frame takes, as a position in the list of them. `k` counts the cells taken so
far (`Buffer.picks`). -/
opaque cellPick : Nat → Nat

/-- FREE VALUES (log 47): what has arrived of a craft frame that a loss of craft power cuts off: its length, whether its FCS is good, and its
octets after the ethertype. `k` counts such losses (`Classifier.cuts`). -/
opaque cutLength : Nat → Nat
opaque cutFcsGood : Nat → Bool
opaque cutPayload : Nat → List Octet

/-- The agent ethertype 0x88B5 (00_scope.md, "Key figures"). -/
def agentEthertype : BitVec 16 := 0x88B5#16

/-- The tag type at octets 13 and 14 of a tagged frame (R25). -/
def tagType : BitVec 16 := 0x8100#16

/-- General cells shared by the two partitions (R47). -/
def generalCells : Nat := 4032

/-- Cells reserved to AQ and CQ (R47). -/
def reservedCells : Nat := 64

/-- Octets of a cell (R47). -/
def cellOctets : Nat := 128

/-- Shortest and longest accepted frame (R25). -/
def minFrame : Nat := 64
def maxFrame : Nat := 1664

/-- Cells of the longest frame (R49). -/
def maxFrameCells : Nat := 13

/-- The largest rate, capacity or grant in kbit/s (00_scope.md, "Units and ranges"). -/
def maxRate : Nat := 1000000

/-- Records in the request list (R99), the result log (R119), the fault log (R183), the notice queue (R185); items in one
notice frame (R186); measurement items of one request (R99). -/
def maxRequests : Nat := 8
def maxResults : Nat := 16
def maxFaults : Nat := 24
def maxNotices : Nat := 32
def maxNoticeItems : Nat := 16
def maxItems : Nat := 11

/-- The smallest depth of a token bucket (R83). -/
def minDepth : Nat := 1664

/-- The modulus of the check value (R38). -/
def checkModulus : Nat := 65521

/-- The value a field item carries for an absent value (R195), read as two's complement. -/
def absentItem : Int := -2147483648

end Sys2Proof.Config
end

