-- ==== Sys2Proof/Syntax.lean ====
section
/-! DEFINITION. The commands of the block: one constructor of `Instr` for each row of spec/opcode_table.json, and the
types of their operands. MEASURE_START, MEASUREMENT_ITEM and MEASURE_DONE carry the id of the request they belong to, an operand of the model's
own (log 48). A directive carries its origin and the octets of its parameters, as R193 to R196 lay them out;
an event carries what the spec says it carries. -/

namespace Sys2Proof

/-- Where an agent frame came from (R99, R176). -/
inductive Origin where
  | uplink | craft
deriving DecidableEq, Repr

/-- The link a frame arrives on (2.1). -/
inductive Source where
  | line (p : Port) | uplink | craft
deriving DecidableEq, Repr

/-- The outer tag of a frame (R25, R27). -/
structure Tag where
  priority : BitVec 3
  dropEligible : Bool
  vid : BitVec 12
deriving DecidableEq, Repr

/-- The octets of a frame that its header may hold (R25): the two addresses, octets 13 and 14, and the four octets behind them, which in a tagged
frame are the rest of its tag and the ethertype, and in an untagged frame are content that stands in the payload too. -/
structure HeaderOctets where
  destination : Address
  source : Address
  typeOctets : BitVec 16
  tagControl : BitVec 16
  innerType : BitVec 16
deriving DecidableEq, Repr

/-- A frame's header as it is read: the addresses, the outer tag if the frame is tagged, and the ethertype (R25). -/
structure FrameHeader where
  destination : Address
  source : Address
  tag : Option Tag
  ethertype : BitVec 16
deriving DecidableEq, Repr

/-- The states of a port (R1). -/
inductive PortState where
  | disabled | down | training | up | doze | test | held
deriving DecidableEq, Repr

/-- The transfer phase of a pair (R1). -/
inductive TransferPhase where
  | none | gap | settle
deriving DecidableEq, Repr

/-- The two relays of a pair (R7). -/
inductive Relay where
  | line | test
deriving DecidableEq, Repr

/-- Why a port is held (R1). -/
inductive HeldReason where
  | relayMismatch | hazard
deriving DecidableEq, Repr

/-- Sense paths of the measurement front end (R122). -/
inductive SensePath where
  | tg | rg | tr | isrc
deriving DecidableEq, Repr

/-- Measurement kinds (R99). -/
inductive TestKind where
  | foreignVoltage | insulation | signature | full
deriving DecidableEq, Repr

/-- Item names (R142). -/
inductive ItemName where
  | fvDc | fvAc | insR | sigBase | sigWord
deriving DecidableEq, Repr

/-- Item verdicts, in the order of R142. -/
inductive Verdict where
  | ok | high | low | noNtu | leaky | stuck | noFrame | truncated | invalid | wrongNtu
deriving DecidableEq, Repr

/-- Frame end reasons, in the order of R141. -/
inductive EndReason where
  | complete | gap | badPulse | window | stuck | none
deriving DecidableEq, Repr

/-- The flag set of an item (R142). -/
structure ItemFlags where
  saturated : Bool
  limited : Bool
  atOrAbove : Bool
deriving DecidableEq, Repr

/-- The signature fields of a SIG_WORD item (R141). -/
structure WordFields where
  bitCount : Nat
  data : Option Nat
  parityGood : Option Bool
  alarm : Bool
  endReason : EndReason
deriving DecidableEq, Repr

/-- A measurement item (R142). -/
structure Item where
  name : ItemName
  path : SensePath
  value : Option Int
  volts : Option Int
  amps : Option Int
  word : Option WordFields
  flags : ItemFlags
  verdict : Verdict
deriving DecidableEq, Repr

/-- What MEASUREMENT_ITEM carries (R108): the item, and the id of the request it was measured for (R115, log 48). -/
structure SentItem where
  request : Nat
  item : Item
deriving DecidableEq, Repr

/-- What MEASURE_START names (R108): the pair, and the id of the request it is measured for (log 48). -/
structure TestPair where
  request : Nat
  pair : Port
deriving DecidableEq, Repr

/-- What a sweep finds on one pair: the largest magnitude on each path since its last sample, in 0.1 V with its sign, and
whether the detector reports wake energy (R149, R153). -/
structure PairSample where
  tipGround : Int
  ringGround : Int
  tipRing : Int
  wakeEnergy : Bool
deriving DecidableEq, Repr

/-- The commands: one constructor for each row of spec/opcode_table.json, in the table's order. -/
inductive Instr where
  -- resets (R190, R191)
  | powerOnReset (straps : BitVec 16)
  | directedReset
  -- line ports (01)
  | trainingStarted (p : Port)
  | trained (p : Port) (up down : Nat)
  | rateChanged (p : Port) (up down : Nat)
  | linkLost (p : Port)
  | gapEnd (p : Port)
  | settleEnd (p : Port)
  | relaySenseChange (p : Port) (relay : Relay) (closed : Bool)
  | idleTimerExpiry (p : Port)
  | take (id : Nat) (p : Port) (allowUp : Bool)
  | transferOut (p : Port)
  | transferBack (p : Port)
  | release (p : Port)
  | hazardReport (p : Port) (path : SensePath) (code : BitVec 12)
  | portEnable (o : Origin) (params : List Octet)
  | portDisable (o : Origin) (params : List Octet)
  | portClear (o : Origin) (params : List Octet)
  | portWake (o : Origin) (params : List Octet)
  | portStatus (o : Origin) (params : List Octet)
  -- frames (02, 03)
  | frameStart (src : Source)
  | cellRequest (src : Source)
  | upstreamHeader (p : Port) (header : HeaderOctets)
  | downstreamHeader (header : HeaderOctets)
  | craftHeader (header : HeaderOctets)
  | frameEnd (src : Source) (length : Nat) (fcsGood : Bool) (payload : List Octet)
  -- share computation (04)
  | activityTimerExpiry (p : Port)
  | capacityReport (capacity : Nat)
  | uplinkLinkStateChange (up : Bool)
  | computationComplete
  | shareRead (o : Origin) (params : List Octet)
  | shareRecompute (o : Origin) (params : List Octet)
  -- scheduling (05)
  | upstreamRefill (p : Port)
  | downstreamRefill (p : Port)
  | pauseChange (on : Bool)
  | uplinkCompletion
  | lineCompletion (p : Port)
  | craftCompletion
  | craftLinkChange (up : Bool)
  -- flow table (02)
  | trialTimerExpiry
  | ftCandidateClear (o : Origin) (params : List Octet)
  | ftCandidateCopy (o : Origin) (params : List Octet)
  | ftWrite (o : Origin) (params : List Octet)
  | ftRead (o : Origin) (params : List Octet)
  | ftActivate (o : Origin) (params : List Octet)
  | ftConfirm (o : Origin) (params : List Octet)
  | ftRevert (o : Origin) (params : List Octet)
  -- pair test (06)
  | testRequest (o : Origin) (params : List Octet)
  | portReport (p : Port) (state : PortState) (held : Bool) (phase : TransferPhase)
  | granted (id : Nat)
  | denied (id : Nat)
  | outDone
  | outFailed
  | backDone
  | released (id : Nat)
  | waitDeadlineExpiry (id : Nat)
  | portDisabledReport (id : Nat)
  | portHeldReport (id : Nat) (reason : HeldReason)
  | mismatchReport (p : Port) (testSensedClosed : Bool)
  | busShed
  | busAdmit
  | measurementItem (item : SentItem)
  | measureDone
  | testAbort (o : Origin) (params : List Octet)
  | testSuspend (o : Origin) (params : List Octet)
  | testResume (o : Origin) (params : List Octet)
  | testbusClear (o : Origin) (params : List Octet)
  | testResult (o : Origin) (params : List Octet)
  | testList (o : Origin) (params : List Octet)
  -- measurement (07)
  | measureStart (test : TestPair) (kind : TestKind) (expected : Option Nat)
  | measureStop
  | acquisitionEnd
  | conversionSample (code : BitVec 12) (limit : Bool)
  | listenSample (code : BitVec 12) (limit : Bool)
  | listenWindowEnd
  | dischargeGapEnd
  | dischargeEnd
  | measConfig (o : Origin) (params : List Octet)
  | measRead (o : Origin) (params : List Octet)
  -- line watch (08)
  | sweep (samples : Row 16 PairSample)
  | watchRead (o : Origin) (params : List Octet)
  -- cabinet and power (09)
  | contactPoll (conducts : BitVec 8)
  | temperatureReading (raw : Int)
  | supplySample (mainsPresent : Bool) (battery : Nat)
  | craftHoldExpiry
  | evaluation
  | contactConfig (o : Origin) (params : List Octet)
  | contactRead (o : Origin) (params : List Octet)
  | supplyRead (o : Origin) (params : List Octet)
  | thermalClear (o : Origin) (params : List Octet)
  | budgetRead (o : Origin) (params : List Octet)
  -- management agent (10)
  | agentFrameTakeIn
  | reportPlacement
  | reportAbandon
  | lock (o : Origin) (params : List Octet)
  | unlock (o : Origin) (params : List Octet)
  | faultRead (o : Origin) (params : List Octet)
  | noticeTest (o : Origin) (params : List Octet)
  | subWrite (o : Origin) (params : List Octet)
  | subRead (o : Origin) (params : List Octet)
  | setWrite (o : Origin) (params : List Octet)
  | setRead (o : Origin) (params : List Octet)
  | countersRead (o : Origin) (params : List Octet)
  | resetDirective (o : Origin) (params : List Octet)
  | unknownDirective (o : Origin) (code : Octet) (params : List Octet)
deriving DecidableEq, Repr

end Sys2Proof
end

