-- ==== Sys2Proof/WellFormed.lean ====
section
/-! DEFINITION. Which commands are well formed: their operands lie within the ranges the spec gives them. The meanings do
not rest on it: each says what it does with any operand. -/

namespace Sys2Proof

/-- A test request id is 1..65535 (R99). -/
def goodId (id : Nat) : Bool := decide (1 ≤ id ∧ id ≤ 65535)

/-- The parameter length of a directive is two octets (R193). -/
def goodParams (params : List Octet) : Bool := decide (params.length ≤ 65535)

/-- Which verdicts an item's name may carry (R142). -/
def goodVerdict : ItemName → Verdict → Bool
  | .fvDc, v | .fvAc, v => v == .ok || v == .high
  | .insR, v => v == .ok || v == .low
  | .sigBase, v => v == .ok || v == .noNtu || v == .leaky
  | .sigWord, v => v == .ok || v == .stuck || v == .noFrame || v == .truncated || v == .invalid || v == .wrongNtu

/-- The signature fields of R141: 0..9 bits, data with 8 or 9 of them, parity with 9. -/
def goodWord (w : WordFields) : Bool :=
  decide (w.bitCount ≤ 9) && (w.data.isSome == decide (8 ≤ w.bitCount)) && (w.parityGood.isSome == decide (w.bitCount = 9))

/-- The fields present for an item's name (R142), and its verdict. -/
def goodItem (i : Item) : Bool :=
  i.path != .isrc && (i.value.isSome == (i.name != .sigWord)) && (i.volts.isSome == (i.name == .insR)) &&
    (i.amps.isSome == (i.name == .insR)) && (i.word.isSome == (i.name == .sigWord)) &&
    (match i.word with | some w => goodWord w | none => true) && goodVerdict i.name i.verdict

/-- The operands of a command lie within the ranges the spec gives them. -/
def Instr.wellFormed : Instr → Bool
  | .take id _ _ | .granted id | .denied id | .released id | .waitDeadlineExpiry id | .portDisabledReport id
  | .portHeldReport id _ => goodId id
  | .hazardReport _ path _ => path != .isrc
  | .frameEnd _ length _ payload => decide (payload.length ≤ length)
  | .measurementItem i => goodId i.request && goodItem i.item
  | .measureStart test _ expected => goodId test.request && (match expected with | some e => decide (e ≤ 255) | none => true)
  | .portEnable _ ps | .portDisable _ ps | .portClear _ ps | .portWake _ ps | .portStatus _ ps | .shareRead _ ps
  | .shareRecompute _ ps | .ftCandidateClear _ ps | .ftCandidateCopy _ ps | .ftWrite _ ps | .ftRead _ ps | .ftActivate _ ps
  | .ftConfirm _ ps | .ftRevert _ ps | .testRequest _ ps | .testAbort _ ps | .testSuspend _ ps | .testResume _ ps
  | .testbusClear _ ps | .testResult _ ps | .testList _ ps | .measConfig _ ps | .measRead _ ps | .watchRead _ ps
  | .contactConfig _ ps | .contactRead _ ps | .supplyRead _ ps | .thermalClear _ ps | .budgetRead _ ps | .lock _ ps
  | .unlock _ ps | .faultRead _ ps | .noticeTest _ ps | .subWrite _ ps | .subRead _ ps | .setWrite _ ps | .setRead _ ps
  | .countersRead _ ps | .resetDirective _ ps | .unknownDirective _ _ ps => goodParams ps
  | .powerOnReset _ | .directedReset | .trainingStarted _ | .trained _ _ _ | .rateChanged _ _ _ | .linkLost _ | .gapEnd _
  | .settleEnd _ | .relaySenseChange _ _ _ | .idleTimerExpiry _ | .transferOut _ | .transferBack _ | .release _
  | .frameStart _ | .cellRequest _ | .upstreamHeader _ _ | .downstreamHeader _ | .craftHeader _ | .activityTimerExpiry _
  | .capacityReport _ | .uplinkLinkStateChange _ | .computationComplete | .upstreamRefill _ | .downstreamRefill _
  | .pauseChange _ | .uplinkCompletion | .lineCompletion _ | .craftCompletion | .craftLinkChange _ | .trialTimerExpiry
  | .portReport _ _ _ _ | .outDone | .outFailed | .backDone | .mismatchReport _ _ | .busShed | .busAdmit
  | .measureDone | .measureStop | .acquisitionEnd | .conversionSample _ _ | .listenSample _ _ | .listenWindowEnd | .dischargeGapEnd
  | .dischargeEnd | .sweep _ | .contactPoll _ | .temperatureReading _ | .supplySample _ _ | .craftHoldExpiry | .evaluation
  | .agentFrameTakeIn | .reportPlacement | .reportAbandon => true

end Sys2Proof
end

