-- ==== Sys2Proof/Decode.lean ====
section
/-! DEFINITION. Reading commands from octets. The opcode table gives no row any bits, so `decodeTableWord` spells no
command. The directives of an agent frame are read by the directive code list of R196. -/

namespace Sys2Proof

/-- One directive of an agent frame: its code and the octets of its parameters (R193). -/
structure Directive where
  code : Octet
  params : List Octet
deriving DecidableEq, Repr

/-- The command a directive stands for: the directive code list of R196. A code outside it is an unknown directive. -/
def directiveCommand (o : Origin) (d : Directive) : Instr :=
  match d.code.toNat with
  | 0x10 => .portEnable o d.params
  | 0x11 => .portDisable o d.params
  | 0x12 => .portClear o d.params
  | 0x13 => .portWake o d.params
  | 0x14 => .portStatus o d.params
  | 0x20 => .ftCandidateClear o d.params
  | 0x21 => .ftCandidateCopy o d.params
  | 0x22 => .ftWrite o d.params
  | 0x23 => .ftRead o d.params
  | 0x24 => .ftActivate o d.params
  | 0x25 => .ftConfirm o d.params
  | 0x26 => .ftRevert o d.params
  | 0x30 => .shareRead o d.params
  | 0x31 => .shareRecompute o d.params
  | 0x40 => .testRequest o d.params
  | 0x41 => .testAbort o d.params
  | 0x42 => .testList o d.params
  | 0x43 => .testResult o d.params
  | 0x44 => .testSuspend o d.params
  | 0x45 => .testResume o d.params
  | 0x46 => .testbusClear o d.params
  | 0x50 => .measConfig o d.params
  | 0x51 => .measRead o d.params
  | 0x58 => .watchRead o d.params
  | 0x60 => .contactConfig o d.params
  | 0x61 => .contactRead o d.params
  | 0x62 => .supplyRead o d.params
  | 0x63 => .thermalClear o d.params
  | 0x64 => .budgetRead o d.params
  | 0x70 => .subWrite o d.params
  | 0x71 => .subRead o d.params
  | 0x72 => .setWrite o d.params
  | 0x73 => .setRead o d.params
  | 0x74 => .countersRead o d.params
  | 0x75 => .faultRead o d.params
  | 0x76 => .lock o d.params
  | 0x77 => .unlock o d.params
  | 0x78 => .noticeTest o d.params
  | 0x79 => .resetDirective o d.params
  | _ => .unknownDirective o d.code d.params

/-- Whether a code stands in the directive code list (R196). -/
def knownCode (c : Octet) : Bool :=
  let n := c.toNat
  decide ((0x10 ≤ n ∧ n ≤ 0x14) ∨ (0x20 ≤ n ∧ n ≤ 0x26) ∨ n = 0x30 ∨ n = 0x31 ∨ (0x40 ≤ n ∧ n ≤ 0x46) ∨ n = 0x50 ∨ n = 0x51 ∨
    n = 0x58 ∨ (0x60 ≤ n ∧ n ≤ 0x64) ∨ (0x70 ≤ n ∧ n ≤ 0x79))

/-- The directives laid end to end in a frame's body (R177, R193): `count` of them, each a code, a two-octet parameter
length and the parameters. `none` when they do not end within the octets; octets after the last are ignored. -/
def parseDirectives : Nat → List Octet → Option (List Directive)
  | 0, _ => some []
  | n + 1, code :: high :: low :: rest =>
    let len := high.toNat * 256 + low.toNat
    if len ≤ rest.length then
      (parseDirectives n (rest.drop len)).map fun ds => ⟨code, rest.take len⟩ :: ds
    else none
  | _ + 1, _ => none

/-- The command a table word spells. spec/opcode_table.json gives no row any bits, so no word spells a command. -/
def decodeTableWord (_nbits _w : Nat) : Option Instr := none

end Sys2Proof
end

