-- ==== Sys2Proof/Machine/State.lean ====
section
/-! DEFINITION. The state of the ZL16 as plain data, block by block, and its condition right after power-on reset. Times
are microseconds since power-on (log 2); a running timer is held as the time it runs out. -/

namespace Sys2Proof.Machine

/-! ## Line Port Controller (01) -/

/-- The set of doze causes (R1). -/
structure DozeCauses where
  shed : Bool
  thermal : Bool
  idle : Bool
deriving DecidableEq, Repr

/-- The doze causes by name (1.6). -/
inductive DozeCause where
  | shed | thermal | idle
deriving DecidableEq, Repr

/-- The set of held reasons (R1). -/
structure HeldReasons where
  relayMismatch : Bool
  hazard : Bool
deriving DecidableEq, Repr

/-- Relay positions (R1). -/
inductive RelayPosition where
  | normal | testing | isolated
deriving DecidableEq, Repr

/-- The transfers of R8 and R9; `turnedRound` is the outward transfer turned round at an occupied bus. -/
inductive TransferKind where
  | outward | back | turnedRound | restoring
deriving DecidableEq, Repr

/-- The two phases of a transfer (R8). -/
inductive MovePhase where
  | gap | settle
deriving DecidableEq, Repr

/-- A transfer in progress: which one, its phase, and when the phase ends. The end is fixed when the phase starts (R7). -/
structure Transfer where
  kind : TransferKind
  phase : MovePhase
  ends : Nat
deriving DecidableEq, Repr

/-- Orders that wait for the relays (R20). -/
inductive HeldOrder where
  | transferOut | transferBack | release
deriving DecidableEq, Repr

/-- Where a port in TEST or HELD goes back to (R1). -/
inductive ReturnTarget where
  | disabled | down
deriving DecidableEq, Repr

/-- Trained rates in kbit/s (R1). -/
structure Rates where
  up : Nat
  down : Nat
deriving DecidableEq, Repr

/-- The eight counters of a port (R24). -/
structure PortCounters where
  rxFrames : BitVec 32
  rxOctets : BitVec 32
  txFrames : BitVec 32
  txOctets : BitVec 32
  retrains : Nat
  dozes : Nat
  relayFaults : Nat
  hazardHolds : Nat
deriving DecidableEq, Repr

/-- The Port Record (R1), with the pair's relay commands and sense inputs (R7). -/
structure PortRecord where
  state : PortState
  orderOn : Bool
  rates : Option Rates
  causes : DozeCauses
  wakePending : Bool
  position : RelayPosition
  transfer : Option Transfer
  heldOrder : Option HeldOrder
  held : HeldReasons
  testRef : Option Nat
  returnTarget : Option ReturnTarget
  idleTimer : Option Nat
  counters : PortCounters
  lineClosedCmd : Bool
  testClosedCmd : Bool
  lineClosedSense : Bool
  testClosedSense : Bool
deriving DecidableEq, Repr

/-! ## Frame Classifier (02) -/

/-- Directions of entries (R30). -/
inductive Direction where
  | up | down
deriving DecidableEq, Repr

/-- Actions of entries (R30). -/
inductive Action where
  | forward | retag | drop | agent
deriving DecidableEq, Repr

/-- Class modes of entries (R30). -/
inductive ClassMode where
  | express | bulk | byPriority
deriving DecidableEq, Repr

/-- The class of a frame (R35). -/
inductive FrameClass where
  | express | bulk
deriving DecidableEq, Repr

/-- An entry of a flow-table bank (R30). `stamp` is the model's own: it tells this entry from another one written later at
the same index (R31, log 20). -/
structure FlowEntry where
  direction : Direction
  port : Option Port
  vid : Nat
  action : Action
  classMode : ClassMode
  target : Option Port
  retagVid : Option Nat
  hits : BitVec 32
  stamp : Nat
deriving DecidableEq, Repr

/-- A bank: its occupied indexes in rising order, each with its entry (R30, R37). -/
abbrev Bank := List (Nat × FlowEntry)

/-- Candidate marks (R37). -/
inductive CandidateMark where
  | open | fallback | rejected
deriving DecidableEq, Repr

/-- A trial: when its timer runs out, its soak time in seconds, and when it was activated (R37, R42). -/
structure Trial where
  ends : Nat
  soak : Nat
  activatedAt : Nat
deriving DecidableEq, Repr

/-- Where a classified frame goes (R31). -/
inductive Destination where
  | uplink | line (p : Port) | agent
deriving DecidableEq, Repr

/-- The queues (R53). -/
inductive QueueId where
  | ux (p : Port) | ub (p : Port) | dx (p : Port) | db (p : Port) | aq | cq
deriving DecidableEq, Repr

/-- A classification result (R31). `cls` is present for FORWARD and RETAG (R35). -/
structure Result where
  action : Action
  destination : Destination
  cls : Option FrameClass
  egressVid : Nat
  insertTag : Bool
  priority : BitVec 3
deriving DecidableEq, Repr

/-- Why a frame was dropped during its reception (R26, R29, R51). -/
inductive DropReason where
  | agentFromLine | untagged | noEntry | actionDrop | notAgent | storeBusy | poolFull
deriving DecidableEq, Repr

/-- A frame in reception: the descriptor of R52 while it is being filled. `cells` is its cell list, in the order of the octets they hold. -/
structure Reception where
  header : Option FrameHeader
  dropped : Option DropReason
  result : Option Result
  hit : Option Nat
  queue : Option QueueId
  cells : List Nat
deriving DecidableEq, Repr

/-- Drop counters of one line port (R36). -/
structure LineDrops where
  length : Nat
  fcs : Nat
  agentFromLine : Nat
  untagged : Nat
  noEntry : Nat
  actionDrop : Nat
deriving DecidableEq, Repr

/-- Drop counters of the uplink (R36). -/
structure UplinkDrops where
  length : Nat
  fcs : Nat
  untagged : Nat
  noEntry : Nat
  actionDrop : Nat
deriving DecidableEq, Repr

/-- Drop counters of the craft port (R36). -/
structure CraftDrops where
  length : Nat
  fcs : Nat
  notAgent : Nat
  storeBusy : Nat
deriving DecidableEq, Repr

/-- The Frame Classifier: banks, trial, receptions, counters. `staleHeader` holds that the header of a craft frame is still to come which is not in
reception any more, or never was: it is discarded with the rest of that frame's octets (R62, R168, log 23). `cuts` is the model's own: how many craft
frames a loss of craft power has cut off (log 47). -/
structure Classifier where
  active : Bank
  candidate : Bank
  mark : CandidateMark
  trial : Option Trial
  nextStamp : Nat
  rxLine : Row 16 (Option Reception)
  rxUplink : Option Reception
  rxCraft : Option Reception
  lineDrops : Row 16 LineDrops
  uplinkDrops : UplinkDrops
  craftDrops : CraftDrops
  staleHeader : Bool
  cuts : Nat
deriving DecidableEq, Repr

/-! ## Cell Buffer Manager (03) -/

/-- The contents of a frame: header, the octets after the ethertype up to the FCS, and whether its FCS is newly computed or
the received one (R92). -/
structure FrameImage where
  header : FrameHeader
  payload : List Octet
  newFcs : Bool
deriving DecidableEq, Repr

/-- Which frame of the Management Agent a descriptor stands for: the report of a frame (and whether that frame carried
RESET, R191) or a notice frame (R186). -/
inductive AgentFrameKind where
  | report (answersReset : Bool) | notice
deriving DecidableEq, Repr

/-- The source of a descriptor (R52). -/
inductive DescriptorSource where
  | line (p : Port) | uplink | agent
deriving DecidableEq, Repr

/-- A frame descriptor (R52). Cells are numbers 0..4095, in the order of the octets they hold. -/
structure Descriptor where
  length : Nat
  cells : List Nat
  source : DescriptorSource
  result : Option Result
  queue : QueueId
  image : FrameImage
  agentKind : Option AgentFrameKind
deriving DecidableEq, Repr

/-- The four queues of a port (R53), head first. -/
structure PortQueues where
  ux : List Descriptor
  ub : List Descriptor
  dx : List Descriptor
  db : List Descriptor
deriving DecidableEq, Repr

/-- The CBM drop counters of a port (R60). -/
structure BufferDrops where
  notUpUp : Nat
  queueFullUp : Nat
  poolFullUp : Nat
  flushedUp : Nat
  notUpDown : Nat
  queueFullDown : Nat
  poolFullDown : Nat
  flushedDown : Nat
deriving DecidableEq, Repr

/-- The Cell Buffer Manager: held counts of the three areas (R47), queues (R53), drop counters (R60). `picks` is the model's own: how many cells
have been taken (log 8). -/
structure Buffer where
  upHeld : Nat
  downHeld : Nat
  reservedHeld : Nat
  queues : Row 16 PortQueues
  aq : List Descriptor
  cq : List Descriptor
  drops : Row 16 BufferDrops
  uplinkPoolFull : Nat
  picks : Nat
deriving DecidableEq, Repr

/-! ## Share Computation Unit (04) -/

/-- Entry status (R74). -/
inductive EntryStatus where
  | ineligible | scaled | saturated | shared
deriving DecidableEq, Repr

/-- Outcome of a computation (R75). -/
inductive ShareOutcome where
  | overcommitted | shared | floorOnly
deriving DecidableEq, Repr

/-- An entry of the Share Table (R75). -/
structure ShareEntry where
  grant : Nat
  floor : Nat
  ceiling : Nat
  status : EntryStatus
deriving DecidableEq, Repr

/-- The Share Table (R75). -/
structure ShareTable where
  entries : Row 16 ShareEntry
  cUp : Nat
  usable : Nat
  floors : Nat
  spare : Nat
  outcome : ShareOutcome
  overcommitted : Bool
  rounds : Nat
  sequence : BitVec 16
deriving DecidableEq, Repr

/-- What a snapshot holds of one eligible port (R69). -/
structure Claim where
  port : Port
  committed : Nat
  peak : Nat
  weight : Nat
  trained : Nat
deriving DecidableEq, Repr

/-- A snapshot (R69). -/
structure Snapshot where
  cUp : Nat
  reserve : Nat
  usablePercent : Nat
  claims : List Claim
deriving DecidableEq, Repr

/-- A computation in flight (R77, R79). -/
structure Computation where
  snapshot : Snapshot
  recompute : Bool
  departed : Row 16 Bool
deriving DecidableEq, Repr

/-- The Share Computation Unit. A port is active when its activity timer runs (R66, R67): the entry of `activity` is the
timer's end. `computation` absent is IDLE. -/
structure Share where
  linkUp : Bool
  latestReport : Option Nat
  activity : Row 16 (Option Nat)
  computation : Option Computation
  table : ShareTable
deriving DecidableEq, Repr

/-! ## Transmit Scheduler (05) -/

/-- A token bucket (R83) and the time of its next refill (R84). -/
structure Bucket where
  tokens : Nat
  remainder : Nat
  due : Nat
deriving DecidableEq, Repr

/-- A frame in transmission: its descriptor, the frame as it is sent, and the octets sent (R57, R92, R97). -/
structure Transmission where
  desc : Descriptor
  sent : FrameImage
  octets : Nat
deriving DecidableEq, Repr

/-- The Transmit Scheduler. A transmitter is busy when it holds a transmission (R86, R94, R96). `craftLinkUp` is the craft
port's link indication. -/
structure Scheduler where
  upBuckets : Row 16 Bucket
  downBuckets : Row 16 Bucket
  expressPtr : Port
  bulkPtr : Port
  paused : Bool
  uplinkTx : Option Transmission
  lineTx : Row 16 (Option Transmission)
  craftTx : Option Transmission
  craftLinkUp : Bool
  uplinkFrames : BitVec 32
  uplinkOctets : BitVec 32
  uplinkAgentFrames : BitVec 32
  craftFrames : BitVec 32
  craftDiscards : Nat
deriving DecidableEq, Repr

/-! ## Pair Test Controller (06) -/

/-- Request modes (R99). -/
inductive TestMode where
  | waitIdle | intrude
deriving DecidableEq, Repr

/-- Request urgencies (R99). -/
inductive Urgency where
  | normal | urgent
deriving DecidableEq, Repr

/-- Request status (R99). -/
inductive RequestStatus where
  | waiting | running
deriving DecidableEq, Repr

/-- Outcomes of a request (R119); the pending outcomes of R99 are those among them other than EXPIRED. -/
inductive TestOutcome where
  | pass | fail | aborted | expired | hazard | relayFault | powerShed
deriving DecidableEq, Repr

/-- Causes (R99, R119). -/
inductive TestCause where
  | directive | portDisabled | policy | mismatch | busOccupied | busBlocked
deriving DecidableEq, Repr

/-- A Test Request record (R99). `accepted` is in seconds since the last reset. -/
structure Request where
  id : Nat
  port : Port
  kind : TestKind
  mode : TestMode
  origin : Origin
  urgency : Urgency
  accepted : Nat
  status : RequestStatus
deriving DecidableEq, Repr

/-- What the running request carries besides (R99), and whether its RELEASE has been sent (R102). -/
structure Course where
  pending : Option TestOutcome
  cause : Option TestCause
  items : List Item
  releaseSent : Bool
deriving DecidableEq, Repr

/-- Controller states (R102). -/
inductive ControllerState where
  | idle | claim | transferOut | measure | transferBack | suspended
deriving DecidableEq, Repr

/-- A result record (R119). Times are in seconds since the last reset. -/
structure ResultRecord where
  request : Request
  outcome : TestOutcome
  cause : Option TestCause
  items : List Item
  ended : Nat
deriving DecidableEq, Repr

/-- What the LPC's reports have told the controller of a port (R102, R106). -/
structure PortView where
  state : PortState
  held : Bool
  phase : TransferPhase
deriving DecidableEq, Repr

/-- The Pair Test Controller and the test bus record (R102). -/
structure PairTest where
  requests : List Request
  course : Option Course
  state : ControllerState
  suspendPending : Bool
  owner : Option Port
  blocked : Bool
  blocking : Row 16 Bool
  shedMark : Bool
  demand : Bool
  nextId : Nat
  log : List ResultRecord
  view : Row 16 PortView
deriving DecidableEq, Repr

/-! ## Measurement Unit (07) -/

/-- Source polarity (R122). -/
inductive Polarity where
  | positive | negative
deriving DecidableEq, Repr

/-- Threshold modes (R134). -/
inductive ThresholdMode where
  | adaptive | fixed
deriving DecidableEq, Repr

/-- The measurement configuration (R143). -/
structure MeasConfig where
  hazardCode : Nat
  fvAcquisition : Nat
  dcLimit : Nat
  acLimit : Nat
  insCode : Nat
  insPolarity : Polarity
  insCharge : Nat
  insMinimum : Nat
  sigBias : Nat
  sigSettle : Nat
  baseWindow : Nat
  baseMinimum : Nat
  baseMaximum : Nat
  listenWindow : Nat
  thresholdMode : ThresholdMode
  delta1 : Nat
  delta2 : Nat
  first : Nat
  offset : Nat
  deglitch : Nat
deriving DecidableEq, Repr

/-- The test source when on (R122). -/
structure SourceSetting where
  code : Nat
  polarity : Polarity
deriving DecidableEq, Repr

/-- The three sorts of step (R124). -/
inductive StepSort where
  | fv | ins | sig
deriving DecidableEq, Repr

/-- Phases of a step (R125) and the sub-phases of the SIG step (R133). -/
inductive MeasPhase where
  | acquire | convert | gap | settle | guard | base | listen
deriving DecidableEq, Repr

/-- What the samples of the conversion run have come to so far. -/
structure Accumulator where
  taken : Nat
  sum : Int
  high : Int
  low : Int
  ampSum : Int
  saturated : Bool
  limited : Bool
deriving DecidableEq, Repr

/-- The four thresholds of a listen (R134, R135). -/
structure Thresholds where
  rise1 : Int
  rise2 : Int
  fall1 : Int
  fall2 : Int
deriving DecidableEq, Repr

/-- The level of the detector (R136). -/
inductive Level where
  | zero | one | two
deriving DecidableEq, Repr

/-- Decoder stages (R138). -/
inductive DecoderStage where
  | waiting | inFrame | ended
deriving DecidableEq, Repr

/-- The signature decoder (R136 to R140). Pulse and gap starts are listen sample numbers. -/
structure Decoder where
  samples : Nat
  level : Level
  rise : Nat
  up : Nat
  fall : Nat
  drop : Nat
  dropBelowFall1 : Bool
  pulseStart : Option Nat
  gapStart : Option Nat
  stage : DecoderStage
  bits : List Bool
  alarm : Bool
  endReason : Option EndReason
deriving DecidableEq, Repr

/-- The run record (R125). `id` is the request the run belongs to (log 48), `due` the time of the phase's next event, `config` the configuration
as the step found it when it started (R124, R143); `stopped` says that a MEASURE_STOP came in GAP. -/
structure RunRecord where
  id : Nat
  pair : Port
  kind : TestKind
  expected : Option Nat
  step : Nat
  phase : MeasPhase
  due : Nat
  config : MeasConfig
  stopped : Bool
  acc : Accumulator
  baseFlags : ItemFlags
  ib0 : Int
  thresholds : Thresholds
  decoder : Decoder
deriving DecidableEq, Repr

/-- Run states (R125). -/
inductive RunState where
  | idle | running (r : RunRecord) | discharging (ends : Nat)
deriving DecidableEq, Repr

/-- A MEASURE_START that is kept (R125). -/
structure KeptStart where
  id : Nat
  pair : Port
  kind : TestKind
  expected : Option Nat
deriving DecidableEq, Repr

/-- The Measurement Unit. -/
structure Measurement where
  config : MeasConfig
  run : RunState
  kept : Option KeptStart
  source : Option SourceSetting
  path : Option SensePath
deriving DecidableEq, Repr

/-! ## Line Watch Unit (08) -/

/-- Levels of a watch (R145). -/
inductive WatchLevel where
  | none | warn | hazard
deriving DecidableEq, Repr

/-- What the most recent sweep found on a pair (R145). -/
structure LastSample where
  beyondWarn : Bool
  beyondHazard : Bool
  wakeEnergy : Bool
deriving DecidableEq, Repr

/-- A watch record (R145). `wakeSeen` is the wake count, 0 or 1. -/
structure WatchRecord where
  fvWatched : Bool
  wakeWatched : Bool
  warnCount : Nat
  hazardCount : Nat
  warnDeclared : Bool
  hazardDeclared : Bool
  lastReported : WatchLevel
  wakeSeen : Bool
  lastSample : Option LastSample
deriving DecidableEq, Repr

/-- The sweep timer when it runs: the interval it started with, in ms, and its end (R145). -/
structure SweepTimer where
  interval : Nat
  ends : Nat
deriving DecidableEq, Repr

/-- The Line Watch Unit. -/
structure Watch where
  armed : Bool
  timer : Option SweepTimer
  records : Row 16 WatchRecord
deriving DecidableEq, Repr

/-! ## Cabinet Supervisor and Power Budget Unit (09) -/

/-- A contact record (R156). A level is `true` when CLOSED. -/
structure ContactRecord where
  wettingOn : Bool
  inverted : Bool
  noticeEnable : Bool
  craftWake : Bool
  lastSample : Option Bool
  debounced : Option Bool
  lastReported : Option Bool
deriving DecidableEq, Repr

/-- Supply stages (R165). -/
inductive Stage where
  | mains | normal | economy | conserve
deriving DecidableEq, Repr

/-- The Cabinet Supervisor. `stage` absent is undecided (R165). -/
structure Supervisor where
  contacts : Row 8 ContactRecord
  contactDue : Nat
  temperatureDue : Nat
  supplyDue : Nat
  temperature : Option Int
  warnCondition : Bool
  shutdownCondition : Bool
  thermalLatch : Bool
  heaterDemand : Bool
  stage : Option Stage
  mainsPresent : Option Bool
  battery : Option Nat
  craftHold : Option Nat
  craftPowered : Bool
deriving DecidableEq, Repr

/-- Decisions of the Power Budget Unit (R173). -/
inductive Decision where
  | admitted | shed
deriving DecidableEq, Repr

/-- The loads (R170). -/
inductive LoadId where
  | port (p : Port) | heater | testBus
deriving DecidableEq, Repr

/-- An entry of the load list (R170, R174): the decision and the remaining figure after it. -/
structure LoadEntry where
  load : LoadId
  reserved : Bool
  power : Nat
  rank : Nat
  decision : Decision
  remaining : Nat
deriving DecidableEq, Repr

/-- The last evaluation: the available power and the load list in keep order (R171, R174). -/
structure Evaluation where
  available : Nat
  entries : List LoadEntry
deriving DecidableEq, Repr

/-- The Power Budget Unit. -/
structure Budget where
  portSent : Row 16 (Option Decision)
  heaterSent : Option Decision
  busSent : Option Decision
  last : Option Evaluation
deriving DecidableEq, Repr

/-! ## Management Agent (10) -/

/-- Test policies (R187). -/
inductive TestPolicy where
  | noTest | idleOnly | any
deriving DecidableEq, Repr

/-- A subscriber record (R187). -/
structure Subscriber where
  committedUp : Nat
  upPeak : Nat
  downPeak : Nat
  weight : Nat
  upBurst : Nat
  downBurst : Nat
  expressCap : Nat
  bulkCap : Nat
  shedRank : Nat
  portPower : Nat
  idleDoze : Nat
  wake : Bool
  watch : Bool
  expected : Option Nat
  policy : TestPolicy
  defaultVid : Option Nat
  classThreshold : Nat
deriving DecidableEq, Repr

/-- Capacity sources (R65). -/
inductive CapacitySource where
  | reported | fixed
deriving DecidableEq, Repr

/-- Thermal modes (R161). -/
inductive ThermalMode where
  | shutdown | warn | off
deriving DecidableEq, Repr

/-- Craft write policies (R182). -/
inductive CraftPolicy where
  | never | doorOpen | always
deriving DecidableEq, Repr

/-- A watch level setting: a rung of one of the two ladders (R147). -/
structure LevelSetting where
  highRange : Bool
  code : Nat
deriving DecidableEq, Repr

/-- The cabinet settings (R188). Times are in the unit of the setting's rule. -/
structure Settings where
  transferGap : Nat
  relaySettle : Nat
  trialWindow : Nat
  soakTime : Nat
  upstreamSize : Nat
  expressReserve : Nat
  capacitySource : CapacitySource
  fixedCapacity : Nat
  agentReserve : Nat
  usablePercent : Nat
  activityWindow : Nat
  testWaitLimit : Nat
  warnLevel : LevelSetting
  hazardLevel : LevelSetting
  persistence : Nat
  watchPoll : Nat
  economyPoll : Nat
  contactPoll : Nat
  doorContact : Option Contact
  craftHoldTime : Nat
  thermalMode : ThermalMode
  warnThreshold : Int
  shutdownThreshold : Int
  heaterOn : Int
  heaterOff : Int
  economyThreshold : Nat
  conserveThreshold : Nat
  budgetMains : Nat
  budgetNormal : Nat
  budgetEconomy : Nat
  budgetConserve : Nat
  baseLoad : Nat
  heaterPower : Nat
  heaterRank : Nat
  busPower : Nat
  busRank : Nat
  craftPolicy : CraftPolicy
  noticeEnables : Row 9 Bool
deriving DecidableEq, Repr

/-- Sources of fault records (R183). -/
inductive FaultSource where
  | line (p : Port) | testbus | cabinet | uplink
deriving DecidableEq, Repr

/-- Kinds of fault record (R183). -/
inductive FaultKind where
  | relayMismatch | hazard | foreignVoltage | thermalWarn | thermalShutdown | supplyConserve | uplinkDown | restart
deriving DecidableEq, Repr

/-- Restart causes (R183). -/
inductive RestartCause where
  | powerOn | directed
deriving DecidableEq, Repr

/-- A fault record (R183). Times are uptime seconds. -/
structure FaultRecord where
  source : FaultSource
  kind : FaultKind
  first : Nat
  last : Nat
  count : Nat
  active : Bool
  restartCause : Option RestartCause
deriving DecidableEq, Repr

/-- Notice kinds, in the order of R185. -/
inductive NoticeKind where
  | portState | testDone | faultRaised | contactChange | stageChange | trialReverted | overcommit | restart | noticeTest
deriving DecidableEq, Repr

/-- What a FAULT_RAISED notice of the Line Watch Unit adds (R151). -/
structure LevelChange where
  previous : WatchLevel
  now : WatchLevel
  stillWatched : Bool
deriving DecidableEq, Repr

/-- Notices with their content (R193). -/
inductive Notice where
  | portState (p : Port) (state : PortState) (causes : DozeCauses) (held : HeldReasons) (wakePending : Bool)
  | testDone (id : Nat) (p : Port) (kind : TestKind) (outcome : TestOutcome) (cause : Option TestCause) (items : Nat)
  | faultRaised (source : FaultSource) (kind : FaultKind) (count : Nat) (stored : Option Bool) (change : Option LevelChange)
  | contactChange (k : Contact) (closed : Bool) (previous : Option Bool)
  | stageChange (previous : Option Stage) (stage : Stage) (mains : Bool) (battery : Nat)
  | trialReverted (check : Nat)
  | overcommit (entered : Bool) (usable floors : Nat) (sequence : BitVec 16)
  | restart (cause : RestartCause)
  | noticeTest
deriving DecidableEq, Repr

/-- A notice item: the notice and the uptime at its generation (R185). -/
structure NoticeItem where
  notice : Notice
  uptime : Nat
deriving DecidableEq, Repr

/-- An agent frame in a store or in hand (R34, R176). -/
structure AgentFrame where
  origin : Origin
  source : Address
  vid : Nat
  ethertype : BitVec 16
  payload : List Octet
deriving DecidableEq, Repr

/-- Directive outcomes, in the order of their codes (R192). -/
inductive DirectiveOutcome where
  | done | locked | notPermitted | unknownDirective | notSuspended | stillPresent | queueFull | badParam | badLength | busy
  | duplicateKey | wrongState | duplicate | faultLatched | badCheck | noAgentPath | notInTrial | tooEarly
deriving DecidableEq, Repr

/-- An outcome entry (R178). -/
structure OutcomeEntry where
  code : Octet
  outcome : DirectiveOutcome
  data : List Octet
deriving DecidableEq, Repr

/-- An accepted frame in execution (R176, R178): `index` counts the directives that have run. -/
structure Execution where
  frame : AgentFrame
  sequence : Nat
  directives : List Directive
  index : Nat
  entries : List OutcomeEntry
  cut : Nat
deriving DecidableEq, Repr

/-- A built report that is not yet placed (R176, R179, R180). -/
structure Report where
  origin : Origin
  length : Nat
  image : FrameImage
  carriesChange : Bool
  carriesLost : Bool
  answersReset : Bool
  offeredAt : Option Nat
deriving DecidableEq, Repr

/-- Execution states (R176). -/
inductive ExecState where
  | idle | executing (e : Execution) | reporting (r : Report)
deriving DecidableEq, Repr

/-- How far a directed reset has waited (R191): its frame's report is not yet placed; it is placed and unsent, with the end
of the 2 s; or the wait is over. -/
inductive ResetWait where
  | none | unplaced | placed (limit : Nat) | over
deriving DecidableEq, Repr

/-- The notice destination (R177). -/
structure NoticeDestination where
  address : Address
  vid : Nat
deriving DecidableEq, Repr

/-- The Management Agent. `lastEntry` is the model's own (log 3). -/
structure Agent where
  uplinkStore : Option AgentFrame
  craftStore : Option AgentFrame
  servedLast : Origin
  exec : ExecState
  resetWait : ResetWait
  lastEntry : Option OutcomeEntry
  locked : Bool
  cabinet : BitVec 16
  faults : List FaultRecord
  notices : List NoticeItem
  changeMark : Bool
  lostMark : Bool
  destination : Option NoticeDestination
  accepted : BitVec 32
  rejected : Nat
  faultsLost : Nat
  noticesDropped : Nat
  reportsLost : Nat
  subscribers : Row 16 Subscriber
deriving DecidableEq, Repr

/-! ## The whole machine -/

/-- The state of the ZL16. `pending` is the queue of waiting commands and `mail` the messages between blocks that no step
has taken yet (log 1). -/
structure State where
  pending : List Instr
  mail : List Instr
  now : Nat
  resetAt : Nat
  ports : Row 16 PortRecord
  fcl : Classifier
  cbm : Buffer
  scu : Share
  txs : Scheduler
  ptc : PairTest
  msu : Measurement
  lwu : Watch
  csu : Supervisor
  pbu : Budget
  mga : Agent
  settings : Settings
deriving DecidableEq, Repr

/-- The spec stops the part nowhere: what it cannot carry out it refuses with an outcome, clamps, or ignores (00_scope.md,
"Refusal, clamping and degrading"). So there is no fault, and no step ends in one: safe. -/
inductive Fault
deriving DecidableEq, Repr

/-- Reasons for which a step has no meaning. -/
inductive Refusal where
  /-- Raised by `exec` for a command that has no meaning yet; safe. No arm raises it. -/
  | notModelled (mnemonic : String)
deriving DecidableEq, Repr

/-! ## Reset values -/

/-- No doze cause. -/
def DozeCauses.empty : DozeCauses := { shed := false, thermal := false, idle := false }

/-- No held reason. -/
def HeldReasons.empty : HeldReasons := { relayMismatch := false, hazard := false }

/-- Counters at zero. -/
def PortCounters.zero : PortCounters :=
  { rxFrames := 0#32, rxOctets := 0#32, txFrames := 0#32, txOctets := 0#32, retrains := 0, dozes := 0, relayFaults := 0,
    hazardHolds := 0 }

/-- The Port Record after power-on reset (R2): DISABLED, on its restoring transfer's SETTLE phase of the default 15 ms (R9).
The sense inputs read the unpowered arrangement, DESIGN CHOICE, unsafe (log 5). -/
def PortRecord.afterReset : PortRecord :=
  { state := .disabled, orderOn := false, rates := none, causes := .empty, wakePending := false, position := .normal,
    transfer := some { kind := .restoring, phase := .settle, ends := 15000 }, heldOrder := none, held := .empty,
    testRef := none, returnTarget := none, idleTimer := none, counters := .zero, lineClosedCmd := true,
    testClosedCmd := false, lineClosedSense := true, testClosedSense := false }

/-- The management lane's entry of the power-on table (R37). -/
def FlowEntry.lane : FlowEntry :=
  { direction := .down, port := none, vid := 4000, action := .agent, classMode := .bulk, target := none, retagVid := none,
    hits := 0#32, stamp := 0 }

/-- The Frame Classifier after reset (R36, R37, R62). -/
def Classifier.afterReset : Classifier :=
  { active := [(0, .lane)], candidate := [], mark := .open, trial := none, nextStamp := 1, rxLine := Row.all none,
    rxUplink := none, rxCraft := none,
    lineDrops := Row.all { length := 0, fcs := 0, agentFromLine := 0, untagged := 0, noEntry := 0, actionDrop := 0 },
    uplinkDrops := { length := 0, fcs := 0, untagged := 0, noEntry := 0, actionDrop := 0 },
    craftDrops := { length := 0, fcs := 0, notAgent := 0, storeBusy := 0 }, staleHeader := false,
    cuts := 0 }

/-- Empty queues of a port. -/
def PortQueues.empty : PortQueues := { ux := [], ub := [], dx := [], db := [] }

/-- Buffer drop counters at zero. -/
def BufferDrops.zero : BufferDrops :=
  { notUpUp := 0, queueFullUp := 0, poolFullUp := 0, flushedUp := 0, notUpDown := 0, queueFullDown := 0, poolFullDown := 0,
    flushedDown := 0 }

/-- The Cell Buffer Manager after reset (R62). -/
def Buffer.afterReset : Buffer :=
  { upHeld := 0, downHeld := 0, reservedHeld := 0, queues := Row.all .empty, aq := [], cq := [], drops := Row.all .zero,
    uplinkPoolFull := 0, picks := 0 }

/-- The Share Table entry of a port that has no grant (R74, R75). -/
def ShareEntry.none : ShareEntry := { grant := 0, floor := 0, ceiling := 0, status := .ineligible }

/-- The Share Computation Unit after reset (R63, R64, R68, R75). -/
def Share.afterReset : Share :=
  { linkUp := false, latestReport := none, activity := Row.all none, computation := none,
    table := { entries := Row.all .none, cUp := 0, usable := 0, floors := 0, spare := 0, outcome := .floorOnly,
               overcommitted := false, rounds := 0, sequence := 0#16 } }

/-- The Transmit Scheduler after a reset at time `t` (R83, R84, R86, R98). The craft link indication is an input and is given. -/
def Scheduler.afterReset (t : Nat) (craftLink : Bool) : Scheduler :=
  { upBuckets := Row.all { tokens := 0, remainder := 0, due := t + 1000 },
    downBuckets := Row.all { tokens := 0, remainder := 0, due := t + 1000 },
    expressPtr := 0, bulkPtr := 0, paused := false, uplinkTx := none, lineTx := Row.all none, craftTx := none,
    craftLinkUp := craftLink, uplinkFrames := 0#32, uplinkOctets := 0#32, uplinkAgentFrames := 0#32, craftFrames := 0#32,
    craftDiscards := 0 }

/-- The Pair Test Controller after reset (R101). Its view is the condition R2 and R9 put every port in: DEDUCED (log 14). -/
def PairTest.afterReset : PairTest :=
  { requests := [], course := none, state := .idle, suspendPending := false, owner := none, blocked := false,
    blocking := Row.all false, shedMark := false, demand := false, nextId := 1, log := [],
    view := Row.all { state := .disabled, held := false, phase := .settle } }

/-- The measurement configuration at its defaults (R143). -/
def MeasConfig.default : MeasConfig :=
  { hazardCode := 600, fvAcquisition := 20, dcLimit := 100, acLimit := 50, insCode := 20, insPolarity := .positive,
    insCharge := 100, insMinimum := 1000, sigBias := 19, sigSettle := 50, baseWindow := 40, baseMinimum := 50,
    baseMaximum := 800, listenWindow := 100, thresholdMode := .adaptive, delta1 := 600, delta2 := 800, first := 60,
    offset := 30, deglitch := 6 }

/-- The Measurement Unit after reset (R122, R128). -/
def Measurement.afterReset : Measurement :=
  { config := .default, run := .idle, kept := none, source := none, path := none }

/-- A watch record after reset (R155). -/
def WatchRecord.afterReset : WatchRecord :=
  { fvWatched := false, wakeWatched := false, warnCount := 0, hazardCount := 0, warnDeclared := false, hazardDeclared := false,
    lastReported := .none, wakeSeen := false, lastSample := none }

/-- The Line Watch Unit after reset (R155). -/
def Watch.afterReset : Watch := { armed := false, timer := none, records := Row.all .afterReset }

/-- A contact record after reset (R156). -/
def ContactRecord.afterReset : ContactRecord :=
  { wettingOn := true, inverted := false, noticeEnable := false, craftWake := false, lastSample := none, debounced := none,
    lastReported := none }

/-- The Cabinet Supervisor after a reset at time `t` (R156, R157, R160, R165, R168); the contact poll default is 200 ms. -/
def Supervisor.afterReset (t : Nat) : Supervisor :=
  { contacts := Row.all .afterReset, contactDue := t + 200000, temperatureDue := t + 1000000, supplyDue := t + 1000000,
    temperature := none, warnCondition := false, shutdownCondition := false, thermalLatch := false, heaterDemand := false,
    stage := none, mainsPresent := none, battery := none, craftHold := none, craftPowered := true }

/-- The Power Budget Unit after reset (R175). -/
def Budget.afterReset : Budget := { portSent := Row.all none, heaterSent := none, busSent := none, last := none }

/-- A subscriber record at its defaults (R187). -/
def Subscriber.default : Subscriber :=
  { committedUp := 0, upPeak := 0, downPeak := 0, weight := 1, upBurst := 1664, downBurst := 1664, expressCap := 64,
    bulkCap := 64, shedRank := 0, portPower := 30, idleDoze := 0, wake := true, watch := true, expected := none,
    policy := .idleOnly, defaultVid := none, classThreshold := 4 }

/-- The settings at their defaults (R7, R42, R48, R65, R105, R147, R169, R182, R185). -/
def Settings.default : Settings :=
  { transferGap := 10, relaySettle := 15, trialWindow := 60, soakTime := 0, upstreamSize := 2016, expressReserve := 256,
    capacitySource := .reported, fixedCapacity := 0, agentReserve := 256, usablePercent := 95, activityWindow := 200,
    testWaitLimit := 600, warnLevel := { highRange := false, code := 14 }, hazardLevel := { highRange := true, code := 5 },
    persistence := 3, watchPoll := 4, economyPoll := 6, contactPoll := 5, doorContact := some 0, craftHoldTime := 10,
    thermalMode := .shutdown, warnThreshold := 70, shutdownThreshold := 85, heaterOn := -10, heaterOff := 0,
    economyThreshold := 4700, conserveThreshold := 4400, budgetMains := 1500, budgetNormal := 1200, budgetEconomy := 600,
    budgetConserve := 250, baseLoad := 180, heaterPower := 120, heaterRank := 6, busPower := 40, busRank := 5,
    craftPolicy := .doorOpen, noticeEnables := Row.all true }

/-- The RESTART record of power-on reset (R190). -/
def FaultRecord.powerOn : FaultRecord :=
  { source := .cabinet, kind := .restart, first := 0, last := 0, count := 1, active := false, restartCause := some .powerOn }

/-- The Management Agent after power-on reset (R176, R190) in a cabinet whose straps read `straps`. -/
def Agent.afterPowerOn (straps : BitVec 16) : Agent :=
  { uplinkStore := none, craftStore := none, servedLast := .craft, exec := .idle, resetWait := .none, lastEntry := none,
    locked := false, cabinet := straps, faults := [.powerOn], notices := [{ notice := .restart .powerOn, uptime := 0 }],
    changeMark := true, lostMark := false, destination := none, accepted := 0#32, rejected := 0, faultsLost := 0,
    noticesDropped := 0, reportsLost := 0, subscribers := Row.all .default }

/-- The machine right after power-on reset. DESIGN CHOICE, unsafe: the straps read 0 (log 7), the craft link indicates down
(log 6), the relay senses read the unpowered arrangement (log 5). -/
def State.reset : State :=
  { pending := [], mail := [], now := 0, resetAt := 0, ports := Row.all .afterReset, fcl := .afterReset, cbm := .afterReset,
    scu := .afterReset, txs := .afterReset 0 false, ptc := .afterReset, msu := .afterReset, lwu := .afterReset,
    csu := .afterReset 0, pbu := .afterReset, mga := .afterPowerOn 0#16, settings := .default }

end Sys2Proof.Machine
end

