-- ==== Sys2Proof/Machine/Octets.lean ====
section
/-! DEFINITION. Byte order and the carried codes of R192: multi-octet numbers most significant octet first, enumerations by
their position in the list of the rule that defines them, sets as one octet from the least significant bit, absent fields. -/

namespace Sys2Proof

/-! ## Codes of the operands' enumerations (R192): positions in R1, R99, R122, R141 and R142 -/

def PortState.code : PortState → Nat
  | .disabled => 0 | .down => 1 | .training => 2 | .up => 3 | .doze => 4 | .test => 5 | .held => 6

def TransferPhase.code : TransferPhase → Nat
  | .none => 0 | .gap => 1 | .settle => 2

def TestKind.code : TestKind → Nat
  | .foreignVoltage => 0 | .insulation => 1 | .signature => 2 | .full => 3

def Origin.code : Origin → Nat
  | .uplink => 0 | .craft => 1

def SensePath.code : SensePath → Nat
  | .tg => 0 | .rg => 1 | .tr => 2 | .isrc => 3

def ItemName.code : ItemName → Nat
  | .fvDc => 0 | .fvAc => 1 | .insR => 2 | .sigBase => 3 | .sigWord => 4

def Verdict.code : Verdict → Nat
  | .ok => 0 | .high => 1 | .low => 2 | .noNtu => 3 | .leaky => 4 | .stuck => 5 | .noFrame => 6 | .truncated => 7
  | .invalid => 8 | .wrongNtu => 9

def EndReason.code : EndReason → Nat
  | .complete => 0 | .gap => 1 | .badPulse => 2 | .window => 3 | .stuck => 4 | .none => 5

end Sys2Proof

namespace Sys2Proof.Machine

/-- One octet holding `n` (R192). -/
def octet (n : Nat) : Octet := BitVec.ofNat 8 n

/-- A number in one, two and four octets, most significant first (R192). -/
def num1 (n : Nat) : List Octet := [octet n]
def num2 (n : Nat) : List Octet := [octet (n / 256), octet n]
def num4 (n : Nat) : List Octet := [octet (n / 16777216), octet (n / 65536), octet (n / 256), octet n]

/-- A signed number in two and four octets, two's complement (R192). -/
def int2 (i : Int) : List Octet := num2 (BitVec.ofInt 16 i).toNat
def int4 (i : Int) : List Octet := num4 (BitVec.ofInt 32 i).toNat

/-- An address in six octets. -/
def num6 (a : Address) : List Octet := num2 (a.toNat / 4294967296) ++ num4 a.toNat

/-- A yes/no or on/off value: 0 and 1 (R192), no and off being 0: DEDUCED (log 24). -/
def yesNo (b : Bool) : List Octet := num1 (if b then 1 else 0)

/-- An optional one-octet value, 0xFF when absent (R192). -/
def opt1 (o : Option Nat) : List Octet := num1 (o.getD 255)

/-- An optional yes/no, 0xFF when absent (R192). -/
def optYesNo (o : Option Bool) : List Octet := opt1 (o.map fun b => if b then 1 else 0)

/-- An optional two-octet value, 0xFFFF when absent (R192). -/
def opt2 (o : Option Nat) : List Octet := num2 (o.getD 65535)

/-- An optional four-octet value, 0x80000000 when absent (R192). -/
def opt4 (o : Option Nat) : List Octet := num4 (o.getD 2147483648)

/-- The number two octets carry (R192). -/
def read2 (a b : Octet) : Nat := a.toNat * 256 + b.toNat

/-- The value four octets of a field item carry, two's complement (R192, R195). -/
def readInt4 (a b c d : Octet) : Int := (a ++ b ++ c ++ d : BitVec 32).toInt

/-- A set: one bit for each member, in list order from the least significant bit (R192). -/
def setOctet (members : List Bool) : List Octet :=
  num1 (members.foldr (fun b acc => (if b then 1 else 0) + 2 * acc) 0)

/-! ## Codes of enumerations -/

def RelayPosition.code : RelayPosition → Nat
  | .normal => 0 | .testing => 1 | .isolated => 2

def ReturnTarget.code : ReturnTarget → Nat
  | .disabled => 0 | .down => 1

/-- A relay command or reading: CLOSED, OPEN in the order of R7. -/
def relayCode (closed : Bool) : Nat := if closed then 0 else 1

def Direction.code : Direction → Nat
  | .up => 0 | .down => 1

def Action.code : Action → Nat
  | .forward => 0 | .retag => 1 | .drop => 2 | .agent => 3

def ClassMode.code : ClassMode → Nat
  | .express => 0 | .bulk => 1 | .byPriority => 2

def CandidateMark.code : CandidateMark → Nat
  | .open => 0 | .fallback => 1 | .rejected => 2

def EntryStatus.code : EntryStatus → Nat
  | .ineligible => 0 | .scaled => 1 | .saturated => 2 | .shared => 3

def ShareOutcome.code : ShareOutcome → Nat
  | .overcommitted => 0 | .shared => 1 | .floorOnly => 2

def CapacitySource.code : CapacitySource → Nat
  | .reported => 0 | .fixed => 1

def TestMode.code : TestMode → Nat
  | .waitIdle => 0 | .intrude => 1

def Urgency.code : Urgency → Nat
  | .normal => 0 | .urgent => 1

def RequestStatus.code : RequestStatus → Nat
  | .waiting => 0 | .running => 1

/-- Outcomes in the order of R119. -/
def TestOutcome.code : TestOutcome → Nat
  | .pass => 0 | .fail => 1 | .aborted => 2 | .expired => 3 | .hazard => 4 | .relayFault => 5 | .powerShed => 6

/-- Pending outcomes in the order of R99 (absent is 0xFF): DESIGN CHOICE (log 25). -/
def TestOutcome.pendingCode : TestOutcome → Nat
  | .pass => 0 | .fail => 1 | .aborted => 2 | .powerShed => 3 | .relayFault => 4 | .hazard => 5 | .expired => 255

/-- Causes in the order of R119, both lists counted as one: DESIGN CHOICE (log 25). -/
def TestCause.code : TestCause → Nat
  | .directive => 0 | .portDisabled => 1 | .policy => 2 | .mismatch => 3 | .busOccupied => 4 | .busBlocked => 5

def ControllerState.code : ControllerState → Nat
  | .idle => 0 | .claim => 1 | .transferOut => 2 | .measure => 3 | .transferBack => 4 | .suspended => 5

def Polarity.code : Polarity → Nat
  | .positive => 0 | .negative => 1

def ThresholdMode.code : ThresholdMode → Nat
  | .adaptive => 0 | .fixed => 1

/-- The phase octet of MEAS_READ (R144). R125's phases and R133's sub-phases are two lists, and R192 gives a position in one: the model counts them
as one, as R125 names them, ACQUIRE, CONVERT, GAP and then SETTLE, GUARD, BASE, LISTEN: DESIGN CHOICE (log 62). -/
def MeasPhase.code : MeasPhase → Nat
  | .acquire => 0 | .convert => 1 | .gap => 2 | .settle => 3 | .guard => 4 | .base => 5 | .listen => 6

def Level.code : Level → Nat
  | .zero => 0 | .one => 1 | .two => 2

def DecoderStage.code : DecoderStage → Nat
  | .waiting => 0 | .inFrame => 1 | .ended => 2

def WatchLevel.code : WatchLevel → Nat
  | .none => 0 | .warn => 1 | .hazard => 2

/-- A contact level: OPEN, CLOSED in the order of R156. -/
def contactCode (closed : Bool) : Nat := if closed then 1 else 0

def Stage.code : Stage → Nat
  | .mains => 0 | .normal => 1 | .economy => 2 | .conserve => 3

/-- Decisions in the order of R171 and R173: ADMITTED, SHED. -/
def Decision.code : Decision → Nat
  | .admitted => 0 | .shed => 1

def TestPolicy.code : TestPolicy → Nat
  | .noTest => 0 | .idleOnly => 1 | .any => 2

def ThermalMode.code : ThermalMode → Nat
  | .shutdown => 0 | .warn => 1 | .off => 2

/-- R182 lists the craft write policies in two orders; the octet takes that of its sentence, NEVER, DOOR_OPEN, ALWAYS: DESIGN CHOICE (log 61). -/
def CraftPolicy.code : CraftPolicy → Nat
  | .never => 0 | .doorOpen => 1 | .always => 2

/-- Fault sources: L0..L15 as 0..15, TESTBUS 16, CABINET 17, UPLINK 18 (R192). -/
def FaultSource.code : FaultSource → Nat
  | .line p => p.val | .testbus => 16 | .cabinet => 17 | .uplink => 18

def FaultKind.code : FaultKind → Nat
  | .relayMismatch => 0 | .hazard => 1 | .foreignVoltage => 2 | .thermalWarn => 3 | .thermalShutdown => 4
  | .supplyConserve => 5 | .uplinkDown => 6 | .restart => 7

def RestartCause.code : RestartCause → Nat
  | .powerOn => 0 | .directed => 1

def NoticeKind.code : NoticeKind → Nat
  | .portState => 0 | .testDone => 1 | .faultRaised => 2 | .contactChange => 3 | .stageChange => 4 | .trialReverted => 5
  | .overcommit => 6 | .restart => 7 | .noticeTest => 8

/-- Outcome codes (R192). -/
def DirectiveOutcome.code : DirectiveOutcome → Nat
  | .done => 0 | .locked => 1 | .notPermitted => 2 | .unknownDirective => 3 | .notSuspended => 4 | .stillPresent => 5
  | .queueFull => 6 | .badParam => 7 | .badLength => 8 | .busy => 9 | .duplicateKey => 10 | .wrongState => 11
  | .duplicate => 12 | .faultLatched => 13 | .badCheck => 14 | .noAgentPath => 15 | .notInTrial => 16 | .tooEarly => 17

/-- Execution states in the order of R176. -/
def ExecState.code : ExecState → Nat
  | .idle => 0 | .executing _ => 1 | .reporting _ => 2

/-- Doze causes as a set octet: SHED, THERMAL, IDLE (R1). -/
def DozeCauses.octets (c : DozeCauses) : List Octet := setOctet [c.shed, c.thermal, c.idle]

/-- Held reasons as a set octet: RELAY_MISMATCH, HAZARD (R1). -/
def HeldReasons.octets (h : HeldReasons) : List Octet := setOctet [h.relayMismatch, h.hazard]

/-! ## Reading enumerations -/

/-- The port an octet names; `none` outside L0..L15. -/
def portOf (n : Nat) : Option Port := if h : n < 16 then some ⟨n, h⟩ else none

/-- The contact a number names; `none` outside K0..K7. -/
def contactOf (n : Nat) : Option Contact := if h : n < 8 then some ⟨n, h⟩ else none

def directionOf : Nat → Option Direction
  | 0 => some .up | 1 => some .down | _ => none

def actionOf : Nat → Option Action
  | 0 => some .forward | 1 => some .retag | 2 => some .drop | 3 => some .agent | _ => none

def classModeOf : Nat → Option ClassMode
  | 0 => some .express | 1 => some .bulk | 2 => some .byPriority | _ => none

def testKindOf : Nat → Option TestKind
  | 0 => some .foreignVoltage | 1 => some .insulation | 2 => some .signature | 3 => some .full | _ => none

def testModeOf : Nat → Option TestMode
  | 0 => some .waitIdle | 1 => some .intrude | _ => none

def urgencyOf : Nat → Option Urgency
  | 0 => some .normal | 1 => some .urgent | _ => none

/-! ## Records (R194) -/

/-- The contents of a notice (R193). A FAULT_RAISED item of the Line Watch Unit carries count 0 and stored 0xFF, one of the
Management Agent levels and watched 0xFF. OVERCOMMIT carries entered as 0 and left as 1, their places in R80's words: DESIGN CHOICE (log 64). -/
def Notice.content : Notice → List Octet
  | .portState p st c h w => num1 p.val ++ num1 st.code ++ c.octets ++ h.octets ++ yesNo w
  | .testDone id p k out cause n =>
    num2 id ++ num1 p.val ++ num1 k.code ++ num1 out.code ++ opt1 (cause.map (·.code)) ++ num1 n
  | .faultRaised src kind count stored change =>
    num1 src.code ++ num1 kind.code ++ num2 count ++ opt1 (stored.map fun b => if b then 1 else 0) ++
      (match change with
       | some c => num1 c.previous.code ++ num1 c.now.code ++ yesNo c.stillWatched
       | none => num1 255 ++ num1 255 ++ num1 255)
  | .contactChange k closed prev => num1 k.val ++ num1 (contactCode closed) ++ opt1 (prev.map contactCode)
  | .stageChange prev st mains battery => opt1 (prev.map (·.code)) ++ num1 st.code ++ yesNo mains ++ num2 battery
  | .trialReverted check => num2 check
  | .overcommit entered c f seq => num1 (if entered then 0 else 1) ++ num4 c ++ num4 f ++ num2 seq.toNat
  | .restart cause => num1 cause.code
  | .noticeTest => []

/-- The kind of a notice (R185). -/
def Notice.kind : Notice → NoticeKind
  | .portState .. => .portState
  | .testDone .. => .testDone
  | .faultRaised .. => .faultRaised
  | .contactChange .. => .contactChange
  | .stageChange .. => .stageChange
  | .trialReverted .. => .trialReverted
  | .overcommit .. => .overcommit
  | .restart .. => .restart
  | .noticeTest => .noticeTest

/-- A notice item (R193): kind, content length, uptime at generation, content. -/
def NoticeItem.octets (i : NoticeItem) : List Octet :=
  num1 i.notice.kind.code ++ num1 i.notice.content.length ++ num4 i.uptime ++ i.notice.content

/-- A measurement item (R194), 16 octets. -/
def itemOctets (i : Item) : List Octet :=
  num1 i.name.code ++ num1 i.path.code ++ setOctet [i.flags.saturated, i.flags.limited, i.flags.atOrAbove] ++
    num1 i.verdict.code ++ int2 (i.value.getD 0) ++ int2 (i.volts.getD 0) ++ int2 (i.amps.getD 0) ++
    (match i.word with
     | some w =>
       num1 w.bitCount ++ opt2 w.data ++ opt1 (w.parityGood.map fun g => if g then 0 else 1) ++ yesNo w.alarm ++
         num1 w.endReason.code
     | none => num1 0 ++ num2 0 ++ num1 0 ++ num1 0 ++ num1 0)

/-- A result record (R194), 18 octets, followed by its items. -/
def ResultRecord.octets (r : ResultRecord) : List Octet :=
  num2 r.request.id ++ num1 r.request.port.val ++ num1 r.request.kind.code ++ num1 r.request.mode.code ++
    num1 r.request.origin.code ++ num1 r.request.urgency.code ++ num1 r.outcome.code ++ opt1 (r.cause.map (·.code)) ++
    num1 r.items.length ++ num4 r.request.accepted ++ num4 r.ended ++ r.items.flatMap itemOctets

/-- A subscriber record as SUB_READ returns it (R194): the port, then 38 octets. -/
def Subscriber.octets (p : Port) (u : Subscriber) : List Octet :=
  num1 p.val ++ num4 u.committedUp ++ num4 u.upPeak ++ num4 u.downPeak ++ num1 u.weight ++ num4 u.upBurst ++ num4 u.downBurst ++
    num2 u.expressCap ++ num2 u.bulkCap ++ num1 u.shedRank ++ num2 u.portPower ++ num2 u.idleDoze ++ yesNo u.wake ++
    yesNo u.watch ++ opt2 u.expected ++ num1 u.policy.code ++ num2 (u.defaultVid.getD 0) ++ num1 u.classThreshold

/-- An FT_READ item (R194): the entry's 11 octets and the hit counter; the entry fields of an empty index are 0. -/
def flowItemOctets (index : Nat) (entry : Option FlowEntry) : List Octet :=
  match entry with
  | some e =>
    num1 index ++ num1 1 ++ num1 e.direction.code ++ opt1 (e.port.map (·.val)) ++ num2 e.vid ++ num1 e.action.code ++
      num1 e.classMode.code ++ opt1 (e.target.map (·.val)) ++ num2 (e.retagVid.getD 0) ++ num4 e.hits.toNat
  | none => num1 index ++ num1 0 ++ List.replicate 13 (octet 0)

/-- A fault record: its fields in the order of R183; active is 0 and inactive 1, by their places there, and
a record without a restart cause carries it as absent: DESIGN CHOICE (log 25). -/
def FaultRecord.octets (r : FaultRecord) : List Octet :=
  num1 r.source.code ++ num1 r.kind.code ++ num4 r.first ++ num4 r.last ++ num4 r.count ++ num1 (if r.active then 0 else 1) ++
    opt1 (r.restartCause.map (·.code))

end Sys2Proof.Machine
end

