-- ==== Sys2Proof/Machine/Ops.lean ====
section
/-! DEFINITION. The operations every block shares: the clock, the messages between blocks, the cells of the pool, and the
small views of a port that other blocks read. -/

namespace Sys2Proof.Machine

/-! ## The clock (log 2) -/

/-- Milliseconds and seconds in microseconds. -/
def ms (n : Nat) : Nat := n * 1000
def sec (n : Nat) : Nat := n * 1000000

/-- Whole seconds since power-on (R176). -/
def State.uptime (s : State) : Nat := s.now / 1000000

/-- Whole seconds since the last reset (R99, R119). -/
def State.sinceReset (s : State) : Nat := (s.now - s.resetAt) / 1000000

/-- An event of time `t` is taken: the clock stands at `t` or later. A timer cannot run out before its end (log 2). -/
def State.reach (t : Nat) (s : State) : State := { s with now := max s.now t }

/-- What is left of a timer that runs out at `t`, in microseconds. -/
def State.left (s : State) (t : Nat) : Nat := t - s.now

/-- What is left of a timer in whole seconds and milliseconds, rounded up (R41, R120). -/
def State.leftSeconds (s : State) (t : Nat) : Nat := ceilDiv (s.left t) 1000000
def State.leftMs (s : State) (t : Nat) : Nat := ceilDiv (s.left t) 1000

/-- The poll intervals in ms (00_scope.md, "Units and ranges"). -/
def pollInterval : Nat → Nat
  | 0 => 5 | 1 => 10 | 2 => 20 | 3 => 50 | 4 => 100 | 5 => 200 | 6 => 500 | _ => 1000

/-! ## Messages between blocks (log 1) -/

/-- A block sends a message that is a step of its own. -/
def State.post (m : Instr) (s : State) : State := { s with mail := s.mail ++ [m] }

/-- The message is taken: it is no longer on its way. -/
def State.taken (m : Instr) (s : State) : State := { s with mail := s.mail.erase m }

/-! ## What reaches the Pair Test Controller in order (R102) -/

/-- The blocks whose reports the Pair Test Controller takes in the order in which they were sent (R102). -/
inductive Reporter where
  | linePorts | measurement
deriving DecidableEq, Repr

/-- The block that sends a message to the Pair Test Controller as a report, if one of these does. The answers of the Line Port Controller count as
its reports: DEDUCED (log 63). -/
def reporter : Instr → Option Reporter
  | .portReport .. | .granted .. | .denied .. | .outDone | .outFailed | .backDone | .released .. | .portDisabledReport ..
  | .portHeldReport .. | .mismatchReport .. =>
    some .linePorts
  | .measurementItem .. | .measureDone => some .measurement
  | .powerOnReset .. | .directedReset | .trainingStarted .. | .trained .. | .rateChanged .. | .linkLost .. | .gapEnd ..
  | .settleEnd .. | .relaySenseChange .. | .idleTimerExpiry .. | .take .. | .transferOut .. | .transferBack .. | .release ..
  | .hazardReport .. | .portEnable .. | .portDisable .. | .portClear .. | .portWake .. | .portStatus .. | .frameStart ..
  | .cellRequest .. | .upstreamHeader .. | .downstreamHeader .. | .craftHeader .. | .frameEnd .. | .activityTimerExpiry ..
  | .capacityReport .. | .uplinkLinkStateChange .. | .computationComplete | .shareRead .. | .shareRecompute ..
  | .upstreamRefill .. | .downstreamRefill .. | .pauseChange .. | .uplinkCompletion | .lineCompletion .. | .craftCompletion
  | .craftLinkChange .. | .trialTimerExpiry | .ftCandidateClear .. | .ftCandidateCopy .. | .ftWrite .. | .ftRead ..
  | .ftActivate .. | .ftConfirm .. | .ftRevert .. | .testRequest .. | .waitDeadlineExpiry .. | .busShed | .busAdmit
  | .testAbort .. | .testSuspend .. | .testResume .. | .testbusClear .. | .testResult .. | .testList .. | .measureStart ..
  | .measureStop | .acquisitionEnd | .conversionSample .. | .listenSample .. | .listenWindowEnd | .dischargeGapEnd
  | .dischargeEnd | .measConfig .. | .measRead .. | .sweep .. | .watchRead .. | .contactPoll .. | .temperatureReading ..
  | .supplySample .. | .craftHoldExpiry | .evaluation | .contactConfig .. | .contactRead .. | .supplyRead .. | .thermalClear ..
  | .budgetRead .. | .agentFrameTakeIn | .reportPlacement | .reportAbandon | .lock .. | .unlock .. | .faultRead ..
  | .noticeTest .. | .subWrite .. | .subRead .. | .setWrite .. | .setRead .. | .countersRead .. | .resetDirective ..
  | .unknownDirective .. => none

/-- The reports of a block that are on their way, the oldest first. -/
def State.reportsOf (b : Reporter) (s : State) : List Instr := s.mail.filter fun m => reporter m == some b

/-- Whether a report of a block is the next one to be taken: the oldest on its way, or any while none is (log 1). -/
def State.inTurn (b : Reporter) (m : Instr) (s : State) : Bool :=
  match s.reportsOf b with
  | [] => true
  | first :: _ => first == m

/-- A report reaches the Pair Test Controller (R102): it is taken and has its effect when it is the next one of its block. Before that it has not
arrived, and the command has no effect (log 63). -/
def State.takeReport (b : Reporter) (m : Instr) (effect : State → Host.Outcome State Fault Refusal) (s : State) :
    Host.Outcome State Fault Refusal :=
  if s.inTurn b m then effect (s.taken m) else .next s

/-! ## The cell pool (R47) -/

/-- The three areas of the pool (R47). -/
inductive Area where
  | upstream | downstream | reserved
deriving DecidableEq, Repr

/-- Cells of the general area not held by either partition (R47). -/
def State.generalFree (s : State) : Nat := Config.generalCells - (s.cbm.upHeld + s.cbm.downHeld)

/-- The size of an area (R47, R48). -/
def State.areaSize (s : State) : Area → Nat
  | .upstream => s.settings.upstreamSize
  | .downstream => Config.generalCells - s.settings.upstreamSize
  | .reserved => Config.reservedCells

/-- The cells an area holds (R47). -/
def State.areaHeld (s : State) : Area → Nat
  | .upstream => s.cbm.upHeld
  | .downstream => s.cbm.downHeld
  | .reserved => s.cbm.reservedHeld

/-- The free count of an area (R47): for a partition the lesser of its size minus its held cells and the general free count,
never below 0. -/
def State.areaFree (s : State) (a : Area) : Nat :=
  match a with
  | .reserved => s.areaSize .reserved - s.areaHeld .reserved
  | a => min (s.areaSize a - s.areaHeld a) s.generalFree

/-- The held counts after `f` on one of them. -/
def Buffer.setHeld (a : Area) (f : Nat → Nat) (b : Buffer) : Buffer :=
  match a with
  | .upstream => { b with upHeld := f b.upHeld }
  | .downstream => { b with downHeld := f b.downHeld }
  | .reserved => { b with reservedHeld := f b.reservedHeld }

/-- A frame takes `n` cells of an area (R47): they are those of `State.newCells`. -/
def State.takeCells (a : Area) (n : Nat) (s : State) : State :=
  { s with cbm := { s.cbm.setHeld a (· + n) with picks := s.cbm.picks + n } }

/-- `n` cells become free in the area from which they were taken (R47). -/
def State.freeCells (a : Area) (n : Nat) (s : State) : State := { s with cbm := s.cbm.setHeld a (· - n) }

/-- The area a queue's cells come from (R53). -/
def QueueId.area : QueueId → Area
  | .ux _ | .ub _ => .upstream
  | .dx _ | .db _ => .downstream
  | .aq | .cq => .reserved

/-- The port of a subscriber queue (R53). -/
def QueueId.port : QueueId → Option Port
  | .ux p | .ub p | .dx p | .db p => some p
  | .aq | .cq => none

/-- The descriptors of a queue, head first (R53). -/
def State.queue (s : State) : QueueId → List Descriptor
  | .ux p => (s.cbm.queues.get p).ux
  | .ub p => (s.cbm.queues.get p).ub
  | .dx p => (s.cbm.queues.get p).dx
  | .db p => (s.cbm.queues.get p).db
  | .aq => s.cbm.aq
  | .cq => s.cbm.cq

/-- A queue replaced. -/
def State.setQueue (q : QueueId) (ds : List Descriptor) (s : State) : State :=
  match q with
  | .ux p => { s with cbm := { s.cbm with queues := s.cbm.queues.modify p fun x => { x with ux := ds } } }
  | .ub p => { s with cbm := { s.cbm with queues := s.cbm.queues.modify p fun x => { x with ub := ds } } }
  | .dx p => { s with cbm := { s.cbm with queues := s.cbm.queues.modify p fun x => { x with dx := ds } } }
  | .db p => { s with cbm := { s.cbm with queues := s.cbm.queues.modify p fun x => { x with db := ds } } }
  | .aq => { s with cbm := { s.cbm with aq := ds } }
  | .cq => { s with cbm := { s.cbm with cq := ds } }

/-- A queue's occupancy in cells (R53). -/
def cellsOf (ds : List Descriptor) : Nat := (ds.map (·.cells.length)).sum

/-- The 66 queues in the order of R53. -/
def allQueues : List QueueId :=
  allPorts.map .ux ++ allPorts.map .ub ++ allPorts.map .dx ++ allPorts.map .db ++ [.aq, .cq]

/-- The cells of a frame in reception and in transmission. -/
def Reception.held (r : Option Reception) : List Nat := match r with | some r => r.cells | none => []
def Transmission.held (t : Option Transmission) : List Nat := match t with | some t => t.desc.cells | none => []

/-- Every cell that a frame holds: in reception, in a queue, in transmission (R47). -/
def State.heldCells (s : State) : List Nat :=
  (allPorts.flatMap fun p => Reception.held (s.fcl.rxLine.get p)) ++ Reception.held s.fcl.rxUplink ++
    (allQueues.flatMap fun q => (s.queue q).flatMap (·.cells)) ++ Transmission.held s.txs.uplinkTx ++
    (allPorts.flatMap fun p => Transmission.held (s.txs.lineTx.get p)) ++ Transmission.held s.txs.craftTx

/-- The cells an area takes from: the two partitions share 0..4031, the reserved area has 4032..4095 (R47; the numbers are DESIGN CHOICE,
log 8). -/
def Area.cells : Area → List Nat
  | .upstream | .downstream => List.range Config.generalCells
  | .reserved => List.range' Config.generalCells Config.reservedCells

/-- The free cells an area takes from (R47). -/
def State.freeNumbers (a : Area) (s : State) : List Nat := a.cells.filter fun c => !s.heldCells.contains c

/-- `n` of the free cells, each once: which ones is a FREE VALUE (log 8). With no cell left it names cell 0, which no run reaches. -/
def pickCells : Nat → Nat → List Nat → List Nat
  | 0, _, _ => []
  | n + 1, k, free =>
    let c := (free[Config.cellPick k % free.length]?).getD 0
    c :: pickCells n (k + 1) (free.erase c)

/-- The `n` cells a frame takes next from an area (R47). -/
def State.newCells (a : Area) (n : Nat) (s : State) : List Nat := pickCells n s.cbm.picks (s.freeNumbers a)

/-- The cells a frame of `n` octets needs (R49, R59). -/
def cellsFor (n : Nat) : Nat := ceilDiv n Config.cellOctets

/-! ## Views of a port -/

/-- The subscriber record of a port (R187). -/
def State.sub (s : State) (p : Port) : Subscriber := s.mga.subscribers.get p

/-- The Port Record of a port (R1). -/
def State.port (s : State) (p : Port) : PortRecord := s.ports.get p

/-- The transfer phase (R1). -/
def PortRecord.phase (r : PortRecord) : TransferPhase :=
  match r.transfer with
  | none => .none
  | some t => match t.phase with | .gap => .gap | .settle => .settle

/-- Whether any held reason stands (R1). -/
def HeldReasons.any (h : HeldReasons) : Bool := h.relayMismatch || h.hazard

/-- The held reasons with one more. -/
def HeldReasons.add (reason : HeldReason) (h : HeldReasons) : HeldReasons :=
  match reason with
  | .relayMismatch => { h with relayMismatch := true }
  | .hazard => { h with hazard := true }

/-- Whether a doze cause is in the set. -/
def DozeCauses.has (c : DozeCauses) : DozeCause → Bool
  | .shed => c.shed
  | .thermal => c.thermal
  | .idle => c.idle

/-- The set with a cause put in (`true`) or taken out (`false`). -/
def DozeCauses.put (cause : DozeCause) (b : Bool) (c : DozeCauses) : DozeCauses :=
  match cause with
  | .shed => { c with shed := b }
  | .thermal => { c with thermal := b }
  | .idle => { c with idle := b }

/-- Whether the set is empty. -/
def DozeCauses.isEmpty (c : DozeCauses) : Bool := !c.shed && !c.thermal && !c.idle

/-- Whether the set is exactly SHED (R4). -/
def DozeCauses.onlyShed (c : DozeCauses) : Bool := c.shed && !c.thermal && !c.idle

/-- How the Power Budget Unit counts a port (R4, R170). -/
inductive LoadCondition where
  | none | demanding | reserved
deriving DecidableEq, Repr

/-- A port is a demanding load in DOWN, TRAINING and UP, and in DOZE with exactly SHED (R4); it is reserved in TEST with return
target DOWN and causes empty or exactly SHED (R170). -/
def PortRecord.load (r : PortRecord) : LoadCondition :=
  match r.state with
  | .down | .training | .up => .demanding
  | .doze => if r.causes.onlyShed then .demanding else .none
  | .test =>
    if r.returnTarget = some .down ∧ (r.causes.isEmpty ∨ r.causes.onlyShed) then .reserved else .none
  | .disabled | .held => .none

/-- The hazard and warn voltages of a level setting, in volts (R147). -/
def LevelSetting.volts (l : LevelSetting) : Nat := if l.highRange then 20 + 8 * l.code else 2 + 2 * l.code

/-- The effective hazard level in volts (R147). -/
def Settings.effectiveHazard (g : Settings) : Nat := max g.warnLevel.volts g.hazardLevel.volts

/-- The door open signal (R156). -/
def State.doorOpen (s : State) : Bool :=
  match s.settings.doorContact with
  | none => false
  | some k => (s.csu.contacts.get k).debounced == some false

/-- The heater output (R164). -/
def State.heaterOutput (s : State) : Bool := s.csu.heaterDemand && s.pbu.heaterSent == some .admitted

/-- The depth of a bucket from its burst field (R83). -/
def depthOf (burst : Nat) : Nat := max Config.minDepth burst

/-- The ports from `start` on in ascending order, wrapping from L15 to L0, each once (R88). -/
def ring (start : Port) : List Port := allPorts.map (start + ·)

end Sys2Proof.Machine
end

