-- ==== Sys2Proof/Machine/Flags.lean ====
section
/-! DEFINITION. The flags the spec computes: the flags of a report and of a notice frame (R179, R186, R193), the flags of
measurement items (R123), the OVERCOMMITTED flag (R75). -/

namespace Sys2Proof.Machine

/-- ALERT: the fault log holds at least one record (R179). -/
def Agent.alert (a : Agent) : Bool := !a.faults.isEmpty

/-- The flags octet of a report: ALERT, CHANGE, LOCKED, NOTICES_LOST, CRAFT from the least significant bit (R179, R193). -/
def Agent.reportFlags (a : Agent) (o : Origin) : List Octet :=
  setOctet [a.alert, a.changeMark, a.locked, a.lostMark, o == .craft]

/-- The flags octet of a notice frame: ALERT and LOCKED (R186, R193). -/
def Agent.noticeFlags (a : Agent) : List Octet := setOctet [a.alert, false, a.locked, false, false]

/-- The empty flag set of an item. -/
def ItemFlags.clear : ItemFlags := { saturated := false, limited := false, atOrAbove := false }

/-- A saturated sample (R123). -/
def isSaturated (code : Int) : Bool := code == -2048 || code == 2047

/-- A hazard: a voltage code whose magnitude is at or above the hazard code; an ISRC code never is (R123). -/
def isHazard (cfg : MeasConfig) (path : SensePath) (code : Int) : Bool :=
  path != .isrc && decide (cfg.hazardCode ≤ code.natAbs)

/-- The flags the samples of an accumulator give an item (R123). -/
def Accumulator.flags (a : Accumulator) : ItemFlags :=
  { saturated := a.saturated, limited := a.limited, atOrAbove := false }

/-- The OVERCOMMITTED flag of an outcome (R75). -/
def ShareOutcome.flag : ShareOutcome → Bool
  | .overcommitted => true
  | .shared | .floorOnly => false

end Sys2Proof.Machine
end

