-- ==== Sys2Proof/Machine/Transmit.lean ====
section
/-! DEFINITION. Starting frames: the uplink arbiter, the line transmitters, the craft transmitter, the frame as it is sent,
and placement in AQ and CQ (05; R57, R59). -/

namespace Sys2Proof.Machine

/-! ## Egress (R92, R95) -/

/-- A tagged frame sent with VID `vid` in its tag and a newly computed FCS; the priority code and the rest are kept (R92, R95). -/
def FrameImage.withVid (vid : Nat) (f : FrameImage) : FrameImage :=
  match f.header.tag with
  | none => f
  | some t => { f with header := { f.header with tag := some { t with vid := BitVec.ofNat 12 vid } }, newFcs := true }

/-- A tagged frame as its action sends it (R92, R95): RETAG replaces the VID; FORWARD leaves the frame as it is, but for a tag of VID 0. A RETAG
to the VID the tag holds already is sent with a new FCS too: R95 says so downstream, DEDUCED upstream (log 49). -/
def FrameImage.forwarded (r : Result) (f : FrameImage) : FrameImage :=
  if r.action = .retag ∨ (f.header.tag.map (·.vid)) = some 0#12 then f.withVid r.egressVid else f

/-- A frame with a tag inserted after its source address, holding `vid` and priority code 0 (R32, R92). -/
def FrameImage.insertTag (vid : Nat) (f : FrameImage) : FrameImage :=
  { f with
    header := { f.header with
      tag := some { priority := 0#3, dropEligible := Config.insertedTagDropEligible, vid := BitVec.ofNat 12 vid } }
    newFcs := true }

/-- What leaves when a descriptor's frame is sent, and its octets (R92, R95). A frame of the agent is sent as it was built. -/
def Descriptor.sent (d : Descriptor) : Transmission :=
  match d.result with
  | none => { desc := d, sent := d.image, octets := d.length }
  | some r =>
    if r.insertTag then { desc := d, sent := d.image.insertTag r.egressVid, octets := d.length + 4 }
    else { desc := d, sent := d.image.forwarded r, octets := d.length }

/-! ## The uplink (R86 to R91) -/

/-- The conditions of R86: transmitter free, held link state UP, pause off. -/
def State.uplinkMayStart (s : State) : Bool := s.txs.uplinkTx.isNone && s.scu.linkUp && !s.txs.paused

/-- Whether a queue holds a head of length at most `tokens` (R88, R94). -/
def headFits (ds : List Descriptor) (tokens : Nat) : Bool :=
  match ds with
  | [] => false
  | d :: _ => decide (d.length ≤ tokens)

/-- The head of `q` leaves its queue and is in transmission on the uplink (R57, R89). -/
def State.startUplink (q : QueueId) (s : State) : State :=
  match s.queue q with
  | [] => s
  | d :: rest =>
    let s := s.setQueue q rest
    { s with txs := { s.txs with uplinkTx := some d.sent } }

/-- The length of a queue's head, 0 when it is empty. -/
def headLength (ds : List Descriptor) : Nat :=
  match ds with
  | [] => 0
  | d :: _ => d.length

/-- A subscriber frame of port `p` is charged its descriptor's length (R89). -/
def State.chargeUp (p : Port) (n : Nat) (s : State) : State :=
  { s with txs := { s.txs with upBuckets := s.txs.upBuckets.modify p fun b => { b with tokens := b.tokens - n } } }

/-- The upstream tokens of a port (R83). -/
def State.upTokens (s : State) (p : Port) : Nat := (s.txs.upBuckets.get p).tokens

/-- An express choice of port `p`: charge, start, the express pointer moves past `p` (R89). -/
def State.startExpress (p : Port) (s : State) : State :=
  let n := headLength (s.queue (.ux p))
  let s := (s.chargeUp p n).startUplink (.ux p)
  { s with txs := { s.txs with expressPtr := p + 1 } }

/-- A bulk choice of port `p` (R89). -/
def State.startBulk (p : Port) (s : State) : State :=
  let n := headLength (s.queue (.ub p))
  let s := (s.chargeUp p n).startUplink (.ub p)
  { s with txs := { s.txs with bulkPtr := p + 1 } }

/-- The arbiter's choice (R88): the AQ head; else the first fitting UX head from the express pointer on; else the first fitting
UB head from the bulk pointer on; nothing when none fits or R86 does not allow a start. -/
def State.uplinkChoice (s : State) : State :=
  if s.uplinkMayStart then
    if s.cbm.aq.isEmpty then
      match (ring s.txs.expressPtr).find? fun p => headFits (s.queue (.ux p)) (s.upTokens p) with
      | some p => s.startExpress p
      | none =>
        match (ring s.txs.bulkPtr).find? fun p => headFits (s.queue (.ub p)) (s.upTokens p) with
        | some p => s.startBulk p
        | none => s
    else s.startUplink .aq
  else s

/-! ## The lines (R94) -/

/-- The head of `q` starts on line `p`, charged against the downstream tokens (R94). -/
def State.startLine (p : Port) (q : QueueId) (s : State) : State :=
  match s.queue q with
  | [] => s
  | d :: rest =>
    let s := s.setQueue q rest
    { s with
      txs := { s.txs with
        lineTx := s.txs.lineTx.set p (some d.sent)
        downBuckets := s.txs.downBuckets.modify p fun b => { b with tokens := b.tokens - d.length } } }

/-- The choice of line transmitter `p` (R94): DX when it holds a frame, else DB; the head starts when it fits. -/
def State.lineChoice (p : Port) (s : State) : State :=
  if (s.txs.lineTx.get p).isSome then s
  else
    let tokens := (s.txs.downBuckets.get p).tokens
    if (s.queue (.dx p)).isEmpty then
      if headFits (s.queue (.db p)) tokens then s.startLine p (.db p) else s
    else if headFits (s.queue (.dx p)) tokens then s.startLine p (.dx p) else s

/-! ## The craft port (R96) -/

/-- Whether the craft port takes and sends frames: powered, and its link indicates up (R96, R168). -/
def State.craftAlive (s : State) : Bool := s.csu.craftPowered && s.txs.craftLinkUp

/-- The craft transmitter starts the head of CQ when it is free and the port is alive (R96). -/
def State.craftChoice (s : State) : State :=
  if s.txs.craftTx.isNone && s.craftAlive then
    match s.cbm.cq with
    | [] => s
    | d :: rest =>
      let s := s.setQueue .cq rest
      { s with txs := { s.txs with craftTx := some d.sent } }
  else s

/-! ## Placement (R59) -/

/-- Whether the reserved area has the cells a frame of `length` octets needs (R59). -/
def State.hasRoom (s : State) (length : Nat) : Bool := decide (cellsFor length ≤ s.areaFree .reserved)

/-- A placed frame: its cells are taken and its descriptor is appended at the tail of AQ or CQ (R59). -/
def State.placeFrame (q : QueueId) (length : Nat) (image : FrameImage) (kind : AgentFrameKind) (s : State) : State :=
  let d : Descriptor :=
    { length := length, cells := s.newCells .reserved (cellsFor length), source := .agent, result := none, queue := q, image := image,
      agentKind := some kind }
  let s := s.takeCells .reserved (cellsFor length)
  s.setQueue q (s.queue q ++ [d])

end Sys2Proof.Machine
end

