-- ==== Sys2Proof/Machine/Reporting.lean ====
section
/-! DEFINITION. What the blocks report upward: notices and notice frames (10.5), the fault log (10.4), and what a freed
reserved cell sets off (R180, R186, R191). -/

namespace Sys2Proof.Machine

/-! ## Frames the agent builds (11) -/

/-- The length of a frame with `n` octets after the ethertype, before padding: addresses, a tag on the uplink, ethertype, FCS. -/
def builtLength (tagged : Bool) (n : Nat) : Nat := (if tagged then 22 else 18) + n

/-- A frame the agent builds: addressed to `dst`, tagged with `vid` on the uplink, padded with zero octets to 64 (R179, R186,
R197). The part's own address and the tag's priority are free values (log 11). -/
def buildFrame (dst : Address) (vid : Option Nat) (octets : List Octet) : FrameImage × Nat :=
  let n := builtLength vid.isSome octets.length
  let padding := List.replicate (Config.minFrame - n) (octet 0)
  ({ header :=
       { destination := dst, source := Config.ownAddress,
         tag := vid.map fun v =>
           { priority := Config.agentTagPriority, dropEligible := Config.agentTagDropEligible, vid := BitVec.ofNat 12 v },
         ethertype := Config.agentEthertype },
     payload := octets ++ padding, newFcs := true },
   n + padding.length)

/-- The agent header of a report or notice frame (R193). -/
def agentHeader (type : Nat) (cabinet : BitVec 16) (sequence count cut : Nat) (flags : List Octet) : List Octet :=
  num1 1 ++ num1 type ++ num2 cabinet.toNat ++ num2 sequence ++ num1 count ++ num1 cut ++ flags ++ num1 0

/-! ## Notices -/

/-- The place of a kind among the nine enables (R185). -/
def NoticeKind.index : NoticeKind → Fin 9
  | .portState => 0 | .testDone => 1 | .faultRaised => 2 | .contactChange => 3 | .stageChange => 4 | .trialReverted => 5
  | .overcommit => 6 | .restart => 7 | .noticeTest => 8

/-- Whether notices of a kind are enabled (R185). -/
def State.noticeEnabled (s : State) (k : NoticeKind) : Bool := s.settings.noticeEnables.get k.index

/-- A descriptor of a notice frame (R186). -/
def Descriptor.isNotice (d : Descriptor) : Bool := d.agentKind == some .notice

/-- A notice frame waits in AQ or is in transmission (R186). -/
def State.noticeFrameOut (s : State) : Bool :=
  s.cbm.aq.any Descriptor.isNotice || (match s.txs.uplinkTx with | some t => t.desc.isNotice | none => false)

/-- The attempt to build and place a notice frame (R186). -/
def State.tryNoticeFrame (s : State) : State :=
  match s.mga.destination with
  | none => s
  | some dst =>
    if s.mga.notices.isEmpty || !s.scu.linkUp || s.noticeFrameOut then s
    else
      let items := s.mga.notices.take Config.maxNoticeItems
      let octets := agentHeader 3 s.mga.cabinet 0 items.length 0 s.mga.noticeFlags ++ items.flatMap NoticeItem.octets
      let built := buildFrame dst.address (some dst.vid) octets
      if s.hasRoom built.2 then
        let s := s.placeFrame .aq built.2 built.1 .notice
        ({ s with mga := { s.mga with notices := s.mga.notices.drop Config.maxNoticeItems } } : State).uplinkChoice
      else s

/-- A notice item enters the queue (R185): a full queue first drops its oldest item. -/
def Agent.queueNotice (item : NoticeItem) (a : Agent) : Agent :=
  let a :=
    if a.notices.length < Config.maxNotices then a
    else { a with notices := a.notices.drop 1, lostMark := true, noticesDropped := bump a.noticesDropped }
  { a with notices := a.notices ++ [item], changeMark := true }

/-- A block raises a notice (R185): a disabled kind generates nothing; an item entering the queue brings the attempt of R186. -/
def State.raiseNotice (n : Notice) (s : State) : State :=
  if s.noticeEnabled n.kind then
    State.tryNoticeFrame { s with mga := s.mga.queueNotice { notice := n, uptime := s.uptime } }
  else s

/-! ## The fault log (R183, R184) -/

/-- Whether a record has this key (R183). -/
def FaultRecord.hasKey (src : FaultSource) (kind : FaultKind) (r : FaultRecord) : Bool := r.source == src && r.kind == kind

/-- Kinds whose conditions are latched (R183, step 3). -/
def FaultKind.latched : FaultKind → Bool
  | .relayMismatch | .hazard | .thermalShutdown => true
  | _ => false

/-- An active record that is essential (R183). -/
def essential (log : List FaultRecord) (r : FaultRecord) : Bool :=
  r.active &&
    match r.source, r.kind with
    | .line p, .relayMismatch => !log.any fun q => q.hasKey (.line p) .hazard && q.active
    | .line p, .hazard => !log.any fun q => q.hasKey (.line p) .relayMismatch && q.active
    | .testbus, .relayMismatch => true
    | _, .thermalShutdown => true
    | _, _ => false

/-- The log with a free place for a new record of `kind`, and how many active records were removed for it; `none` when no place
is found (R183). -/
def faultPlace (log : List FaultRecord) (kind : FaultKind) : Option (List FaultRecord × Nat) :=
  if log.length < Config.maxFaults then some (log, 0)
  else if log.any fun r => !r.active then some (log.eraseP fun r => !r.active, 0)
  else if kind.latched && log.any fun r => !essential log r then some (log.eraseP fun r => !essential log r, 1)
  else none

/-- A new record (R183). -/
def FaultRecord.fresh (src : FaultSource) (kind : FaultKind) (cause : Option RestartCause) (uptime : Nat) : FaultRecord :=
  { source := src, kind := kind, first := uptime, last := uptime, count := 1, active := kind != .restart, restartCause := cause }

/-- A record raised again (R183). -/
def FaultRecord.again (cause : Option RestartCause) (uptime : Nat) (r : FaultRecord) : FaultRecord :=
  { r with
    last := uptime, count := bump r.count, active := r.kind != .restart
    restartCause := if r.kind = .restart then cause else r.restartCause }

/-- The log after `f` on the record with a key. -/
def updateFault (src : FaultSource) (kind : FaultKind) (f : FaultRecord → FaultRecord) (log : List FaultRecord) : List FaultRecord :=
  log.map fun r => if r.hasKey src kind then f r else r

/-- The agent after a raise, and what the FAULT_RAISED item carries when one is due: the count and whether it was stored (R183). -/
def Agent.raise (src : FaultSource) (kind : FaultKind) (cause : Option RestartCause) (uptime : Nat) (a : Agent) :
    Agent × Option (Nat × Bool) :=
  match a.faults.find? (FaultRecord.hasKey src kind) with
  | some r =>
    ({ a with faults := updateFault src kind (FaultRecord.again cause uptime) a.faults },
     if r.active then none else some (bump r.count, true))
  | none =>
    match faultPlace a.faults kind with
    | some (log, removed) =>
      ({ a with faults := log ++ [.fresh src kind cause uptime], faultsLost := bump a.faultsLost removed }, some (1, true))
    | none => ({ a with faultsLost := bump a.faultsLost }, some (1, false))

/-- Kinds whose raises generate FAULT_RAISED items here (R183): not FOREIGN_VOLTAGE, whose notices the Line Watch Unit raises,
nor RESTART. -/
def FaultKind.announced : FaultKind → Bool
  | .foreignVoltage | .restart => false
  | _ => true

/-- A block raises a fault record (R183). -/
def State.raiseFault (src : FaultSource) (kind : FaultKind) (s : State) (cause : Option RestartCause := none) : State :=
  let res := s.mga.raise src kind cause s.uptime
  let s := { s with mga := res.1 }
  match res.2 with
  | some (count, stored) =>
    if kind.announced then s.raiseNotice (.faultRaised src kind count (some stored) none) else s
  | none => s

/-- A record is marked inactive; one that is inactive or not in the log is left as it is (R184). -/
def State.clearFault (src : FaultSource) (kind : FaultKind) (s : State) : State :=
  { s with mga := { s.mga with faults := updateFault src kind (fun r => { r with active := false }) s.mga.faults } }

/-! ## What a completion or discard of a frame from AQ or CQ sets off -/

/-- A descriptor of the report that answers RESET (R191). -/
def Descriptor.answersReset (d : Descriptor) : Bool := d.agentKind == some (.report true)

/-- The wait of a directed reset is over (R191): the reset may be taken. -/
def State.endResetWait (s : State) : State :=
  ({ s with mga := { s.mga with resetWait := .over } } : State).post .directedReset

/-- Reserved cells have been freed by the frames of `ds`: a directed reset that waited for one of them waits no longer (R191), a
kept report is offered again (R180), and a notice frame is attempted (R186). The notice frame is offered the freed cells first, in
this step, and the report after it, by the message that stands for its new offer: DESIGN CHOICE (log 58). -/
def State.afterAgentFrames (ds : List Descriptor) (s : State) : State :=
  let s := if ds.any Descriptor.answersReset then s.endResetWait else s
  let s :=
    match s.mga.exec with
    | .reporting r => if r.offeredAt.isSome then s.post .reportPlacement else s
    | _ => s
  s.tryNoticeFrame

/-- Every frame in CQ is discarded while the craft port is unpowered or its link is down: its cells return to the reserved area
and the craft discards counter rises (R96). -/
def State.discardCraft (s : State) : State :=
  let ds := s.cbm.cq
  if ds.isEmpty then s
  else
    let s := (s.freeCells .reserved (cellsOf ds)).setQueue .cq []
    let s := { s with txs := { s.txs with craftDiscards := bump s.txs.craftDiscards ds.length } }
    s.afterAgentFrames ds

end Sys2Proof.Machine
end

