-- ==== Sys2Proof/Machine/ShareOps.lean ====
section
/-! DEFINITION. The share computation: snapshot, stages, install, triggers, departures (04). -/

namespace Sys2Proof.Machine

/-! ## The snapshot (R64, R69) -/

/-- C_up as it enters a snapshot (R64). -/
def State.capacityUp (s : State) : Nat :=
  if s.scu.linkUp then
    match s.settings.capacitySource with
    | .reported => s.scu.latestReport.getD 0
    | .fixed => s.settings.fixedCapacity
  else 0

/-- Whether a port is in the activity set (R66). -/
def State.isActive (s : State) (p : Port) : Bool := (s.scu.activity.get p).isSome

/-- What a snapshot holds of an eligible port; a stored weight of 0 enters as 1 (R69). -/
def State.claim (s : State) (p : Port) : Claim :=
  let u := s.sub p
  { port := p, committed := u.committedUp, peak := u.upPeak, weight := max 1 u.weight,
    trained := match (s.port p).rates with | some r => r.up | none => 0 }

/-- A fresh snapshot (R69). -/
def State.snapshot (s : State) : Snapshot :=
  { cUp := s.capacityUp, reserve := s.settings.agentReserve, usablePercent := s.settings.usablePercent,
    claims := (allPorts.filter s.isActive).map s.claim }

/-! ## The stages (R70 to R74) -/

/-- Stage 0: the usable capacity (R70). -/
def Snapshot.usable (n : Snapshot) : Nat := (n.cUp - n.reserve) * n.usablePercent / 100

/-- Stage 1: the ceiling and the floor of an eligible port (R71). -/
def Claim.ceiling (c : Claim) : Nat := min c.peak c.trained
def Claim.floor (c : Claim) : Nat := min c.committed c.ceiling

/-- The sum of the floors, F (R71). -/
def Snapshot.floors (n : Snapshot) : Nat := (n.claims.map Claim.floor).sum

/-- Whether the computation is overcommitted (R71). -/
def Snapshot.overcommitted (n : Snapshot) : Bool := decide (n.usable ≤ n.floors) && decide (0 < n.floors)

/-- An unsaturated port of the water-filling: its headroom and weight (R73). -/
structure Filling where
  port : Port
  headroom : Nat
  weight : Nat
deriving DecidableEq, Repr

/-- The offer of a round (R73, step 2). -/
def offer (rest weights : Nat) (f : Filling) : Nat := rest * f.weight / weights

/-- The result of the water-filling: allotments, the remainder, the rounds made (R73). -/
structure Filled where
  allotments : List (Port × Nat)
  rest : Nat
  rounds : Nat
deriving DecidableEq, Repr

/-- The water-filling (R73). Each round fills the saturating ports or ends it, so sixteen rounds of fuel suffice. -/
def waterFill : Nat → List Filling → Nat → Filled
  | 0, _, rest => { allotments := [], rest := rest, rounds := 0 }
  | fuel + 1, fs, rest =>
    if fs.isEmpty then { allotments := [], rest := rest, rounds := 0 }
    else
      let weights := (fs.map (·.weight)).sum
      let full := fs.filter fun f => decide (f.headroom ≤ offer rest weights f)
      if full.isEmpty then
        let given := fs.map fun f => (f.port, offer rest weights f)
        { allotments := given, rest := rest - (given.map (·.2)).sum, rounds := 1 }
      else
        let others := fs.filter fun f => !decide (f.headroom ≤ offer rest weights f)
        let next := waterFill fuel others (rest - (full.map (·.headroom)).sum)
        { allotments := full.map (fun f => (f.port, f.headroom)) ++ next.allotments, rest := next.rest, rounds := next.rounds + 1 }

/-- The allotment of a port. -/
def Filled.of (f : Filled) (p : Port) : Nat :=
  match f.allotments.find? fun a => a.1 == p with
  | some a => a.2
  | none => 0

/-- The results of a computation: an entry for each eligible port, spare, outcome, rounds (R72 to R74). -/
structure Shares where
  entries : List (Port × ShareEntry)
  spare : Nat
  outcome : ShareOutcome
  rounds : Nat
deriving DecidableEq, Repr

/-- The overcommitted case: every floor scaled by C / F, rounded down (R72). -/
def Snapshot.scaled (n : Snapshot) : Shares :=
  let entries := n.claims.map fun c =>
    (c.port, { grant := c.floor * n.usable / n.floors, floor := c.floor, ceiling := c.ceiling, status := .scaled : ShareEntry })
  { entries := entries, spare := n.usable - (entries.map (·.2.grant)).sum, outcome := .overcommitted, rounds := 0 }

/-- The ports that still have headroom at the start of the water-filling (R73, step 1). -/
def Snapshot.unsaturated (n : Snapshot) : List Filling :=
  (n.claims.filter fun c => decide (c.floor < c.ceiling)).map fun c =>
    { port := c.port, headroom := c.ceiling - c.floor, weight := c.weight }

/-- The case in which the floors fit: the remainder is water-filled (R73, R74). -/
def Snapshot.filled (n : Snapshot) : Shares :=
  let fill := waterFill 17 n.unsaturated (n.usable - n.floors)
  let entries := n.claims.map fun c =>
    let grant := c.floor + fill.of c.port
    (c.port,
      { grant := grant, floor := c.floor, ceiling := c.ceiling
        status := if grant = c.ceiling then .saturated else .shared : ShareEntry })
  { entries := entries, spare := fill.rest
    outcome := if entries.any fun e => decide (e.2.floor < e.2.grant) then .shared else .floorOnly, rounds := fill.rounds }

/-- What a computation comes to on its snapshot (R71 to R74). -/
def Snapshot.compute (n : Snapshot) : Shares := if n.overcommitted then n.scaled else n.filled

/-- The entry a computation gives a port: INELIGIBLE with zeros when it is not eligible (R74, R76). -/
def Shares.entryOf (r : Shares) (p : Port) : ShareEntry :=
  match r.entries.find? fun e => e.1 == p with
  | some e => e.2
  | none => .none

/-! ## Triggers and departures (R77 to R79) -/

/-- A computation starts from a fresh snapshot (R69, R79). -/
def State.startComputation (s : State) : State :=
  { s with scu := { s.scu with computation := some { snapshot := s.snapshot, recompute := false, departed := Row.all false } } }

/-- A trigger is taken (R79): in IDLE a computation starts; in RUNNING recompute pending becomes yes. -/
def State.trigger (s : State) : State :=
  match s.scu.computation with
  | none => s.startComputation
  | some c => { s with scu := { s.scu with computation := some { c with recompute := true } } }

/-- Whether a port is in a computation's eligible set. -/
def Computation.eligible (c : Computation) (p : Port) : Bool := c.snapshot.claims.any fun k => k.port == p

/-- The SCU's part of a departure from UP (R68, R77): the entry is zeroed, the port leaves the activity set, and it is marked
departed when the running computation counts it. -/
def Share.depart (p : Port) (x : Share) : Share :=
  { x with
    table := { x.table with entries := x.table.entries.set p .none }
    activity := x.activity.set p none
    computation := x.computation.map fun c =>
      if c.eligible p then { c with departed := c.departed.set p true } else c }

/-- The table an install writes (R76). -/
def Computation.install (c : Computation) (t : ShareTable) : ShareTable :=
  let r := c.snapshot.compute
  { entries := Row.make fun p => if c.departed.get p then .none else r.entryOf p
    cUp := c.snapshot.cUp, usable := c.snapshot.usable, floors := c.snapshot.floors, spare := r.spare, outcome := r.outcome
    overcommitted := r.outcome.flag, rounds := r.rounds, sequence := t.sequence + 1#16 }

/-- The flush of a port's four queues (R58): every descriptor is removed, its cells are returned, each is counted FLUSHED. -/
def State.flush (p : Port) (s : State) : State :=
  let q := s.cbm.queues.get p
  let s := (s.freeCells .upstream (cellsOf q.ux + cellsOf q.ub)).freeCells .downstream (cellsOf q.dx + cellsOf q.db)
  { s with
    cbm := { s.cbm with
      queues := s.cbm.queues.set p .empty
      drops := s.cbm.drops.modify p fun d =>
        { d with
          flushedUp := bump d.flushedUp (q.ux.length + q.ub.length)
          flushedDown := bump d.flushedDown (q.dx.length + q.db.length) } } }

/-- Both buckets of a port are emptied (R85). -/
def State.emptyBuckets (p : Port) (s : State) : State :=
  { s with
    txs := { s.txs with
      upBuckets := s.txs.upBuckets.modify p fun b => { b with tokens := 0, remainder := 0 }
      downBuckets := s.txs.downBuckets.modify p fun b => { b with tokens := 0, remainder := 0 } } }

/-- What a port's departure from UP does to the other blocks (R3, R58, R68, R77, R85), with the trigger of R78. -/
def State.leaveUp (p : Port) (s : State) : State :=
  let s := (s.flush p).emptyBuckets p
  State.trigger { s with scu := s.scu.depart p }

end Sys2Proof.Machine
end

