-- ==== Sys2Proof/Machine/PortOps.lean ====
section
/-! DEFINITION. What a change of a Port Record brings with it (R3, R4, R5), the watches that follow it (R146), doze causes (R14,
R15), the power budget's evaluation (R170 to R173), return to service (R18), the held state (R10 to R12), wakes (R16). -/

namespace Sys2Proof.Machine

/-! ## The watches (08) -/

/-- The declared level of a pair (R145). -/
def WatchRecord.level (w : WatchRecord) : WatchLevel :=
  if w.hazardDeclared then .hazard else if w.warnDeclared then .warn else .none

/-- The comparison of R151: a declared level that differs from the last reported one is reported and becomes it. -/
def State.reportLevel (p : Port) (s : State) : State :=
  let w := s.lwu.records.get p
  if w.level = w.lastReported then s
  else
    let s := { s with lwu := { s.lwu with records := s.lwu.records.set p { w with lastReported := w.level } } }
    s.raiseNotice (.faultRaised (.line p) .foreignVoltage 0 none
      (some { previous := w.lastReported, now := w.level, stillWatched := w.fvWatched }))

/-- The interval of the sweep timer in ms (R148). -/
def State.sweepInterval (s : State) : Nat :=
  match s.csu.stage with
  | some .mains | some .normal => pollInterval s.settings.watchPoll
  | some .economy | some .conserve | none => pollInterval s.settings.economyPoll

/-- The sweep timer starts with the full interval in force (R148). -/
def State.startSweepTimer (s : State) : State :=
  let i := s.sweepInterval
  { s with lwu := { s.lwu with timer := some { interval := i, ends := s.now + ms i } } }

/-- Whether any pair is watched, of either kind. -/
def Watch.anyWatched (w : Watch) : Bool := w.records.toList.any fun r => r.fvWatched || r.wakeWatched

/-- The timer follows the watches (R148): it starts when a pair becomes watched while it is stopped, and stops when none is left. -/
def State.settleSweepTimer (s : State) : State :=
  if s.lwu.anyWatched then
    match s.lwu.timer with
    | none => s.startSweepTimer
    | some _ => s
  else { s with lwu := { s.lwu with timer := none } }

/-- Whether a pair is to be watched for foreign voltage (R146). -/
def State.wantsFv (s : State) (p : Port) : Bool :=
  s.lwu.armed && (s.sub p).watch && (s.port p).state != .test

/-- Whether a pair is to be watched for wake energy (R146). -/
def State.wantsWake (s : State) (p : Port) : Bool :=
  s.lwu.armed && (s.sub p).wake && (s.port p).state == .doze

/-- The record after its watch fields are worked out again (R146): a watch that begins starts its counts at 0, and one that ends resets
them. -/
def WatchRecord.rewatched (fv wake : Bool) (w : WatchRecord) : WatchRecord :=
  let w :=
    if fv = w.fvWatched then w
    else
      { w with
        fvWatched := fv, warnCount := 0, hazardCount := 0, warnDeclared := false, hazardDeclared := false
        lastSample := if fv then w.lastSample else none }
  if wake = w.wakeWatched then w else { w with wakeWatched := wake, wakeSeen := false }

/-- Both watch fields of a pair are worked out again, with what the beginning or end of a watch brings (R146, R148, R151). -/
def State.rewatch (p : Port) (s : State) : State :=
  let old := s.lwu.records.get p
  let fv := s.wantsFv p
  let s := { s with lwu := { s.lwu with records := s.lwu.records.set p (old.rewatched fv (s.wantsWake p)) } }
  let s := s.settleSweepTimer
  if old.fvWatched && !fv then
    let s := if old.warnDeclared || old.hazardDeclared then s.clearFault (.line p) .foreignVoltage else s
    s.reportLevel p
  else s

/-! ## Changing a Port Record (R3, R4, R5) -/

/-- The record with its transceiver order as R5 gives it: OFF in DISABLED, DOZE, TEST and HELD; in DOWN it becomes ON once the relays
stand at NORMAL with no transfer. -/
def PortRecord.ordered (r : PortRecord) : PortRecord :=
  { r with
    orderOn :=
      match r.state with
      | .disabled | .doze | .test | .held => false
      | .down => r.orderOn || (r.position == .normal && r.transfer.isNone)
      | .training | .up => r.orderOn }

/-- A record that leaves UP loses its rates and idle timer (R3). -/
def PortRecord.outOfUp (r : PortRecord) : PortRecord := if r.state = .up then r else { r with rates := none, idleTimer := none }

/-- The record becomes the port's, with line orders (R5) and, when the port leaves UP, R3's effects on the other blocks. -/
def State.installPort (p : Port) (r : PortRecord) (s : State) : State :=
  let old := s.port p
  let s := { s with ports := s.ports.set p r.outOfUp.ordered }
  if old.state = .up ∧ r.state ≠ .up then s.leaveUp p else s

/-- A change of a Port Record with its reports (R4): R3's departure, the watches, the report of the state to the Pair Test Controller (R102),
the evaluation for a change of demand or of the reserved condition (R170, R172) unless the Power Budget Unit has already made it (R18), and
the PORT_STATE notice. A port that was counted as demanding on its return to service and enters DOZE with THERMAL brings a further evaluation only
when it leaves the reserved condition: DESIGN CHOICE (log 60). -/
def State.changePort (p : Port) (r : PortRecord) (s : State) (evaluated : Bool := false) : State :=
  let old := s.port p
  let s := (s.installPort p r).rewatch p
  let s := if old.state = r.state then s else s.post (.portReport p r.state r.held.any r.phase)
  let s := if old.load = r.load ∨ (evaluated ∧ r.load = .demanding) then s else s.post .evaluation
  if old.state = r.state then s else s.raiseNotice (.portState p r.state r.causes r.held r.wakePending)

/-- A Port Record changed in fields that no other block follows. -/
def State.modifyPort (p : Port) (f : PortRecord → PortRecord) (s : State) : State := { s with ports := s.ports.modify p f }

/-- A port counter changed (R24). -/
def State.countPort (p : Port) (f : PortCounters → PortCounters) (s : State) : State :=
  s.modifyPort p fun r => { r with counters := f r.counters }

/-- The dozes counter increased by one (R24). -/
def PortCounters.dozed (c : PortCounters) : PortCounters := { c with dozes := bump c.dozes }

/-! ## Doze causes (R14, R15) -/

/-- A doze cause is added to a port (R14). -/
def State.addDoze (p : Port) (cause : DozeCause) (s : State) : State :=
  let r := s.port p
  match r.state with
  | .down | .training | .up =>
    s.changePort p { r with state := .doze, causes := DozeCauses.empty.put cause true, counters := r.counters.dozed }
  | .doze => s.changePort p { r with causes := r.causes.put cause true }
  | .test => if r.returnTarget = some .down then s.changePort p { r with causes := r.causes.put cause true } else s
  | .disabled | .held => s

/-- The Power Budget Unit removes SHED from a port (R15): a port in DOZE whose set becomes empty enters DOWN. -/
def State.removeShed (p : Port) (s : State) : State :=
  let r := s.port p
  if r.causes.shed then
    let causes := r.causes.put .shed false
    match r.state with
    | .doze =>
      if causes.isEmpty then s.changePort p { r with state := .down, causes := causes, wakePending := false }
      else s.changePort p { r with causes := causes }
    | .test => if r.returnTarget = some .down then s.changePort p { r with causes := causes } else s
    | _ => s
  else s

/-! ## The power budget (R170 to R173) -/

/-- A load that wants power (R170). -/
structure LoadWant where
  load : LoadId
  reserved : Bool
  power : Nat
  rank : Nat
deriving DecidableEq, Repr

/-- Whether a port is a load: demanding or reserved (R170), or counted as demanding for its return to service (R172). -/
def State.portWant (s : State) (counted : Option Port) (p : Port) : Option LoadWant :=
  let want (reserved : Bool) : Option LoadWant :=
    some { load := .port p, reserved := reserved, power := (s.sub p).portPower, rank := (s.sub p).shedRank }
  if counted = some p then want false
  else
    match (s.port p).load with
    | .demanding => want false
    | .reserved => want true
    | .none => none

/-- The heater as a load (R170). -/
def State.heaterWant (s : State) : Option LoadWant :=
  if s.csu.heaterDemand then
    some { load := .heater, reserved := false, power := s.settings.heaterPower, rank := s.settings.heaterRank }
  else none

/-- The test bus as a load (R170). -/
def State.busWant (s : State) : Option LoadWant :=
  if s.ptc.demand then some { load := .testBus, reserved := false, power := s.settings.busPower, rank := s.settings.busRank } else none

/-- Every load that wants power, in the order within one rank: the heater, the test bus, the ports in ascending number (R170). -/
def State.wants (s : State) (counted : Option Port) : List LoadWant :=
  s.heaterWant.toList ++ s.busWant.toList ++ allPorts.filterMap (s.portWant counted)

/-- The load list in keep order: rank 7 down to 0 (R170). -/
def State.loadList (s : State) (counted : Option Port) : List LoadWant :=
  [7, 6, 5, 4, 3, 2, 1, 0].flatMap fun rank => (s.wants counted).filter fun w => w.rank == rank

/-- The budget of a stage (R169). -/
def Settings.budget (g : Settings) : Stage → Nat
  | .mains => g.budgetMains
  | .normal => g.budgetNormal
  | .economy => g.budgetEconomy
  | .conserve => g.budgetConserve

/-- The available power: the stage's budget minus the base load (R171). While undecided R171 gives no figure; the model takes 0: DESIGN CHOICE
(log 54). -/
def State.available (s : State) : Nat :=
  match s.csu.stage with
  | some st => s.settings.budget st - s.settings.baseLoad
  | none => 0

/-- Whether every load is shed, whatever its power: the stage is undecided, or the base load is above the budget (R171). -/
def State.shedsAll (s : State) : Bool :=
  match s.csu.stage with
  | some st => decide (s.settings.budget st < s.settings.baseLoad)
  | none => true

/-- The walk of R171: loads are admitted while each fits and none has been shed; from the first miss on every load is shed. -/
def walkLoads : List LoadWant → Nat → Bool → List LoadEntry
  | [], _, _ => []
  | w :: ws, remaining, missed =>
    if !missed && decide (w.power ≤ remaining) then
      { load := w.load, reserved := w.reserved, power := w.power, rank := w.rank, decision := .admitted,
        remaining := remaining - w.power } :: walkLoads ws (remaining - w.power) false
    else
      { load := w.load, reserved := w.reserved, power := w.power, rank := w.rank, decision := .shed, remaining := remaining } ::
        walkLoads ws remaining true

/-- The evaluation made now (R171). -/
def State.evaluationNow (s : State) (counted : Option Port) : Evaluation :=
  { available := s.available, entries := walkLoads (s.loadList counted) s.available s.shedsAll }

/-- The decision of an evaluation for a load, if it is in the list. -/
def Evaluation.decisionFor (e : Evaluation) (l : LoadId) : Option Decision :=
  (e.entries.find? fun x => x.load == l).map (·.decision)

/-- The last decision sent for a load (R173). -/
def Budget.sent (b : Budget) : LoadId → Option Decision
  | .port p => b.portSent.get p
  | .heater => b.heaterSent
  | .testBus => b.busSent

/-- A decision recorded as the last sent (R173). -/
def Budget.setSent (l : LoadId) (d : Option Decision) (b : Budget) : Budget :=
  match l with
  | .port p => { b with portSent := b.portSent.set p d }
  | .heater => { b with heaterSent := d }
  | .testBus => { b with busSent := d }

/-- Loads that are not in the list have no last decision (R173). -/
def Budget.dropAbsent (e : Evaluation) (b : Budget) : Budget :=
  let keep (l : LoadId) (d : Option Decision) : Option Decision := if (e.decisionFor l).isSome then d else none
  { b with
    portSent := b.portSent.mapEach fun p d => keep (.port p) d
    heaterSent := keep .heater b.heaterSent
    busSent := keep .testBus b.busSent }

/-- The decision for one load is handed on when it differs from the last one sent (R173). The decision for the port that asked on its return to
service is recorded alone: the LPC forms its causes from the answer (R172). -/
def State.handOn (counted : Option Port) (x : LoadEntry) (s : State) : State :=
  if s.pbu.sent x.load = some x.decision then s
  else
    let s := { s with pbu := s.pbu.setSent x.load (some x.decision) }
    match x.load with
    | .port p =>
      if counted = some p then s
      else match x.decision with
        | .shed => s.addDoze p .shed
        | .admitted => s.removeShed p
    | .heater => s
    | .testBus =>
      match x.decision with
      | .shed => s.post .busShed
      | .admitted => s.post .busAdmit

/-- The Power Budget Unit evaluates and hands on its decisions (R171, R173). -/
def State.evaluate (counted : Option Port) (s : State) : State :=
  let e := s.evaluationNow counted
  let s := { s with pbu := { s.pbu.dropAbsent e with last := some e } }
  e.entries.foldl (fun s x => s.handOn counted x) s

/-! ## Return to service (R18) -/

/-- The port `p` is about to enter DOWN with the record `r` (its causes empty): it asks the Power Budget Unit, forms its causes from the
thermal latch and the answer, and enters DOWN or DOZE (R18, R172). With THERMAL it enters DOZE although the evaluation counted it as demanding, and no
further evaluation takes it out again, unless it leaves the reserved condition: DESIGN CHOICE (log 60). -/
def State.returnToService (p : Port) (r : PortRecord) (keepWake : Bool) (s : State) : State :=
  let s := s.evaluate (some p)
  let causes : DozeCauses :=
    { shed := s.pbu.portSent.get p == some .shed, thermal := s.csu.thermalLatch, idle := false }
  if causes.isEmpty then
    s.changePort p { r with state := .down, causes := causes, wakePending := false } (evaluated := true)
  else
    s.changePort p
      { r with state := .doze, causes := causes, wakePending := keepWake && r.wakePending, counters := r.counters.dozed }
      (evaluated := true)

/-- A doze cause other than SHED is removed from a port (R15): a port in DOZE whose set becomes empty returns to service. -/
def State.removeDoze (p : Port) (cause : DozeCause) (s : State) : State :=
  let r := s.port p
  if r.causes.has cause then
    let causes := r.causes.put cause false
    match r.state with
    | .doze =>
      if causes.isEmpty then s.returnToService p { r with causes := causes, wakePending := false } false
      else s.changePort p { r with causes := causes }
    | .test => if r.returnTarget = some .down then s.changePort p { r with causes := causes } else s
    | _ => s
  else s

/-- A wake reaches a port (R16). A wake from the Line Watch Unit reaches DOZE, one from PORT_WAKE reaches DOZE and TEST. -/
def State.wake (p : Port) (fromTest : Bool) (s : State) : State :=
  let r := s.port p
  if r.state = .doze ∨ (fromTest ∧ r.state = .test) then
    let left := r.causes.put .idle false
    if left.isEmpty then
      if r.state = .doze then s.removeDoze p .idle else s.changePort p { r with causes := left }
    else s.changePort p { r with causes := left, wakePending := true }
  else s

/-! ## The held state (R10 to R12) -/

/-- The fault kind of a held reason (R11). -/
def heldFault : HeldReason → FaultKind
  | .relayMismatch => .relayMismatch
  | .hazard => .hazard

/-- The hazard holds counter increases at a hazard (R11, R12). -/
def PortCounters.heldFor (reason : HeldReason) (c : PortCounters) : PortCounters :=
  match reason with
  | .hazard => { c with hazardHolds := bump c.hazardHolds }
  | .relayMismatch => c

/-- The record of a port that enters HELD (R11). -/
def PortRecord.enterHeld (reason : HeldReason) (r : PortRecord) : PortRecord :=
  { r with
    state := .held, position := .isolated, transfer := none, heldOrder := none, lineClosedCmd := false, testClosedCmd := false
    held := r.held.add reason, causes := .empty, wakePending := false, testRef := none
    returnTarget :=
      some (if r.state = .disabled ∨ (r.state = .test ∧ r.returnTarget = some .disabled) then .disabled else .down)
    counters := r.counters.heldFor reason }

/-- A mismatch or hazard takes a port to HELD (R11); a port already held gains the reason and stays where it is (R12). -/
def State.hold (p : Port) (reason : HeldReason) (s : State) : State :=
  let r := s.port p
  if r.state = .held ∨ (r.state = .disabled ∧ r.held.any) then
    (s.modifyPort p fun r => { r with held := r.held.add reason, counters := r.counters.heldFor reason }).raiseFault (.line p) (heldFault reason)
  else
    let s := (s.changePort p (r.enterHeld reason)).raiseFault (.line p) (heldFault reason)
    match r.state, r.testRef with
    | .test, some id => s.post (.portHeldReport id reason)
    | _, _ => s

/-- A relay mismatch (R10): the relay faults counter, the report to the Pair Test Controller (which says whether the pair's test relay reads closed
while commanded open), and the held state. One comparison is one mismatch: DEDUCED (log 16). The report goes by the test relay as it stands then, by
the commands before the hold, also where the comparison that failed was the line relay's: DESIGN CHOICE (log 57). -/
def State.mismatch (p : Port) (s : State) : State :=
  let r := s.port p
  let s := s.countPort p fun c => { c with relayFaults := bump c.relayFaults }
  (s.post (.mismatchReport p (r.testClosedSense && !r.testClosedCmd))).hold p .relayMismatch

end Sys2Proof.Machine
end

