-- ==== Sys2Proof/Machine/TestOps.lean ====
section
/-! DEFINITION. The Pair Test Controller's operations: bus demand, selection, the end of a request, early endings (06). -/

namespace Sys2Proof.Machine

/-! ## Demand (R103) -/

/-- The port tests of R104 (step 2), on what the LPC's reports have said of the port. -/
def PortView.takeable (v : PortView) (mode : TestMode) : Bool :=
  v.state != .held && !(v.state == .disabled && v.held) && v.phase == .none && !(v.state == .up && mode == .waitIdle)

/-- Whether a test policy permits a mode (R100, R104). -/
def TestPolicy.permits : TestPolicy → TestMode → Bool
  | .noTest, _ => false
  | .idleOnly, .waitIdle => true
  | .idleOnly, .intrude => false
  | .any, _ => true

/-- Whether a queued request passes the port tests. -/
def PairTest.isTakeable (t : PairTest) (r : Request) : Bool :=
  r.status == .waiting && PortView.takeable (t.view.get r.port) r.mode

/-- What the bus demand is to be (R103). -/
def PairTest.demandNow (t : PairTest) : Bool :=
  t.course.isSome || (t.state != .suspended && !t.suspendPending && !t.blocked && t.requests.any t.isTakeable)

/-- The demand is worked out again; a change is reported to the Power Budget Unit (R103). -/
def State.workDemand (s : State) : State :=
  let d := s.ptc.demandNow
  if d = s.ptc.demand then s else ({ s with ptc := { s.ptc with demand := d } } : State).post .evaluation

/-! ## The request list (R99, R100) -/

/-- The running request (R99). -/
def PairTest.running (t : PairTest) : Option Request := t.requests.find? fun r => r.status == .running

/-- The record of an id in the list. -/
def PairTest.record (t : PairTest) (id : Nat) : Option Request := t.requests.find? fun r => r.id == id

/-- The id after one (R100). -/
def idAfter (n : Nat) : Nat := if n < 65535 then n + 1 else 1

/-- The first id from `n` on that is not among `used`; at most as many are passed over as `fuel` (R100). -/
def freshId (used : List Nat) : Nat → Nat → Nat
  | 0, n => n
  | fuel + 1, n => if used.contains n then freshId used fuel (idAfter n) else n

/-- The list with a new record in its place (R100): an URGENT one behind the last URGENT one, a NORMAL one at the tail. -/
def insertRequest (r : Request) (rs : List Request) : List Request :=
  match r.urgency with
  | .urgent => (rs.takeWhile fun q => q.urgency == .urgent) ++ r :: rs.dropWhile fun q => q.urgency == .urgent
  | .normal => rs ++ [r]

/-- The status of a record changed. -/
def setStatus (id : Nat) (st : RequestStatus) (rs : List Request) : List Request :=
  rs.map fun r => if r.id = id then { r with status := st } else r

/-! ## Results (R110, R119) -/

/-- The result log with a new record at its end; the oldest makes room (R119). -/
def pushResult (r : ResultRecord) (log : List ResultRecord) : List ResultRecord :=
  (if log.length < Config.maxResults then log else log.drop 1) ++ [r]

/-- Steps 1 to 3 of R110: the result is logged, TEST_DONE is raised, the record leaves the list. -/
def State.concludeRequest (r : Request) (o : TestOutcome) (c : Option TestCause) (items : List Item) (s : State) : State :=
  let res : ResultRecord := { request := r, outcome := o, cause := c, items := items, ended := s.sinceReset }
  let s := { s with ptc := { s.ptc with log := pushResult res s.ptc.log } }
  let s := s.raiseNotice (.testDone r.id r.port r.kind o c items.length)
  { s with ptc := { s.ptc with requests := s.ptc.requests.filter fun q => q.id != r.id } }

/-- A queued request ends without having run (R104, R105, R110, R112). -/
def State.endQueued (r : Request) (o : TestOutcome) (c : Option TestCause) (s : State) : State :=
  (s.concludeRequest r o c []).workDemand

/-! ## Selection (R104, R106) -/

/-- A request is selected: it runs, TAKE is sent, the controller enters CLAIM (R104, R106). -/
def State.startRequest (r : Request) (s : State) : State :=
  ({ s with
      ptc := { s.ptc with
        requests := setStatus r.id .running s.ptc.requests
        course := some { pending := none, cause := none, items := [], releaseSent := false }
        state := .claim } } : State).post (.take r.id r.port (r.mode == .intrude))

/-- The walk of a selection (R104). -/
def walkRequests : List Request → State → State
  | [], s => s
  | r :: rs, s =>
    if r.status = .running then walkRequests rs s
    else if (s.sub r.port).policy.permits r.mode then
      if s.ptc.isTakeable r then s.startRequest r else walkRequests rs s
    else walkRequests rs (s.endQueued r .aborted (some .policy))

/-- A selection event: in IDLE, with the bus neither BLOCKED nor shed, the list is walked (R104). -/
def State.select (s : State) : State :=
  (if s.ptc.state = .idle ∧ !s.ptc.blocked ∧ !s.ptc.shedMark then walkRequests s.ptc.requests s else s).workDemand

/-- The controller moves on when no request runs any more: SUSPENDED when that is pending, else IDLE with a selection (R106, R110). -/
def State.moveOn (s : State) : State :=
  if s.ptc.suspendPending then
    State.workDemand { s with ptc := { s.ptc with suspendPending := false, state := .suspended } }
  else State.select { s with ptc := { s.ptc with state := .idle } }

/-- The running request ends (R110). -/
def State.endRunning (r : Request) (o : TestOutcome) (c : Option TestCause) (s : State) : State :=
  let items := match s.ptc.course with | some k => k.items | none => []
  let s := s.concludeRequest r o c items
  (State.workDemand { s with ptc := { s.ptc with owner := none, course := none } }).moveOn

/-! ## The running request's course -/

/-- The course of the running request changed. -/
def State.setCourse (k : Course) (s : State) : State := { s with ptc := { s.ptc with course := some k } }

/-- The controller state changed. -/
def State.enterPtc (st : ControllerState) (s : State) : State := { s with ptc := { s.ptc with state := st } }

/-- RELEASE is sent (R106, R107, R109). -/
def State.sendRelease (k : Course) (p : Port) (s : State) : State := (s.setCourse { k with releaseSent := true }).post (.release p)

/-- Whether an early ending replaces a pending outcome (R111): RELAY_FAULT any, the others absent, PASS and FAIL. -/
def replaces (o : TestOutcome) (pending : Option TestOutcome) : Bool :=
  o == .relayFault || pending == none || pending == some .pass || pending == some .fail

/-- The course after an early ending's outcome (R111). -/
def Course.ended (o : TestOutcome) (c : Option TestCause) (k : Course) : Course :=
  if replaces o k.pending then { k with pending := some o, cause := c } else k

/-- An early ending of the running request (R111): its pending outcome is set, and in MEASURE the steps are stopped and the relays sent
back. In the other states the course goes on as R106, R107 and R109 give it. -/
def State.earlyEnding (o : TestOutcome) (c : Option TestCause) (s : State) : State :=
  match s.ptc.course, s.ptc.running with
  | some k, some r =>
    let s := s.setCourse (k.ended o c)
    if s.ptc.state = .measure then ((s.post .measureStop).post (.transferBack r.port)).enterPtc .transferBack else s
  | _, _ => s

end Sys2Proof.Machine
end

