-- ==== Sys2Proof/Machine/MeasureOps.lean ====
section
/-! DEFINITION. The Measurement Unit's arithmetic and its steps (07): means, items, thresholds, the level detector, the frame decoder,
and how a run goes on. -/

namespace Sys2Proof.Machine

/-! ## Arithmetic -/

/-- The mean of `n` codes that sum to `sum`, rounded to nearest with halves away from zero (R129, R131, R133). -/
def roundedMean (sum : Int) (n : Nat) : Int :=
  let m : Int := ((2 * sum.natAbs + n) / (2 * n) : Nat)
  if sum < 0 then -m else m

/-- No sample yet. -/
def Accumulator.zero : Accumulator :=
  { taken := 0, sum := 0, high := 0, low := 0, ampSum := 0, saturated := false, limited := false }

/-- One more sample (R123, R129, R131): a voltage code, or a code of ISRC. -/
def Accumulator.add (amps : Bool) (code : Int) (limit : Bool) (a : Accumulator) : Accumulator :=
  { taken := a.taken + 1
    sum := if amps then a.sum else a.sum + code
    high := if a.taken = 0 then code else max a.high code
    low := if a.taken = 0 then code else min a.low code
    ampSum := if amps then a.ampSum + code else a.ampSum
    saturated := a.saturated || isSaturated code
    limited := a.limited || limit }

/-! ## Items -/

/-- The items of an FV step (R129, R130). -/
def fvItems (cfg : MeasConfig) (path : SensePath) (a : Accumulator) : List Item :=
  let dc := roundedMean a.sum 80
  let ac : Nat := (a.high - a.low).toNat / 2
  let item (name : ItemName) (value : Int) (high : Bool) : Item :=
    { name := name, path := path, value := some value, volts := none, amps := none, word := none, flags := ItemFlags.clear,
      verdict := if high then .high else .ok }
  [item .fvDc dc (decide (cfg.dcLimit < dc.natAbs)), item .fvAc ac (decide (cfg.acLimit < ac))]

/-- The resistance of an INS step from direction-corrected means, in kΩ, and whether it is AT_OR_ABOVE (R132). -/
def resistance (v i : Int) : Nat × Bool :=
  if i ≤ 0 then (20470, true)
  else if v < 0 then (0, false)
  else ((10 * v / i).toNat, false)

/-- The item of an INS step (R131, R132). -/
def insItem (cfg : MeasConfig) (path : SensePath) (a : Accumulator) : Item :=
  let v := roundedMean a.sum 16
  let i := roundedMean a.ampSum 16
  let v := if cfg.insPolarity = .negative then -v else v
  let i := if cfg.insPolarity = .negative then -i else i
  let r := resistance v i
  { name := .insR, path := path, value := some r.1, volts := some v, amps := some i, word := none
    flags := { a.flags with atOrAbove := r.2 }
    verdict := if !r.2 && decide (r.1 < cfg.insMinimum) then .low else .ok }

/-- The SIG_BASE item (R133). -/
def sigBaseItem (cfg : MeasConfig) (ib0 : Int) (flags : ItemFlags) : Item :=
  { name := .sigBase, path := .tr, value := some ib0, volts := none, amps := none, word := none, flags := flags
    verdict := if ib0 < cfg.baseMinimum then .noNtu else if cfg.baseMaximum < ib0 then .leaky else .ok }

/-- The data of up to eight bits, the first least significant (R141). -/
def bitsValue (bits : List Bool) : Nat := bits.foldr (fun b acc => (if b then 1 else 0) + 2 * acc) 0

/-- The number of ones. -/
def ones (bits : List Bool) : Nat := (bits.filter id).length

/-- The signature fields a decoder has come to (R141). -/
def Decoder.fields (d : Decoder) : WordFields :=
  let n := d.bits.length
  { bitCount := n
    data := if 8 ≤ n then some (bitsValue (d.bits.take 8)) else none
    parityGood := if n = 9 then some (ones d.bits % 2 == 1) else none
    alarm := d.alarm
    endReason := d.endReason.getD .none }

/-- The verdict of a SIG_WORD item: the first that applies (R141). -/
def wordVerdict (w : WordFields) (expected : Option Nat) : Verdict :=
  if w.endReason = .stuck then .stuck
  else if w.endReason = .none then .noFrame
  else if w.bitCount < 9 then .truncated
  else if w.parityGood = some false then .invalid
  else if expected.isSome ∧ expected ≠ w.data then .wrongNtu
  else .ok

/-- The SIG_WORD item (R141). -/
def sigWordItem (d : Decoder) (expected : Option Nat) (flags : ItemFlags) : Item :=
  { name := .sigWord, path := .tr, value := none, volts := none, amps := none, word := some d.fields, flags := flags
    verdict := wordVerdict d.fields expected }

/-! ## Thresholds (R134, R135) -/

/-- A falling threshold: a quarter of the way down from its rising threshold to the base, rounded toward the lower integer (R135). -/
def fallOf (ib0 rise : Int) : Int := ib0 + (rise - ib0) * 3 / 4

/-- The thresholds fixed at the end of BASE (R134, R135). -/
def MeasConfig.thresholds (cfg : MeasConfig) (ib0 : Int) : Thresholds :=
  let r1 : Int := match cfg.thresholdMode with
    | .adaptive => ib0 + (cfg.delta1 / 2 : Nat)
    | .fixed => 40 + 4 * cfg.first
  let r2 : Int := match cfg.thresholdMode with
    | .adaptive => ib0 + cfg.delta1 + (cfg.delta2 / 2 : Nat)
    | .fixed => r1 + 40 + 4 * cfg.offset
  { rise1 := r1, rise2 := r2, fall1 := fallOf ib0 r1, fall2 := fallOf ib0 r2 }

/-! ## The level detector (R136) -/

/-- The decoder at the start of a listen (R136, R138). -/
def Decoder.start : Decoder :=
  { samples := 0, level := .zero, rise := 0, up := 0, fall := 0, drop := 0, dropBelowFall1 := false, pulseStart := none,
    gapStart := none, stage := .waiting, bits := [], alarm := false, endReason := none }

/-- A level change: every counter becomes 0 (R136). -/
def Decoder.toLevel (l : Level) (d : Decoder) : Decoder :=
  { d with level := l, rise := 0, up := 0, fall := 0, drop := 0, dropBelowFall1 := false }

/-- One listen sample taken by the present level (R136). Where a sample meets more than one row of R136's list at level 1, the first row holds:
DEDUCED (log 45). -/
def Decoder.detect (t : Thresholds) (deglitch : Nat) (code : Int) (d : Decoder) : Decoder :=
  match d.level with
  | .zero =>
    if t.rise1 ≤ code then
      if deglitch ≤ d.rise + 1 then d.toLevel .one else { d with rise := d.rise + 1 }
    else { d with rise := 0 }
  | .one =>
    if t.rise2 ≤ code then
      if deglitch ≤ d.up + 1 then d.toLevel .two else { d with up := d.up + 1, fall := 0 }
    else if code < t.fall1 then
      if deglitch ≤ d.fall + 1 then d.toLevel .zero else { d with fall := d.fall + 1, up := 0 }
    else { d with up := 0, fall := 0 }
  | .two =>
    if code < t.fall2 then
      let below := (d.drop == 0 || d.dropBelowFall1) && decide (code < t.fall1)
      if deglitch ≤ d.drop + 1 then d.toLevel (if below then .zero else .one)
      else { d with drop := d.drop + 1, dropBelowFall1 := below }
    else { d with drop := 0, dropBelowFall1 := false }

/-! ## Pulses and the frame (R137 to R140) -/

/-- The frame ends (R138). -/
def Decoder.finish (reason : EndReason) (d : Decoder) : Decoder := { d with stage := .ended, endReason := some reason }

/-- A pulse of `dur` samples that has ended, classed by duration and stage (R137, R138, R139). -/
def Decoder.pulse (dur : Nat) (d : Decoder) : Decoder :=
  if 65 ≤ dur then d.finish .stuck
  else
    match d.stage with
    | .waiting => if 32 ≤ dur then { d with stage := .inFrame } else d
    | .inFrame =>
      if 4 ≤ dur ∧ dur ≤ 24 then
        let d : Decoder := { d with bits := d.bits ++ [decide (12 ≤ dur)] }
        if d.bits.length = 9 then d.finish .complete else d
      else d.finish .badPulse
    | .ended => d

/-- Whether a gap has reached 41 samples in a frame (R138). -/
def Decoder.gapOver (d : Decoder) : Bool :=
  d.stage == .inFrame && (match d.gapStart with | some g => decide (g + 41 ≤ d.samples) | none => false)

/-- Whether a pulse still running has reached 65 samples (R139). -/
def Decoder.pulseOver (d : Decoder) : Bool :=
  match d.pulseStart with
  | some p => decide (p + 65 ≤ d.samples)
  | none => false

/-- What a sample's accepted level brings the frame, `before` being the level before it (R137 to R140). A gap that reaches 41 samples at
the sample of a rise ends the frame: DEDUCED (log 28). -/
def Decoder.frame (before : Level) (d : Decoder) : Decoder :=
  let d : Decoder := { d with alarm := d.alarm || d.level == .two }
  if before = .zero then
    if d.gapOver then d.finish .gap
    else if d.level = .zero then d
    else { d with pulseStart := some d.samples, gapStart := none }
  else if d.level = .zero then
    ({ d with pulseStart := none, gapStart := some d.samples } : Decoder).pulse (d.samples - d.pulseStart.getD d.samples)
  else if d.pulseOver then d.finish .stuck
  else d

/-- One listen sample (R136 to R140). -/
def Decoder.sample (t : Thresholds) (deglitch : Nat) (code : Int) (d : Decoder) : Decoder :=
  (({ d with samples := d.samples + 1 } : Decoder).detect t deglitch code).frame d.level

/-- The listen window runs out (R138). -/
def Decoder.windowEnd (d : Decoder) : Decoder :=
  match d.stage with
  | .waiting => d.finish .none
  | .inFrame => d.finish .window
  | .ended => d

/-! ## Runs and steps (R124, R125) -/

/-- The steps of a kind, in order. -/
def TestKind.steps : TestKind → List (StepSort × SensePath)
  | .foreignVoltage => [(.fv, .tg), (.fv, .rg), (.fv, .tr)]
  | .insulation => [(.ins, .tg), (.ins, .rg), (.ins, .tr)]
  | .signature => [(.sig, .tr)]
  | .full => [(.fv, .tg), (.fv, .rg), (.fv, .tr), (.ins, .tg), (.ins, .rg), (.ins, .tr), (.sig, .tr)]

/-- The source setting of a step: off, or a code with a polarity (R129, R131, R133). -/
def MeasConfig.sourceOf (cfg : MeasConfig) : StepSort → Option SourceSetting
  | .fv => none
  | .ins => some { code := cfg.insCode, polarity := cfg.insPolarity }
  | .sig => some { code := cfg.sigBias, polarity := .positive }

/-- The acquisition time of a step in ms (R129, R131, R133). -/
def MeasConfig.acquisition (cfg : MeasConfig) : StepSort → Nat
  | .fv => cfg.fvAcquisition
  | .ins => cfg.insCharge
  | .sig => cfg.sigSettle

/-- The MSU with a run record. -/
def State.setRun (r : RunRecord) (s : State) : State := { s with msu := { s.msu with run := .running r } }

/-- The source and the path (R122). -/
def State.setFrontEnd (source : Option SourceSetting) (path : Option SensePath) (s : State) : State :=
  { s with msu := { s.msu with source := source, path := path } }

/-- The step of a run record: its sort and path; an index past the list names none. -/
def RunRecord.current (r : RunRecord) : Option (StepSort × SensePath) := (TestKind.steps r.kind)[r.step]?

/-- Step `n` of the run starts with its acquisition (R124, step 1), under the configuration as it stands now (R124, R143); past the last step the run
ends with MEASURE_DONE (R125). -/
def State.startStep (n : Nat) (r : RunRecord) (s : State) : State :=
  match (TestKind.steps r.kind)[n]? with
  | some (sort, path) =>
    (s.setFrontEnd (s.msu.config.sourceOf sort) (some path)).setRun
      { r with
        step := n, phase := if sort = .sig then .settle else .acquire
        due := s.now + ms (s.msu.config.acquisition sort), config := s.msu.config, acc := .zero }
  | none =>
    ({ s with msu := { s.msu with run := .idle, source := none, path := none } } : State).post .measureDone

/-- A run begins (R125, MEASURE_START in IDLE). -/
def State.startRun (k : KeptStart) (s : State) : State :=
  s.startStep 0
    { id := k.id, pair := k.pair, kind := k.kind, expected := k.expected, step := 0, phase := .acquire, due := s.now,
      config := s.msu.config, stopped := false, acc := .zero, baseFlags := ItemFlags.clear, ib0 := 0, thresholds := { rise1 := 0, rise2 := 0, fall1 := 0, fall2 := 0 },
      decoder := .start }

/-- Items of the request `id` are sent to the Pair Test Controller, in order (R124). -/
def State.sendItems (id : Nat) (items : List Item) (s : State) : State :=
  { s with mail := s.mail ++ items.map fun i => .measurementItem ⟨id, i⟩ }

/-- A step completes (R124, step 3): its items are sent; after a step with its source on comes the discharge gap of 10 ms, after one with
its source off the next step's acquisition. -/
def State.completeStep (items : List Item) (r : RunRecord) (s : State) : State :=
  let s := s.sendItems r.id items
  if s.msu.source.isSome then
    (s.setFrontEnd none none).setRun { r with phase := .gap, due := s.now + ms 10, acc := .zero }
  else s.startStep (r.step + 1) r

/-- The run ends into the discharge: source off, path deselected, 10 ms of DISCHARGING (R126, R127). -/
def State.discharge (s : State) : State :=
  { s with msu := { s.msu with run := .discharging (s.now + ms 10), source := none, path := none } }

/-- The path of the next conversion of a record (R129, R131, R133). -/
def RunRecord.convertedPath (r : RunRecord) (path : SensePath) : SensePath :=
  match r.phase with
  | .base | .listen => .isrc
  | .convert =>
    match r.current with
    | some (.ins, _) => if r.acc.taken % 2 = 0 then path else .isrc
    | _ => path
  | _ => path

/-- The interval between the samples of the phase, in µs (R129, R131, R133). -/
def RunRecord.interval (r : RunRecord) : Nat :=
  match r.phase with
  | .base | .listen => 50
  | .convert => match r.current with | some (.ins, _) => 500 | _ => 250
  | _ => 250

/-- The number of samples of the phase (R129, R131, R133). -/
def RunRecord.count (r : RunRecord) : Nat :=
  match r.phase with
  | .base => 20 * r.config.baseWindow
  | .listen => 20 * r.config.listenWindow
  | .guard => 4
  | _ => match r.current with | some (.ins, _) => 32 | _ => 80

/-- A phase of conversions starts: its first sample comes one interval later, on the path it converts (R124, step 2; R133). The path selected is
that of the next conversion: DEDUCED (log 46). -/
def State.startSamples (phase : MeasPhase) (path : SensePath) (r : RunRecord) (s : State) : State :=
  let r := { r with phase := phase, acc := .zero }
  (s.setFrontEnd s.msu.source (some (r.convertedPath path))).setRun { r with due := s.now + r.interval }

/-- The SIG step completes (R133): SIG_BASE first, SIG_WORD second when a listen was made. Their flags are those of R133: of the base samples and
of the listen samples; what the guard samples met flags nothing: DEDUCED (log 51). -/
def State.completeSig (listened : Bool) (r : RunRecord) (s : State) : State :=
  let base := sigBaseItem r.config r.ib0 r.baseFlags
  s.completeStep (if listened then [base, sigWordItem r.decoder r.expected r.acc.flags] else [base]) r

/-- What follows the last sample of a phase of conversions (R124, R133). -/
def State.endSamples (path : SensePath) (r : RunRecord) (s : State) : State :=
  match r.phase with
  | .convert =>
    match r.current with
    | some (.ins, _) => s.completeStep [insItem r.config path r.acc] r
    | _ => s.completeStep (fvItems r.config path r.acc) r
  | .guard => s.startSamples .base path r
  | .base =>
    let ib0 := roundedMean r.acc.ampSum (20 * r.config.baseWindow)
    let r := { r with ib0 := ib0, baseFlags := r.acc.flags }
    if (sigBaseItem r.config ib0 r.baseFlags).verdict = .ok then
      s.startSamples .listen path { r with thresholds := r.config.thresholds ib0, decoder := .start }
    else s.completeSig false r
  | _ => s

/-- A hazard ends the run and is reported to the Line Port Controller (R126). -/
def State.measureHazard (path : SensePath) (code : BitVec 12) (r : RunRecord) (s : State) : State :=
  s.discharge.post (.hazardReport r.pair path code)

/-- A converter code is returned in a phase of conversions (R123, R124). -/
def State.takeSample (code : BitVec 12) (limit : Bool) (r : RunRecord) (s : State) : State :=
  match r.current with
  | none => s
  | some (_, path) =>
    let s := s.reach r.due
    let on := r.convertedPath path
    if isHazard r.config on code.toInt then s.measureHazard on code r
    else
      let r := { r with acc := r.acc.add (on == .isrc) code.toInt limit }
      if r.count ≤ r.acc.taken then s.endSamples path r
      else (s.setFrontEnd s.msu.source (some (r.convertedPath path))).setRun { r with due := s.now + r.interval }

/-- A listen sample is returned (R133, R136 to R140): when it ends the frame, the SIG step completes. -/
def State.takeListen (code : BitVec 12) (limit : Bool) (r : RunRecord) (s : State) : State :=
  if r.count ≤ r.acc.taken then s
  else
    let s := s.reach r.due
    let r :=
      { r with
        acc := r.acc.add true code.toInt limit
        decoder := r.decoder.sample r.thresholds r.config.deglitch code.toInt }
    if r.decoder.stage = .ended then s.completeSig true r else s.setRun { r with due := s.now + r.interval }

end Sys2Proof.Machine
end

