-- ==== Sys2Proof/Machine/Operands.lean ====
section
/-! DEFINITION. The operand forms of the directives (R194 to R196): parameter lengths, field items, the FT_WRITE entry, and what each field
number names in SUB_WRITE, SET_WRITE, MEAS_CONFIG and CONTACT_CONFIG. -/

namespace Sys2Proof.Machine

/-! ## Field items (R195) -/

/-- A field item: a field number and its value. -/
abbrev FieldItem := Nat × Int

/-- The field items octets hold, five octets each; octets that do not make up an item give none. -/
def fieldItems : List Octet → List FieldItem
  | n :: a :: b :: c :: d :: rest => (n.toNat, readInt4 a b c d) :: fieldItems rest
  | _ => []

/-- The length form 5n, n at least 1 (R196). -/
def isItems (octets : List Octet) : Bool := decide (0 < octets.length) && octets.length % 5 == 0

/-- Whether no number stands twice. -/
def distinct : List Nat → Bool
  | [] => true
  | n :: ns => !ns.contains n && distinct ns

/-- Items written one after another; `none` when one is refused. -/
def writeItems {α : Type} (write : Nat → Int → α → Option α) : List FieldItem → α → Option α
  | [], a => some a
  | (n, v) :: rest, a =>
    match write n v a with
    | some b => writeItems write rest b
    | none => none

/-- All items written, or `none` when a field is unknown or named twice or a value is out of its range (R143, R159, R187, R188). -/
def writeFields {α : Type} (write : Nat → Int → α → Option α) (items : List FieldItem) (a : α) : Option α :=
  if distinct (items.map (·.1)) then writeItems write items a else none

/-- A value within a range. -/
def within (low high v : Int) : Option Int := if low ≤ v ∧ v ≤ high then some v else none

/-- A number within `low`..`high`. -/
def number (low high : Nat) (v : Int) : Option Nat := (within low high v).map Int.toNat

/-- A yes/no or on/off value (R192). -/
def flag (v : Int) : Option Bool := if v = 0 then some false else if v = 1 then some true else none

/-! ## SUB_WRITE (R187, R194) -/

def testPolicyOf (v : Int) : Option TestPolicy :=
  match v with | 0 => some .noTest | 1 => some .idleOnly | 2 => some .any | _ => none

/-- A subscriber field written by its number (R187, R194). An expected signature or default VID is written absent by 0x80000000 (log 26). -/
def Subscriber.write (n : Nat) (v : Int) (u : Subscriber) : Option Subscriber :=
  match n with
  | 1 => (number 0 1000000 v).map fun x => { u with committedUp := x }
  | 2 => (number 0 1000000 v).map fun x => { u with upPeak := x }
  | 3 => (number 0 1000000 v).map fun x => { u with downPeak := x }
  | 4 => (number 0 64 v).map fun x => { u with weight := x }
  | 5 => (number 0 262143 v).map fun x => { u with upBurst := x }
  | 6 => (number 0 262143 v).map fun x => { u with downBurst := x }
  | 7 => (number 16 1024 v).map fun x => { u with expressCap := x }
  | 8 => (number 16 1024 v).map fun x => { u with bulkCap := x }
  | 9 => (number 0 7 v).map fun x => { u with shedRank := x }
  | 10 => (number 0 65535 v).map fun x => { u with portPower := x }
  | 11 => (number 0 3600 v).map fun x => { u with idleDoze := x }
  | 12 => (flag v).map fun x => { u with wake := x }
  | 13 => (flag v).map fun x => { u with watch := x }
  | 14 =>
    if v = Config.absentItem then some { u with expected := none }
    else (number 0 255 v).map fun x => { u with expected := some x }
  | 15 => (testPolicyOf v).map fun x => { u with policy := x }
  | 16 =>
    if v = Config.absentItem then some { u with defaultVid := none }
    else (number 1 4094 v).map fun x => { u with defaultVid := some x }
  | 17 => (number 0 7 v).map fun x => { u with classThreshold := x }
  | _ => none

/-! ## SET_WRITE (R188, R195) -/

def capacitySourceOf (v : Int) : Option CapacitySource :=
  match v with | 0 => some .reported | 1 => some .fixed | _ => none

def thermalModeOf (v : Int) : Option ThermalMode :=
  match v with | 0 => some .shutdown | 1 => some .warn | 2 => some .off | _ => none

/-- The craft write policies by their places in R182's sentence, as CraftPolicy.code carries them: DESIGN CHOICE (log 61). -/
def craftPolicyOf (v : Int) : Option CraftPolicy :=
  match v with | 0 => some .never | 1 => some .doorOpen | 2 => some .always | _ => none

/-- A level setting is carried as 16 × range + code (R195). -/
def levelOf (v : Int) : Option LevelSetting := (number 0 31 v).map fun x => { highRange := decide (16 ≤ x), code := x % 16 }

/-- The door contact: K0..K7, or NONE as 255 (R192). -/
def doorContactOf (v : Int) : Option (Option Contact) :=
  if v = 255 then some none else (number 0 7 v).map fun x => contactOf x

/-- A notice enable written: the position among the nine. -/
def Settings.setEnable (i : Fin 9) (v : Int) (g : Settings) : Option Settings :=
  (flag v).map fun x => { g with noticeEnables := g.noticeEnables.set i x }

/-- A setting written by its number 32 × g + p (R188, R195), within its range (R7, R42, R48, R65, R105, R147, R169, R182, R185). -/
def Settings.write (n : Nat) (v : Int) (g : Settings) : Option Settings :=
  match n with
  | 1 => (number 2 30 v).map fun x => { g with transferGap := x }
  | 2 => (number 5 50 v).map fun x => { g with relaySettle := x }
  | 33 => (number 5 600 v).map fun x => { g with trialWindow := x }
  | 34 => (number 0 30 v).map fun x => { g with soakTime := x }
  | 65 => (number 512 3520 v).map fun x => { g with upstreamSize := x }
  | 66 => (number 0 1024 v).map fun x => { g with expressReserve := x }
  | 97 => (capacitySourceOf v).map fun x => { g with capacitySource := x }
  | 98 => (number 0 1000000 v).map fun x => { g with fixedCapacity := x }
  | 99 => (number 0 4096 v).map fun x => { g with agentReserve := x }
  | 100 => (number 50 100 v).map fun x => { g with usablePercent := x }
  | 101 => (number 10 1000 v).map fun x => { g with activityWindow := x }
  | 129 => (number 10 3600 v).map fun x => { g with testWaitLimit := x }
  | 161 => (levelOf v).map fun x => { g with warnLevel := x }
  | 162 => (levelOf v).map fun x => { g with hazardLevel := x }
  | 163 => (number 1 15 v).map fun x => { g with persistence := x }
  | 164 => (number 0 7 v).map fun x => { g with watchPoll := x }
  | 165 => (number 0 7 v).map fun x => { g with economyPoll := x }
  | 193 => (number 0 7 v).map fun x => { g with contactPoll := x }
  | 194 => (doorContactOf v).map fun x => { g with doorContact := x }
  | 195 => (number 1 60 v).map fun x => { g with craftHoldTime := x }
  | 196 => (thermalModeOf v).map fun x => { g with thermalMode := x }
  | 197 => (within (-40) 125 v).map fun x => { g with warnThreshold := x }
  | 198 => (within (-40) 125 v).map fun x => { g with shutdownThreshold := x }
  | 199 => (within (-40) 125 v).map fun x => { g with heaterOn := x }
  | 200 => (within (-40) 125 v).map fun x => { g with heaterOff := x }
  | 201 => (number 0 9999 v).map fun x => { g with economyThreshold := x }
  | 202 => (number 0 9999 v).map fun x => { g with conserveThreshold := x }
  | 203 => (number 0 65535 v).map fun x => { g with budgetMains := x }
  | 204 => (number 0 65535 v).map fun x => { g with budgetNormal := x }
  | 205 => (number 0 65535 v).map fun x => { g with budgetEconomy := x }
  | 206 => (number 0 65535 v).map fun x => { g with budgetConserve := x }
  | 207 => (number 0 65535 v).map fun x => { g with baseLoad := x }
  | 208 => (number 0 65535 v).map fun x => { g with heaterPower := x }
  | 209 => (number 0 7 v).map fun x => { g with heaterRank := x }
  | 210 => (number 0 65535 v).map fun x => { g with busPower := x }
  | 211 => (number 0 7 v).map fun x => { g with busRank := x }
  | 225 => (craftPolicyOf v).map fun x => { g with craftPolicy := x }
  | 226 => g.setEnable 0 v
  | 227 => g.setEnable 1 v
  | 228 => g.setEnable 2 v
  | 229 => g.setEnable 3 v
  | 230 => g.setEnable 4 v
  | 231 => g.setEnable 5 v
  | 232 => g.setEnable 6 v
  | 233 => g.setEnable 7 v
  | 234 => g.setEnable 8 v
  | _ => none

/-- The three orderings of R169. -/
def Settings.ordered (g : Settings) : Bool :=
  decide (g.warnThreshold < g.shutdownThreshold) && decide (g.heaterOn < g.heaterOff) &&
    decide (g.conserveThreshold + 20 < g.economyThreshold)

/-! ## MEAS_CONFIG (R143, R195) -/

def polarityOf (v : Int) : Option Polarity :=
  match v with | 0 => some .positive | 1 => some .negative | _ => none

def thresholdModeOf (v : Int) : Option ThresholdMode :=
  match v with | 0 => some .adaptive | 1 => some .fixed | _ => none

/-- A measurement field written by its number (R143, R195). -/
def MeasConfig.write (n : Nat) (v : Int) (c : MeasConfig) : Option MeasConfig :=
  match n with
  | 1 => (number 300 2000 v).map fun x => { c with hazardCode := x }
  | 2 => (number 5 200 v).map fun x => { c with fvAcquisition := x }
  | 3 => (number 1 2000 v).map fun x => { c with dcLimit := x }
  | 4 => (number 1 2000 v).map fun x => { c with acLimit := x }
  | 5 => (number 4 32 v).map fun x => { c with insCode := x }
  | 6 => (polarityOf v).map fun x => { c with insPolarity := x }
  | 7 => (number 10 2000 v).map fun x => { c with insCharge := x }
  | 8 => (number 0 20470 v).map fun x => { c with insMinimum := x }
  | 9 => (number 4 32 v).map fun x => { c with sigBias := x }
  | 10 => (number 10 500 v).map fun x => { c with sigSettle := x }
  | 11 => (number 10 200 v).map fun x => { c with baseWindow := x }
  | 12 => (number 0 2000 v).map fun x => { c with baseMinimum := x }
  | 13 => (number 1 2000 v).map fun x => { c with baseMaximum := x }
  | 14 => (number 20 1000 v).map fun x => { c with listenWindow := x }
  | 15 => (thresholdModeOf v).map fun x => { c with thresholdMode := x }
  | 16 => (number 100 1000 v).map fun x => { c with delta1 := x }
  | 17 => (number 100 1000 v).map fun x => { c with delta2 := x }
  | 18 => (number 0 255 v).map fun x => { c with first := x }
  | 19 => (number 0 255 v).map fun x => { c with offset := x }
  | 20 => (number 2 30 v).map fun x => { c with deglitch := x }
  | _ => none

/-- The configuration stands together (R143, the last three cases of BAD_PARAM). -/
def MeasConfig.consistent (c : MeasConfig) : Bool :=
  decide (c.baseMinimum < c.baseMaximum) && decide (c.insCode * 25 < c.hazardCode) && decide (c.sigBias * 25 < c.hazardCode)

/-! ## CONTACT_CONFIG (R159, R195) -/

/-- A contact field written by its number (R195). -/
def ContactRecord.write (n : Nat) (v : Int) (c : ContactRecord) : Option ContactRecord :=
  match n with
  | 1 => (flag v).map fun x => { c with wettingOn := x }
  | 2 => (flag v).map fun x => { c with inverted := x }
  | 3 => (flag v).map fun x => { c with noticeEnable := x }
  | 4 => (flag v).map fun x => { c with craftWake := x }
  | _ => none

/-! ## The FT_WRITE entry (R40, R194) -/

/-- What an FT_WRITE asks for: a refusal by BAD_PARAM, an index emptied, or an entry written at an index. -/
inductive FtForm where
  | bad
  | clear (index : Nat)
  | write (index : Nat) (entry : FlowEntry)
deriving DecidableEq, Repr

/-- An optional port of an entry: 0xFF is absence; `none` when the number is outside L0..L15. -/
def optPort (n : Nat) : Option (Option Port) := if n = 255 then some none else (portOf n).map some

/-- Whether the fields of an entry stand together (R30, R40). -/
def FlowEntry.wellMade (e : FlowEntry) : Bool :=
  decide (1 ≤ e.vid ∧ e.vid ≤ 4094) &&
    (match e.retagVid with | some v => decide (1 ≤ v ∧ v ≤ 4094) | none => true) &&
    (e.action != .agent || e.direction == .down) &&
    (e.port.isSome == (e.direction == .up)) &&
    (e.target.isSome == (e.direction == .down && (e.action == .forward || e.action == .retag))) &&
    (e.retagVid.isSome == (e.action == .retag))

/-- The entry of its eleven octets; a stamp is given when it is stored. -/
def ftForm : List Octet → FtForm
  | [index, occupied, dir, port, v1, v0, act, cls, target, r1, r0] =>
    if occupied.toNat = 0 then .clear index.toNat
    else if occupied.toNat = 1 then
      match directionOf dir.toNat, optPort port.toNat, actionOf act.toNat, classModeOf cls.toNat, optPort target.toNat with
      | some d, some p, some a, some c, some t =>
        let retag := read2 r1 r0
        let e : FlowEntry :=
          { direction := d, port := p, vid := read2 v1 v0, action := a, classMode := c, target := t
            retagVid := if retag = 0 then none else some retag, hits := 0#32, stamp := 0 }
        if e.wellMade then .write index.toNat e else .bad
      | _, _, _, _, _ => .bad
    else .bad
  | _ => .bad

/-! ## Short parameters -/

/-- The one octet of a directive that names a port, a group or the like; `none` when the parameters are not one octet. -/
def oneOctet : List Octet → Option Nat
  | [a] => some a.toNat
  | _ => none

/-- The port a one-octet directive names (R196). -/
def namedPort (params : List Octet) : Option Port := (oneOctet params).bind portOf

/-- The id a two-octet directive names (R196). -/
def namedId : List Octet → Nat
  | [a, b] => read2 a b
  | _ => 0

end Sys2Proof.Machine
end

