-- ==== Sys2Proof/Machine/DirectiveOps.lean ====
section
/-! DEFINITION. Carrying out directives: the checks of R178, the outcome entry and its cut rule, the report (10.2, R193, R197). -/

namespace Sys2Proof.Machine

/-! ## Answers -/

/-- What a directive comes to: the state after it, the state after it when its entry is cut (R178, R197), its outcome, its result data. -/
structure Answer where
  state : State
  ifCut : State
  outcome : DirectiveOutcome
  data : List Octet
deriving DecidableEq, Repr

/-- DONE with result data. -/
def doneWith (data : List Octet) (s : State) : Answer := { state := s, ifCut := s, outcome := .done, data := data }

/-- DONE without result data. -/
def done (s : State) : Answer := doneWith [] s

/-- A refusal: it changes nothing (R178). -/
def refuse (o : DirectiveOutcome) (s : State) : Answer := { state := s, ifCut := s, outcome := o, data := [] }

/-! ## The checks before a directive's own (R178) -/

/-- Craft write permission (R182). -/
def State.craftPermitted (s : State) : Bool :=
  match s.settings.craftPolicy with
  | .never => false
  | .always => true
  | .doorOpen => s.doorOpen

/-- What R178 asks of a directive besides its length: that the lock be clear, and that a craft frame have write permission (R181). -/
structure Demands where
  unlocked : Bool
  permission : Bool
deriving DecidableEq, Repr

/-- The demands of the three classes of R181, and of LOCK and UNLOCK. -/
def Demands.read : Demands := { unlocked := false, permission := false }
def Demands.free : Demands := { unlocked := false, permission := false }
def Demands.changing : Demands := { unlocked := true, permission := true }
def Demands.keeping : Demands := { unlocked := false, permission := true }

/-- The refusal of R178 a known directive meets, if any, in the rule's order. -/
def State.gate (o : Origin) (lengthGood : Bool) (d : Demands) (s : State) : Option DirectiveOutcome :=
  if !lengthGood then some .badLength
  else if d.unlocked && s.mga.locked then some .locked
  else if d.permission && o == .craft && !s.craftPermitted then some .notPermitted
  else none

/-- A directive answered: refused by the checks of R178, or carried out by its owner. -/
def State.answer (o : Origin) (lengthGood : Bool) (d : Demands) (body : State → Answer) (s : State) : Answer :=
  match s.gate o lengthGood d with
  | some r => refuse r s
  | none => body s

/-! ## Outcome entries and the report -/

/-- An outcome entry's octets (R193). -/
def OutcomeEntry.octets (e : OutcomeEntry) : List Octet :=
  [e.code] ++ num1 e.outcome.code ++ num2 e.data.length ++ e.data

/-- The octets of a report's header and body (R179, R193). -/
def State.reportOctets (e : Execution) (s : State) : List Octet :=
  agentHeader 2 s.mga.cabinet e.sequence e.entries.length e.cut (s.mga.reportFlags e.frame.origin) ++
    e.entries.flatMap OutcomeEntry.octets

/-- The VID a report is tagged with: the frame's on the uplink, none on the craft port (R179). -/
def AgentFrame.reportVid (f : AgentFrame) : Option Nat :=
  match f.origin with
  | .uplink => some f.vid
  | .craft => none

/-- The octets of the entries so far. -/
def Execution.used (e : Execution) : Nat := (e.entries.map fun x => 4 + x.data.length).sum

/-- Whether result data of `n` octets fit the report: header and entries, with four octets for each directive still to come, stay within
1664 (R178). That the entries to come are counted is DEDUCED (log 44). -/
def Execution.fits (n : Nat) (e : Execution) : Bool :=
  decide (builtLength e.frame.reportVid.isSome (10 + e.used + 4 + n + 4 * (e.directives.length - (e.index + 1))) ≤ Config.maxFrame)

/-- The messages by which one block's effect reaches another: those among the blocks that the table lists as steps (log 1). What the Management
Agent sends itself, a directive's turn among it, is none of them. -/
def betweenBlocks : Instr → Bool
  | .take .. | .transferOut .. | .transferBack .. | .release .. | .hazardReport .. | .portReport .. | .granted ..
  | .denied .. | .outDone | .outFailed | .backDone | .released .. | .portDisabledReport .. | .portHeldReport ..
  | .mismatchReport .. | .busShed | .busAdmit | .measurementItem .. | .measureDone | .measureStart ..
  | .measureStop | .evaluation => true
  | .powerOnReset .. | .directedReset | .trainingStarted .. | .trained .. | .rateChanged .. | .linkLost ..
  | .gapEnd .. | .settleEnd .. | .relaySenseChange .. | .idleTimerExpiry .. | .portEnable .. | .portDisable ..
  | .portClear .. | .portWake .. | .portStatus .. | .frameStart .. | .cellRequest .. | .upstreamHeader ..
  | .downstreamHeader .. | .craftHeader .. | .frameEnd .. | .activityTimerExpiry .. | .capacityReport ..
  | .uplinkLinkStateChange .. | .computationComplete | .shareRead .. | .shareRecompute .. | .upstreamRefill ..
  | .downstreamRefill .. | .pauseChange .. | .uplinkCompletion | .lineCompletion .. | .craftCompletion
  | .craftLinkChange .. | .trialTimerExpiry | .ftCandidateClear .. | .ftCandidateCopy .. | .ftWrite .. | .ftRead ..
  | .ftActivate .. | .ftConfirm .. | .ftRevert .. | .testRequest .. | .waitDeadlineExpiry .. | .testAbort ..
  | .testSuspend .. | .testResume .. | .testbusClear .. | .testResult .. | .testList .. | .acquisitionEnd
  | .conversionSample .. | .listenSample .. | .listenWindowEnd | .dischargeGapEnd | .dischargeEnd | .measConfig ..
  | .measRead .. | .sweep .. | .watchRead .. | .contactPoll .. | .temperatureReading .. | .supplySample ..
  | .craftHoldExpiry | .contactConfig .. | .contactRead .. | .supplyRead .. | .thermalClear .. | .budgetRead ..
  | .agentFrameTakeIn | .reportPlacement | .reportAbandon | .lock .. | .unlock .. | .faultRead .. | .noticeTest ..
  | .subWrite .. | .subRead .. | .setWrite .. | .setRead .. | .countersRead .. | .resetDirective ..
  | .unknownDirective .. => false

/-- No effect of one block on another is on its way: every directive that has run is complete (R178). -/
def State.quiet (s : State) : Bool := !s.mail.any betweenBlocks

/-- The report of a frame whose directives have run (R179). It answers RESET when a directed reset waits for it (R191). -/
def State.reportOf (e : Execution) (s : State) : Report :=
  let built := buildFrame e.frame.source e.frame.reportVid (s.reportOctets e)
  { origin := e.frame.origin, length := built.2, image := built.1, carriesChange := s.mga.changeMark, carriesLost := s.mga.lostMark,
    answersReset := s.mga.resetWait == .unplaced, offeredAt := none }

/-- The report is built (R179): REPORTING. -/
def State.buildReport (e : Execution) (s : State) : State := { s with mga := { s.mga with exec := .reporting (s.reportOf e) } }

/-- The frame goes on (R178): its next directive comes up; or, when every directive has run, its report is built, at once or, while an effect of
one is still on its way, at REPORT_PLACEMENT (log 55). -/
def State.advance (e : Execution) (s : State) : State :=
  match e.directives[e.index]? with
  | some d => ({ s with mga := { s.mga with exec := .executing e } } : State).post (directiveCommand e.frame.origin d)
  | none =>
    if s.quiet then (s.buildReport e).post .reportPlacement
    else ({ s with mga := { s.mga with exec := .executing e } } : State).post .reportPlacement

/-! ## A directive's turn -/

/-- Whose turn a directive comes at: in the frame in execution, alone while the agent is IDLE (log 3), or not at all (log 4). -/
inductive Turn where
  | never | alone | inFrame (e : Execution)
deriving DecidableEq, Repr

/-- A directive in the frame in execution is the one the frame has come to, once the one before it is complete with its effects on every block
(R178). -/
def State.turn (o : Origin) (d : Directive) (s : State) : Turn :=
  match s.mga.exec with
  | .idle => if s.mga.resetWait = .none then .alone else .never
  | .executing e =>
    if e.frame.origin = o ∧ e.directives[e.index]? = some d ∧ (e.index = 0 ∨ s.quiet) then .inFrame e else .never
  | .reporting _ => .never

/-- The entry last added. -/
def State.noteEntry (x : OutcomeEntry) (s : State) : State := { s with mga := { s.mga with lastEntry := some x } }

/-- The execution with one more entry. -/
def Execution.addEntry (x : OutcomeEntry) (cut : Bool) (e : Execution) : Execution :=
  { e with entries := e.entries ++ [x], index := e.index + 1, cut := if cut then e.cut + 1 else e.cut }

/-- The execution without the directives after the ones that have run: RESET has ended the frame (R178). -/
def Execution.endHere (e : Execution) : Execution := { e with directives := e.directives.take e.index }

/-- An answer becomes an outcome entry of the frame, and the frame goes on, or ends there (R178). -/
def State.enterAnswer (code : Octet) (e : Execution) (a : Answer) (ended : Bool) : State :=
  let next (e : Execution) : Execution := if ended then e.endHere else e
  if e.fits a.data.length then
    let x : OutcomeEntry := { code := code, outcome := a.outcome, data := a.data }
    (a.state.noteEntry x).advance (next (e.addEntry x false))
  else
    let x : OutcomeEntry := { code := code, outcome := a.outcome, data := [] }
    (a.ifCut.noteEntry x).advance (next (e.addEntry x true))

/-- A directive is executed (R178). -/
def State.direct (o : Origin) (code : Octet) (params : List Octet) (lengthGood : Bool) (demands : Demands) (body : State → Answer)
    (s : State) : State :=
  let d : Directive := { code := code, params := params }
  match s.turn o d with
  | .never => s
  | .alone =>
    let a := s.answer o lengthGood demands body
    a.state.noteEntry { code := code, outcome := a.outcome, data := a.data }
  | .inFrame e =>
    let s := s.taken (directiveCommand o d)
    State.enterAnswer code e (s.answer o lengthGood demands body) false

/-- A directive of no parameters (R196). -/
def noParams (params : List Octet) : Bool := params.isEmpty

/-- A directive of `n` parameter octets (R196). -/
def octets (n : Nat) (params : List Octet) : Bool := params.length == n

/-! ## Taking frames in (R176) -/

/-- A waiting frame is to be taken in when the agent is IDLE and no directed reset waits (R176, R191). -/
def State.callTakeIn (s : State) : State :=
  if s.mga.exec = .idle ∧ s.mga.resetWait = .none ∧ (s.mga.uplinkStore.isSome ∨ s.mga.craftStore.isSome) ∧
      !s.mail.contains .agentFrameTakeIn then s.post .agentFrameTakeIn
  else s

end Sys2Proof.Machine
end

