-- ==== Sys2Proof/Machine/LinePorts.lean ====
section
/-! DEFINITION. The commands of the Line Port Controller (01): line events, relay transfers, the requests of the Pair Test Controller and
the Measurement Unit, and the five PORT directives. -/

namespace Sys2Proof.Machine

/-! ## Line events (R3, R6) -/

/-- A port enters UP with the rates of its event (R3): rates, idle timer, share computation. -/
def State.enterUp (p : Port) (rates : Rates) (s : State) : State :=
  let idle := (s.sub p).idleDoze
  (s.changePort p
    { s.port p with
      state := .up, rates := some rates, idleTimer := if idle = 0 then none else some (s.now + sec idle) }).trigger

/-- New rates of a port in UP (R6). -/
def State.replaceRates (p : Port) (rates : Rates) (s : State) : State :=
  (s.modifyPort p fun r => { r with rates := some rates }).trigger

/-- LINK_LOST by state (R6). -/
def State.loseLink (p : Port) (s : State) : State :=
  let r := s.port p
  match r.state with
  | .training | .up =>
    s.changePort p { r with state := .down, counters := { r.counters with retrains := bump r.counters.retrains } }
  | _ => s

/-- The rates an event carries, clamped (R6). -/
def clampRates (up down : Nat) : Rates := { up := min Config.maxRate up, down := min Config.maxRate down }

/-- Whether either rate is 0 (R6). -/
def Rates.dead (r : Rates) : Bool := r.up == 0 || r.down == 0

/-- TRAINING_STARTED (R6). In UP it is one change of state, UP to TRAINING (log 18). -/
def execTrainingStarted (p : Port) (s : State) : Host.Outcome State Fault Refusal :=
  let r := s.port p
  if r.orderOn then
    match r.state with
    | .down => .next (s.changePort p { r with state := .training })
    | .up =>
      .next (s.changePort p { r with state := .training, counters := { r.counters with retrains := bump r.counters.retrains } })
    | _ => .next s
  else .next s

/-- TRAINED (R6). -/
def execTrained (p : Port) (up down : Nat) (s : State) : Host.Outcome State Fault Refusal :=
  let r := s.port p
  let rates := clampRates up down
  if r.orderOn then
    if rates.dead then .next (s.loseLink p)
    else
      match r.state with
      | .down | .training => .next (s.enterUp p rates)
      | .up => .next (s.replaceRates p rates)
      | _ => .next s
  else .next s

/-- RATE_CHANGED (R6). -/
def execRateChanged (p : Port) (up down : Nat) (s : State) : Host.Outcome State Fault Refusal :=
  let r := s.port p
  let rates := clampRates up down
  if r.orderOn then
    if rates.dead then .next (s.loseLink p)
    else
      match r.state with
      | .up => .next (s.replaceRates p rates)
      | _ => .next s
  else .next s

/-- LINK_LOST (R6). -/
def execLinkLost (p : Port) (s : State) : Host.Outcome State Fault Refusal :=
  if (s.port p).orderOn then .next (s.loseLink p) else .next s

/-! ## Relay transfer (R7 to R10, R20) -/

/-- A transfer of a kind in its GAP, from now. -/
def State.gapOf (kind : TransferKind) (s : State) : Transfer :=
  { kind := kind, phase := .gap, ends := s.now + ms s.settings.transferGap }

/-- A transfer of a kind in its SETTLE, from now. -/
def State.settleOf (kind : TransferKind) (s : State) : Transfer :=
  { kind := kind, phase := .settle, ends := s.now + ms s.settings.relaySettle }

/-- The outward transfer starts (R8). -/
def State.startOutward (p : Port) (s : State) : State :=
  s.modifyPort p fun r => { r with lineClosedCmd := false, position := .testing, transfer := some (s.gapOf .outward) }

/-- The transfer back starts (R8). -/
def State.startBack (p : Port) (s : State) : State :=
  s.modifyPort p fun r => { r with testClosedCmd := false, position := .normal, transfer := some (s.gapOf .back) }

/-- An order is kept until the running transfer ends (R20); a new one takes the place of one kept before (log 15). -/
def State.keepOrder (p : Port) (o : HeldOrder) (s : State) : State := s.modifyPort p fun r => { r with heldOrder := some o }

/-- A RELEASE is carried out: the relays stand at NORMAL with no transfer (R20). -/
def State.carryOutRelease (p : Port) (s : State) : State :=
  let r := s.port p
  let back := { r with testRef := none, returnTarget := none }
  let s :=
    if r.returnTarget = some .disabled then
      s.changePort p { back with state := .disabled, causes := .empty, wakePending := false }
    else if r.causes.isEmpty then s.returnToService p back true
    else s.changePort p { back with state := .doze, counters := r.counters.dozed }
  match r.testRef with
  | some id => s.post (.released id)
  | none => s

/-- TRANSFER_OUT on a port in TEST (R20). -/
def State.orderOut (p : Port) (s : State) : State :=
  let r := s.port p
  if r.transfer.isSome then s.keepOrder p .transferOut
  else
    match r.position with
    | .normal => s.startOutward p
    | .testing => s.post .outDone
    | .isolated => s

/-- TRANSFER_BACK on a port in TEST (R20). -/
def State.orderBack (p : Port) (s : State) : State :=
  let r := s.port p
  if r.transfer.isSome then s.keepOrder p .transferBack
  else
    match r.position with
    | .testing => s.startBack p
    | .normal => s.post .backDone
    | .isolated => s

/-- RELEASE on a port in TEST (R20). -/
def State.orderRelease (p : Port) (s : State) : State :=
  let r := s.port p
  if r.transfer.isSome then s.keepOrder p .release
  else
    match r.position with
    | .normal => s.carryOutRelease p
    | .testing => (s.startBack p).keepOrder p .release
    | .isolated => s

/-- The held order of a port starts when its transfer has ended in agreement (R20). -/
def State.startHeldOrder (p : Port) (s : State) : State :=
  match (s.port p).heldOrder with
  | none => s
  | some o =>
    let s := s.modifyPort p fun r => { r with heldOrder := none }
    if (s.port p).state = .test then
      match o with
      | .transferOut => s.orderOut p
      | .transferBack => s.orderBack p
      | .release => s.orderRelease p
    else s

/-- Whether another pair's test relay is commanded closed or sensed closed (R8). -/
def State.busOccupied (p : Port) (s : State) : Bool :=
  allPorts.any fun q => q != p && ((s.port q).testClosedCmd || (s.port q).testClosedSense)

/-- What the make at the end of a GAP commands (R8, R9), the check of R10 having agreed. The SETTLE takes the relay settle time that stands at that
moment (R7), also in the restoring transfer of a directed reset, for which R2 names the default: DESIGN CHOICE (log 56). -/
def State.makeAfterGap (p : Port) (kind : TransferKind) (s : State) : State :=
  match kind with
  | .outward =>
    if s.busOccupied p then
      s.modifyPort p fun r =>
        { r with lineClosedCmd := true, position := .normal, transfer := some (s.settleOf .turnedRound) }
    else s.modifyPort p fun r => { r with testClosedCmd := true, transfer := some (s.settleOf .outward) }
  | .back | .turnedRound | .restoring =>
    s.modifyPort p fun r => { r with lineClosedCmd := true, transfer := some (s.settleOf kind) }

/-- Whether the relay a transfer commanded open reads open (R10, point 2). A directed reset's GAP commands both open (R9). -/
def PortRecord.opened (r : PortRecord) : TransferKind → Bool
  | .outward => !r.lineClosedSense
  | .back | .turnedRound => !r.testClosedSense
  | .restoring => !r.lineClosedSense && !r.testClosedSense

/-- Whether both senses agree with their commands (R10, point 1). -/
def PortRecord.agrees (r : PortRecord) : Bool := r.lineClosedSense == r.lineClosedCmd && r.testClosedSense == r.testClosedCmd

/-- The answer a transfer's end in agreement sends (R8). -/
def transferAnswer : TransferKind → List Instr
  | .outward => [.outDone]
  | .back => [.backDone]
  | .turnedRound => [.outFailed]
  | .restoring => []

/-- A transfer ends in agreement (R8, R9, R20, R102): the phase becomes none, POWER_ON follows in DOWN (R5), the end is reported, the
answer is sent, the held order starts. -/
def State.endTransfer (p : Port) (kind : TransferKind) (s : State) : State :=
  let r := { s.port p with transfer := none }
  let s := (s.installPort p r).post (.portReport p r.state r.held.any .none)
  ({ s with mail := s.mail ++ transferAnswer kind } : State).startHeldOrder p

/-- The end of a GAP phase (R8, R9, R10). -/
def execGapEnd (p : Port) (s : State) : Host.Outcome State Fault Refusal :=
  let r := s.port p
  match r.transfer with
  | some t =>
    if t.phase = .gap then
      let s := s.reach t.ends
      if r.opened t.kind then .next (s.makeAfterGap p t.kind) else .next (s.mismatch p)
    else .next s
  | none => .next s

/-- The end of a SETTLE phase (R8, R9, R10). -/
def execSettleEnd (p : Port) (s : State) : Host.Outcome State Fault Refusal :=
  let r := s.port p
  match r.transfer with
  | some t =>
    if t.phase = .settle then
      let s := s.reach t.ends
      if r.agrees then .next (s.endTransfer p t.kind) else .next (s.mismatch p)
    else .next s
  | none => .next s

/-- The record with a sense input's reading (R7). -/
def PortRecord.sense (relay : Relay) (closed : Bool) (r : PortRecord) : PortRecord :=
  match relay with
  | .line => { r with lineClosedSense := closed }
  | .test => { r with testClosedSense := closed }

/-- A sense input's reading and its relay's command (R7). -/
def PortRecord.sensed (r : PortRecord) : Relay → Bool
  | .line => r.lineClosedSense
  | .test => r.testClosedSense

def PortRecord.commanded (r : PortRecord) : Relay → Bool
  | .line => r.lineClosedCmd
  | .test => r.testClosedCmd

/-- A relay sense input changes (R10, point 3): outside a transfer, a disagreement is a mismatch at that moment. -/
def execRelaySenseChange (p : Port) (relay : Relay) (closed : Bool) (s : State) : Host.Outcome State Fault Refusal :=
  let r := s.port p
  if r.sensed relay = closed then .next s
  else
    let s := s.modifyPort p (PortRecord.sense relay closed)
    if r.transfer.isNone ∧ r.commanded relay ≠ closed then .next (s.mismatch p) else .next s

/-- The idle timer of a port expires (R17). -/
def execIdleTimerExpiry (p : Port) (s : State) : Host.Outcome State Fault Refusal :=
  match (s.port p).idleTimer with
  | some t => .next ((s.reach t).addDoze p .idle)
  | none => .next s

/-! ## Requests of the Pair Test Controller and the Measurement Unit (R19, R20, R11) -/

/-- Whether a TAKE is DENIED (R19). -/
def State.denies (p : Port) (allowUp : Bool) (s : State) : Bool :=
  let r := s.port p
  (allPorts.any fun q => (s.port q).state == .test) || r.state == .held || (r.state == .disabled && r.held.any) ||
    r.transfer.isSome || (r.state == .up && !allowUp)

/-- A port is taken for a test (R19). -/
def State.lend (id : Nat) (p : Port) (s : State) : State :=
  let r := s.port p
  (s.changePort p
    { r with
      state := .test, testRef := some id
      returnTarget := some (if r.state = .disabled then .disabled else .down) }).post (.granted id)

/-- TAKE (R19). -/
def execTake (id : Nat) (p : Port) (allowUp : Bool) (s : State) : Host.Outcome State Fault Refusal :=
  let s := s.taken (.take id p allowUp)
  if s.denies p allowUp then .next (s.post (.denied id)) else .next (s.lend id p)

/-- TRANSFER_OUT (R20). -/
def execTransferOut (p : Port) (s : State) : Host.Outcome State Fault Refusal :=
  let s := s.taken (.transferOut p)
  if (s.port p).state = .test then .next (s.orderOut p) else .next s

/-- TRANSFER_BACK (R20). -/
def execTransferBack (p : Port) (s : State) : Host.Outcome State Fault Refusal :=
  let s := s.taken (.transferBack p)
  if (s.port p).state = .test then .next (s.orderBack p) else .next s

/-- RELEASE (R20). -/
def execRelease (p : Port) (s : State) : Host.Outcome State Fault Refusal :=
  let s := s.taken (.release p)
  if (s.port p).state = .test then .next (s.orderRelease p) else .next s

/-- HAZARD from the Measurement Unit (R11, R126). -/
def execHazardReport (p : Port) (path : SensePath) (code : BitVec 12) (s : State) : Host.Outcome State Fault Refusal :=
  .next ((s.taken (.hazardReport p path code)).hold p .hazard)

/-! ## The PORT directives -/

/-- A directive that names one port: BAD_PARAM outside L0..L15 (1.8). -/
def onPort (params : List Octet) (body : Port → State → Answer) (s : State) : Answer :=
  match namedPort params with
  | some p => body p s
  | none => refuse .badParam s

/-- The LWU becomes armed at the first PORT_ENABLE answered with DONE, and every pair's watches are worked out (R146). -/
def State.arm (s : State) : State :=
  if s.lwu.armed then s
  else allPorts.foldl (fun s p => s.rewatch p) { s with lwu := { s.lwu with armed := true } }

/-- PORT_ENABLE by the port's state (R21). -/
def State.portEnable (p : Port) (s : State) : Answer :=
  let r := s.port p
  match r.state with
  | .disabled => if r.held.any then refuse .faultLatched s else done (s.returnToService p r false).arm
  | .held => refuse .faultLatched s
  | .test =>
    if r.returnTarget = some .disabled then done (s.changePort p { r with returnTarget := some .down }).arm else done s.arm
  | .down | .training | .up | .doze => done s.arm

/-- PORT_ENABLE (R21). -/
def execPortEnable (o : Origin) (params : List Octet) (s : State) : Host.Outcome State Fault Refusal :=
  .next (s.direct o 0x10#8 params (octets 1 params) .changing (onPort params State.portEnable))

/-- PORT_DISABLE by the port's state (R22). -/
def State.portDisable (p : Port) (s : State) : State :=
  let r := s.port p
  match r.state with
  | .down | .training | .up | .doze => s.changePort p { r with state := .disabled, causes := .empty, wakePending := false }
  | .held => s.changePort p { r with state := .disabled, returnTarget := none }
  | .test =>
    let s := s.changePort p { r with returnTarget := some .disabled, causes := .empty, wakePending := false }
    match r.testRef with
    | some id => s.post (.portDisabledReport id)
    | none => s
  | .disabled => s

/-- PORT_DISABLE (R22). -/
def execPortDisable (o : Origin) (params : List Octet) (s : State) : Host.Outcome State Fault Refusal :=
  .next (s.direct o 0x11#8 params (octets 1 params) .changing (onPort params fun p s => done (s.portDisable p)))

/-- The record on its restoring transfer, its held reasons emptied (R9, R13). -/
def State.restored (p : Port) (s : State) : PortRecord :=
  { s.port p with
    held := .empty, lineClosedCmd := true, testClosedCmd := false, position := .normal, transfer := some (s.settleOf .restoring) }

/-- PORT_CLEAR by the port's state (R13). -/
def State.portClear (p : Port) (s : State) : Answer :=
  let r := s.port p
  if r.state = .held ∨ (r.state = .disabled ∧ r.held.any) then
    if r.lineClosedSense ∨ r.testClosedSense ∨ (s.lwu.records.get p).hazardDeclared then refuse .stillPresent s
    else
      let s := (s.clearFault (.line p) .relayMismatch).clearFault (.line p) .hazard
      let r := s.restored p
      if r.state = .disabled then done (s.installPort p r)
      else if r.returnTarget = some .disabled then done (s.changePort p { r with state := .disabled, returnTarget := none })
      else done (s.returnToService p { r with returnTarget := none } false)
  else refuse .wrongState s

/-- PORT_CLEAR (R13). -/
def execPortClear (o : Origin) (params : List Octet) (s : State) : Host.Outcome State Fault Refusal :=
  .next (s.direct o 0x12#8 params (octets 1 params) .changing (onPort params State.portClear))

/-- PORT_WAKE by the port's state (R16). -/
def State.portWake (p : Port) (s : State) : Answer :=
  match (s.port p).state with
  | .doze | .test => done (s.wake p true)
  | _ => refuse .wrongState s

/-- PORT_WAKE (R16). -/
def execPortWake (o : Origin) (params : List Octet) (s : State) : Host.Outcome State Fault Refusal :=
  .next (s.direct o 0x13#8 params (octets 1 params) .changing (onPort params State.portWake))

/-- The eight counters, in the order of R24. -/
def PortCounters.octets (c : PortCounters) : List Octet :=
  num4 c.rxFrames.toNat ++ num4 c.rxOctets.toNat ++ num4 c.txFrames.toNat ++ num4 c.txOctets.toNat ++ num4 c.retrains ++
    num4 c.dozes ++ num4 c.relayFaults ++ num4 c.hazardHolds

/-- What PORT_STATUS returns, in the order of R23. The line relay comes first, each relay's command before its sense, and a value that R23 returns
"when present" is absent else: DESIGN CHOICE (log 25). -/
def State.statusOctets (p : Port) (s : State) : List Octet :=
  let r := s.port p
  num1 r.state.code ++ yesNo (r.state == .disabled && r.held.any) ++ yesNo r.orderOn ++ opt4 (r.rates.map (·.up)) ++
    opt4 (r.rates.map (·.down)) ++ r.causes.octets ++ yesNo r.wakePending ++ num1 r.position.code ++ num1 r.phase.code ++
    num1 (relayCode r.lineClosedCmd) ++ num1 (relayCode r.lineClosedSense) ++ num1 (relayCode r.testClosedCmd) ++
    num1 (relayCode r.testClosedSense) ++ r.held.octets ++ opt4 r.testRef ++ opt1 (r.returnTarget.map (·.code)) ++
    opt4 (r.idleTimer.map s.leftSeconds) ++ r.counters.octets

/-- PORT_STATUS (R23). -/
def execPortStatus (o : Origin) (params : List Octet) (s : State) : Host.Outcome State Fault Refusal :=
  .next (s.direct o 0x14#8 params (octets 1 params) .read (onPort params fun p s => doneWith (s.statusOctets p) s))

end Sys2Proof.Machine
end

