-- ==== Sys2Proof/Machine/Frames.lean ====
section
/-! DEFINITION. The commands of frame reception: start, cells, headers, end (02 and 03). -/

namespace Sys2Proof.Machine

/-! ## Frames in reception -/

/-- The frame in reception from a source. -/
def State.reception (s : State) : Source → Option Reception
  | .line p => s.fcl.rxLine.get p
  | .uplink => s.fcl.rxUplink
  | .craft => s.fcl.rxCraft

/-- The frame in reception from a source replaced. -/
def State.setReception (src : Source) (r : Option Reception) (s : State) : State :=
  match src with
  | .line p => { s with fcl := { s.fcl with rxLine := s.fcl.rxLine.set p r } }
  | .uplink => { s with fcl := { s.fcl with rxUplink := r } }
  | .craft => { s with fcl := { s.fcl with rxCraft := r } }

/-- The area a source's frames take cells from (R47); craft frames take none (R29). -/
def sourceArea : Source → Option Area
  | .line _ => some .upstream
  | .uplink => some .downstream
  | .craft => none

/-- A frame at its first octet. -/
def Reception.fresh (cells : List Nat) : Reception :=
  { header := none, dropped := none, result := none, hit := none, queue := none, cells := cells }

/-- The cells a frame holds are returned (R26, R51). -/
def State.returnCells (src : Source) (n : Nat) (s : State) : State :=
  match sourceArea src with
  | some a => s.freeCells a n
  | none => s

/-- A frame is dropped during its reception (R26, R51): its cells are returned, and it takes no further one. -/
def State.dropFrame (src : Source) (why : DropReason) (r : Reception) (s : State) : State :=
  (s.returnCells src r.cells.length).setReception src (some { r with dropped := some why, cells := [] })

/-- Whether the header of a craft frame is still to come that is not, or will not be, in reception (R62): that of the frame in reception now, if it has
not arrived, or the one that is awaited already (log 23). -/
def Classifier.headerOwed (c : Classifier) : Bool :=
  match c.rxCraft with
  | some r => r.header.isNone
  | none => c.staleHeader

/-- Whether the next header from the craft port is to be discarded. -/
def State.setStaleHeader (b : Bool) (s : State) : State := { s with fcl := { s.fcl with staleHeader := b } }

/-- The start of a frame's reception (R49, R50, R51). A craft frame starts when the craft port is alive, and the header of one that starts while it is
not is discarded (log 23). -/
def execFrameStart (src : Source) (s : State) : Host.Outcome State Fault Refusal :=
  if (s.reception src).isSome then .next s
  else
    match sourceArea src with
    | some a =>
      if 1 ≤ s.areaFree a then .next ((s.takeCells a 1).setReception src (some (.fresh (s.newCells a 1))))
      else .next (s.setReception src (some { Reception.fresh [] with dropped := some .poolFull }))
    | none =>
      let s := s.setStaleHeader !s.craftAlive
      if s.craftAlive then .next (s.setReception src (some (.fresh []))) else .next s

/-- The free cells a frame needs to take a later one (R50). -/
def Reception.needs (r : Reception) (reserve : Nat) : Nat :=
  match r.result.bind (·.cls) with
  | some .bulk => reserve + 1
  | some .express | none => 1

/-- A frame asks for its next cell (R49, R50, R51). -/
def execCellRequest (src : Source) (s : State) : Host.Outcome State Fault Refusal :=
  match s.reception src, sourceArea src with
  | some r, some a =>
    if r.header.isNone ∨ r.dropped.isSome ∨ Config.maxFrameCells ≤ r.cells.length then .next s
    else if r.needs s.settings.expressReserve ≤ s.areaFree a then
      .next ((s.takeCells a 1).setReception src (some { r with cells := r.cells ++ s.newCells a 1 }))
    else .next (s.dropFrame src .poolFull r)
  | _, _ => .next s

/-! ## Lookup (R31, R35) -/

/-- The entry of a key in a bank: (UP, port, VID) or (DOWN, VID) (R30). -/
def Bank.lookup (b : Bank) (dir : Direction) (port : Option Port) (vid : Nat) : Option FlowEntry :=
  (b.find? fun e => e.2.direction == dir && e.2.port == port && e.2.vid == vid).map (·.2)

/-- The class of a frame with a priority code, queued for a port (R35). -/
def FlowEntry.classOf (e : FlowEntry) (priority : BitVec 3) (threshold : Nat) : FrameClass :=
  match e.classMode with
  | .express => .express
  | .bulk => .bulk
  | .byPriority => if threshold ≤ priority.toNat then .express else .bulk

/-- The port a frame that hit an entry is queued for: the arrival port, or the entry's target (R35). -/
def FlowEntry.queuedFor (e : FlowEntry) (arrival : Option Port) : Option Port :=
  match e.direction with
  | .up => arrival
  | .down => e.target

/-- The queue of a class in a direction (R32, R33). -/
def queueOf (dir : Direction) (cls : FrameClass) (p : Port) : QueueId :=
  match dir, cls with
  | .up, .express => .ux p
  | .up, .bulk => .ub p
  | .down, .express => .dx p
  | .down, .bulk => .db p

/-- The classification result a hit gives (R31), and the queue of a frame that is forwarded. -/
def State.classify (e : FlowEntry) (arrival : Option Port) (vid : Nat) (mark : Bool) (priority : BitVec 3) (s : State) :
    Result × Option QueueId :=
  let egress := match e.action with | .retag => e.retagVid.getD vid | _ => vid
  match e.action, e.queuedFor arrival with
  | .forward, some p | .retag, some p =>
    let cls := e.classOf priority (s.sub p).classThreshold
    ({ action := e.action, destination := match e.direction with | .up => .uplink | .down => .line p
       cls := some cls, egressVid := egress, insertTag := mark, priority := priority }, some (queueOf e.direction cls p))
  | a, _ =>
    ({ action := a, destination := .agent, cls := none, egressVid := egress, insertTag := mark, priority := priority }, none)

/-- What the frame of an entry meets at its header (R32 to R34, R50): DROP drops it; a bulk frame below the express reserve is dropped
POOL_FULL; any other keeps its cells. -/
def State.headerHit (src : Source) (area : Area) (e : FlowEntry) (r : Reception) (res : Result × Option QueueId) (s : State) : State :=
  let r := { r with hit := some e.stamp }
  if e.action = .drop then s.dropFrame src .actionDrop r
  else
    let r := { r with result := some res.1, queue := res.2 }
    if res.1.cls = some .bulk ∧ s.areaFree area < s.settings.expressReserve then s.dropFrame src .poolFull r
    else s.setReception src (some r)

/-- A frame's key is looked up in the active bank (R31): a miss is NO_ENTRY. -/
def State.lookupFrame (src : Source) (area : Area) (dir : Direction) (arrival : Option Port) (vid : Nat) (mark : Bool)
    (priority : BitVec 3) (r : Reception) (s : State) : State :=
  match Bank.lookup s.fcl.active dir arrival vid with
  | none => s.dropFrame src .noEntry r
  | some e => s.headerHit src area e r (s.classify e arrival vid mark priority)

/-- The outer tag as its two octets behind the tag type hold it: priority code, drop-eligible bit, VID, from the most significant bit: PRESUMED
(log 59). -/
def tagOf (control : BitVec 16) : Tag :=
  { priority := control.extractLsb' 13 3, dropEligible := control.getLsbD 12, vid := control.extractLsb' 0 12 }

/-- A frame's header read from its octets (R25): the frame is tagged when octets 13 and 14 hold the tag type, and its ethertype then follows
the outer tag; a second tag inside it is content. -/
def HeaderOctets.read (o : HeaderOctets) : FrameHeader :=
  if o.typeOctets = Config.tagType then
    { destination := o.destination, source := o.source, tag := some (tagOf o.tagControl), ethertype := o.innerType }
  else { destination := o.destination, source := o.source, tag := none, ethertype := o.typeOctets }

/-- The VID of a header's tag, 0 when it has none, and its priority code (R27). -/
def FrameHeader.vidOf (h : FrameHeader) : Nat := match h.tag with | some t => t.vid.toNat | none => 0
def FrameHeader.priorityOf (h : FrameHeader) : BitVec 3 := match h.tag with | some t => t.priority | none => 0#3

/-- An upstream frame at its header (R27). -/
def State.upstream (p : Port) (h : FrameHeader) (r : Reception) (s : State) : State :=
  if h.ethertype = Config.agentEthertype then s.dropFrame (.line p) .agentFromLine r
  else if FrameHeader.vidOf h = 0 then
    match (s.sub p).defaultVid with
    | none => s.dropFrame (.line p) .untagged r
    | some v => s.lookupFrame (.line p) .upstream .up (some p) v h.tag.isNone (FrameHeader.priorityOf h) r
  else s.lookupFrame (.line p) .upstream .up (some p) (FrameHeader.vidOf h) false (FrameHeader.priorityOf h) r

/-- A downstream frame at its header (R28). -/
def State.downstream (h : FrameHeader) (r : Reception) (s : State) : State :=
  if FrameHeader.vidOf h = 0 then s.dropFrame .uplink .untagged r
  else s.lookupFrame .uplink .downstream .down none (FrameHeader.vidOf h) false (FrameHeader.priorityOf h) r

/-- The header of an upstream frame arrives (R25, R27). A frame that found no cell is not classified (R51). -/
def execUpstreamHeader (p : Port) (o : HeaderOctets) (s : State) : Host.Outcome State Fault Refusal :=
  let h := HeaderOctets.read o
  match s.reception (.line p) with
  | none => .next s
  | some r =>
    if r.header.isSome then .next s
    else
      let r := { r with header := some h }
      if r.dropped.isSome then .next (s.setReception (.line p) (some r)) else .next (s.upstream p h r)

/-- The header of a downstream frame arrives (R25, R28). -/
def execDownstreamHeader (o : HeaderOctets) (s : State) : Host.Outcome State Fault Refusal :=
  let h := HeaderOctets.read o
  match s.reception .uplink with
  | none => .next s
  | some r =>
    if r.header.isSome then .next s
    else
      let r := { r with header := some h }
      if r.dropped.isSome then .next (s.setReception .uplink (some r)) else .next (s.downstream h r)

/-- Why a craft frame is dropped at its header, if it is (R29): NOT_AGENT before STORE_BUSY (log 34). -/
def State.craftDrop (h : FrameHeader) (s : State) : Option DropReason :=
  if h.ethertype ≠ Config.agentEthertype then some .notAgent
  else if s.mga.craftStore.isSome then some .storeBusy
  else none

/-- The header of a craft frame arrives (R25, R29). The header of a frame that a reset or a loss of craft power has taken out of reception is discarded
(R62, R168). A frame whose start was not commanded starts here (log 23). -/
def execCraftHeader (o : HeaderOctets) (s : State) : Host.Outcome State Fault Refusal :=
  let h := HeaderOctets.read o
  match s.reception .craft with
  | some r =>
    if r.header.isSome then .next s
    else .next (s.setReception .craft (some { r with header := some h, dropped := s.craftDrop h }))
  | none =>
    if s.fcl.staleHeader then .next (s.setStaleHeader false)
    else if s.craftAlive then
      .next (s.setReception .craft (some { Reception.fresh [] with header := some h, dropped := s.craftDrop h }))
    else .next s

/-! ## The end of a frame (R25, R26, R31, R34, R51, R55) -/

/-- The drop counters of a source after `k` more drops for a reason the FCL counts (R36). -/
def LineDrops.count (why : DropReason) (d : LineDrops) : LineDrops :=
  match why with
  | .agentFromLine => { d with agentFromLine := bump d.agentFromLine }
  | .untagged => { d with untagged := bump d.untagged }
  | .noEntry => { d with noEntry := bump d.noEntry }
  | .actionDrop => { d with actionDrop := bump d.actionDrop }
  | .notAgent | .storeBusy | .poolFull => d

def UplinkDrops.count (why : DropReason) (d : UplinkDrops) : UplinkDrops :=
  match why with
  | .untagged => { d with untagged := bump d.untagged }
  | .noEntry => { d with noEntry := bump d.noEntry }
  | .actionDrop => { d with actionDrop := bump d.actionDrop }
  | .agentFromLine | .notAgent | .storeBusy | .poolFull => d

def CraftDrops.count (why : DropReason) (d : CraftDrops) : CraftDrops :=
  match why with
  | .notAgent => { d with notAgent := bump d.notAgent }
  | .storeBusy => { d with storeBusy := bump d.storeBusy }
  | .agentFromLine | .untagged | .noEntry | .actionDrop | .poolFull => d

/-- Classifier drop counters changed. -/
def State.countLine (p : Port) (f : LineDrops → LineDrops) (s : State) : State :=
  { s with fcl := { s.fcl with lineDrops := s.fcl.lineDrops.modify p f } }

def State.countUplink (f : UplinkDrops → UplinkDrops) (s : State) : State :=
  { s with fcl := { s.fcl with uplinkDrops := f s.fcl.uplinkDrops } }

def State.countCraft (f : CraftDrops → CraftDrops) (s : State) : State :=
  { s with fcl := { s.fcl with craftDrops := f s.fcl.craftDrops } }

/-- Buffer drop counters of a port changed. -/
def State.countBuffer (p : Port) (f : BufferDrops → BufferDrops) (s : State) : State :=
  { s with cbm := { s.cbm with drops := s.cbm.drops.modify p f } }

/-- A frame too short or too long is counted LENGTH (R25). -/
def State.countLength (src : Source) (s : State) : State :=
  match src with
  | .line p => s.countLine p fun d => { d with length := bump d.length }
  | .uplink => s.countUplink fun d => { d with length := bump d.length }
  | .craft => s.countCraft fun d => { d with length := bump d.length }

/-- A frame with a wrong FCS is counted FCS (R25). -/
def State.countFcs (src : Source) (s : State) : State :=
  match src with
  | .line p => s.countLine p fun d => { d with fcs := bump d.fcs }
  | .uplink => s.countUplink fun d => { d with fcs := bump d.fcs }
  | .craft => s.countCraft fun d => { d with fcs := bump d.fcs }

/-- A good frame dropped POOL_FULL is counted by the CBM (R51, R60). -/
def State.countPoolFull (src : Source) (r : Reception) (s : State) : State :=
  match src with
  | .line p => s.countBuffer p fun d => { d with poolFullUp := bump d.poolFullUp }
  | .uplink =>
    match r.queue.bind QueueId.port with
    | some p => s.countBuffer p fun d => { d with poolFullDown := bump d.poolFullDown }
    | none => { s with cbm := { s.cbm with uplinkPoolFull := bump s.cbm.uplinkPoolFull } }
  | .craft => s

/-- A good frame dropped during its reception is counted under its reason (R26, R51). -/
def State.countDrop (src : Source) (why : DropReason) (r : Reception) (s : State) : State :=
  if why = .poolFull then s.countPoolFull src r
  else
    match src with
    | .line p => s.countLine p (LineDrops.count why)
    | .uplink => s.countUplink (UplinkDrops.count why)
    | .craft => s.countCraft (CraftDrops.count why)

/-- A hit is counted where its entry now stands, if it still stands (R31). -/
def countHit (stamp : Nat) (b : Bank) : Bank :=
  b.map fun e => if e.2.stamp = stamp then (e.1, { e.2 with hits := count32 e.2.hits }) else e

/-- The hit of a good frame is counted (R31). -/
def State.countHits (r : Reception) (s : State) : State :=
  match r.hit with
  | none => s
  | some st => { s with fcl := { s.fcl with active := countHit st s.fcl.active, candidate := countHit st s.fcl.candidate } }

/-- The idle timer of a port in UP restarts with the full idle doze time (R17). -/
def State.restartIdle (p : Port) (s : State) : State :=
  let idle := (s.sub p).idleDoze
  if (s.port p).state = .up ∧ idle ≠ 0 then s.modifyPort p fun r => { r with idleTimer := some (s.now + sec idle) } else s

/-- A good frame counts in its line port's rx counters and restarts its idle timer (R17, R24). -/
def State.receivedGood (src : Source) (length : Nat) (s : State) : State :=
  match src with
  | .line p =>
    (s.countPort p fun c => { c with rxFrames := count32 c.rxFrames, rxOctets := count32 c.rxOctets length }).restartIdle p
  | .uplink | .craft => s

/-- An upstream admission is activity of its port (R56, R66). -/
def State.reportActivity (p : Port) (s : State) : State :=
  let was := s.isActive p
  let s := { s with scu := { s.scu with activity := s.scu.activity.set p (some (s.now + ms s.settings.activityWindow)) } }
  if was then s else s.trigger

/-- The cap of a subscriber queue (R54). -/
def State.capOf (s : State) (q : QueueId) : Nat :=
  match q with
  | .ux p | .dx p => (s.sub p).expressCap
  | .ub p | .db p => (s.sub p).bulkCap
  | .aq | .cq => 0

/-- What an admission brings in its direction (R55, R56, R17), with the choice it is an event for (R87, R94). -/
def State.admitted (q : QueueId) (s : State) : State :=
  match q with
  | .ux p | .ub p => (s.reportActivity p).uplinkChoice
  | .dx p | .db p => (s.restartIdle p).lineChoice p
  | .aq | .cq => s

/-- A refusal at admission is counted in the direction of its queue (R55, R60). -/
def BufferDrops.refused (q : QueueId) (notUp : Bool) (d : BufferDrops) : BufferDrops :=
  match q, notUp with
  | .ux _, true | .ub _, true => { d with notUpUp := bump d.notUpUp }
  | .ux _, false | .ub _, false => { d with queueFullUp := bump d.queueFullUp }
  | .dx _, true | .db _, true => { d with notUpDown := bump d.notUpDown }
  | .dx _, false | .db _, false => { d with queueFullDown := bump d.queueFullDown }
  | .aq, _ | .cq, _ => d

/-- Admission (R55): NOT_UP, QUEUE_FULL, or the tail of the queue. -/
def State.acceptDescriptor (p : Port) (d : Descriptor) (s : State) : State :=
  if (s.port p).state ≠ .up then
    (s.freeCells d.queue.area d.cells.length).countBuffer p (BufferDrops.refused d.queue true)
  else if s.capOf d.queue < cellsOf (s.queue d.queue) + d.cells.length then
    (s.freeCells d.queue.area d.cells.length).countBuffer p (BufferDrops.refused d.queue false)
  else (s.setQueue d.queue (s.queue d.queue ++ [d])).admitted d.queue

/-- A good uplink frame bound for the agent is handed over and its cells are returned (R34, R176). -/
def State.handOver (f : AgentFrame) (s : State) : State :=
  match f.origin with
  | .uplink =>
    if s.mga.uplinkStore.isSome then { s with mga := { s.mga with rejected := bump s.mga.rejected } }
    else State.callTakeIn { s with mga := { s.mga with uplinkStore := some f } }
  | .craft => State.callTakeIn { s with mga := { s.mga with craftStore := some f } }

/-- The source of a descriptor of a received frame (R52). -/
def descriptorSource : Source → DescriptorSource
  | .line p => .line p
  | .uplink => .uplink
  | .craft => .agent

/-- The agent frame a good frame's contents make (R29, R34). -/
def agentFrameOf (o : Origin) (vid : Nat) (h : FrameHeader) (payload : List Octet) : AgentFrame :=
  { origin := o, source := h.source, vid := vid, ethertype := h.ethertype, payload := payload }

/-- A good frame that was not dropped is handed on (R26). One whose header never came holds its cells for nothing: they are returned
(log 21). -/
def State.handOnFrame (src : Source) (length : Nat) (payload : List Octet) (r : Reception) (s : State) : State :=
  match src, r.header, r.result, r.queue with
  | .craft, some h, _, _ => s.handOver (agentFrameOf .craft 0 h payload)
  | _, some h, some res, some q =>
    match q.port with
    | some p =>
      s.acceptDescriptor p
        { length := length, cells := r.cells, source := descriptorSource src, result := some res, queue := q
          image := { header := h, payload := payload, newFcs := false }, agentKind := none }
    | none => s.returnCells src r.cells.length
  | _, some h, some res, none => (s.returnCells src r.cells.length).handOver (agentFrameOf .uplink res.egressVid h payload)
  | _, _, _, _ => s.returnCells src r.cells.length

/-- A good frame ends (R24, R26, R31). -/
def State.endGood (src : Source) (length : Nat) (payload : List Octet) (r : Reception) (s : State) : State :=
  let s := (s.receivedGood src length).countHits r
  match r.dropped with
  | some why => s.countDrop src why r
  | none => s.handOnFrame src length payload r

/-- A frame in reception ends (R25): its length, then its FCS, are checked. -/
def State.endFrame (src : Source) (length : Nat) (fcsGood : Bool) (payload : List Octet) (s : State) : State :=
  match s.reception src with
  | none => s
  | some r =>
    let s := s.setReception src none
    if length < Config.minFrame ∨ Config.maxFrame < length then (s.returnCells src r.cells.length).countLength src
    else if !fcsGood then (s.returnCells src r.cells.length).countFcs src
    else s.endGood src length payload r

/-- FRAME_END (R25). The end of a craft frame that is not in reception has no check and no count (R62); its header is awaited no longer (log 23). -/
def execFrameEnd (src : Source) (length : Nat) (fcsGood : Bool) (payload : List Octet) (s : State) :
    Host.Outcome State Fault Refusal :=
  if src = .craft ∧ s.reception src = none then .next (s.setStaleHeader false)
  else .next (s.endFrame src length fcsGood payload)

end Sys2Proof.Machine
end

