-- ==== Sys2Proof/Machine/ShareCommands.lean ====
section
/-! DEFINITION. The commands of the Share Computation Unit (04): activity, capacity, link state, completion, and the two SHARE directives. -/

namespace Sys2Proof.Machine

/-- The activity timer of a port expires (R67): with both upstream queues empty the port becomes inactive. -/
def execActivityTimerExpiry (p : Port) (s : State) : Host.Outcome State Fault Refusal :=
  match s.scu.activity.get p with
  | none => .next s
  | some t =>
    let s := s.reach t
    if (s.queue (.ux p)).isEmpty ∧ (s.queue (.ub p)).isEmpty then
      .next (State.trigger { s with scu := { s.scu with activity := s.scu.activity.set p none } })
    else
      .next { s with scu := { s.scu with activity := s.scu.activity.set p (some (s.now + ms s.settings.activityWindow)) } }

/-- A capacity report (R64). -/
def execCapacityReport (capacity : Nat) (s : State) : Host.Outcome State Fault Refusal :=
  let v := min Config.maxRate capacity
  let before := s.scu.latestReport
  let s := { s with scu := { s.scu with latestReport := some v } }
  if s.settings.capacitySource = .reported ∧ s.scu.linkUp ∧ v ≠ before.getD 0 then .next s.trigger else .next s

/-- The held link state changes to DOWN (R63). -/
def State.linkDown (s : State) : State :=
  (State.trigger { s with scu := { s.scu with linkUp := false } }).raiseFault .uplink .uplinkDown

/-- The held link state changes to UP (R63): the arbiter makes a choice (R87) and a notice frame is attempted (R186). -/
def State.linkComesUp (s : State) : State :=
  let s := (State.trigger { s with scu := { s.scu with linkUp := true } }).clearFault .uplink .uplinkDown
  s.tryNoticeFrame.uplinkChoice

/-- The uplink's link-state indication (R63): an indication equal to the held state changes nothing. -/
def execUplinkLinkStateChange (up : Bool) (s : State) : Host.Outcome State Fault Refusal :=
  if up = s.scu.linkUp then .next s
  else if up then .next s.linkComesUp
  else .next s.linkDown

/-- A computation installs its results (R76), with the notice of a changed OVERCOMMITTED flag (R80). -/
def State.installShares (c : Computation) (s : State) : State :=
  let before := s.scu.table.overcommitted
  let t := c.install s.scu.table
  let s := { s with scu := { s.scu with table := t } }
  if t.overcommitted = before then s else s.raiseNotice (.overcommit t.overcommitted t.usable t.floors t.sequence)

/-- The running computation completes (R79). -/
def execComputationComplete (s : State) : Host.Outcome State Fault Refusal :=
  match s.scu.computation with
  | none => .next s
  | some c =>
    let s := s.installShares c
    let s := { s with scu := { s.scu with computation := none } }
    if c.recompute then .next s.startComputation else .next s

/-- A row of SHARE_READ: grant, floor used, ceiling used, status, activity, departed mark (R81). Active and marked are carried as 1: DESIGN CHOICE
(log 25). -/
def State.shareRow (s : State) (p : Port) : List Octet :=
  let e := s.scu.table.entries.get p
  let departed := match s.scu.computation with | some c => c.departed.get p | none => false
  num4 e.grant ++ num4 e.floor ++ num4 e.ceiling ++ num1 e.status.code ++ yesNo (s.isActive p) ++ yesNo departed

/-- What SHARE_READ returns, in the order of R75 and R81. The OVERCOMMITTED flag is carried as 1 for set and 0 for clear, the
latest report as absent for none: DESIGN CHOICE (log 25). -/
def State.shareOctets (s : State) : List Octet :=
  let t := s.scu.table
  let running := s.scu.computation.isSome
  let recompute := match s.scu.computation with | some c => c.recompute | none => false
  num4 t.cUp ++ num4 t.usable ++ num4 t.floors ++ num4 t.spare ++ num1 t.outcome.code ++ yesNo t.overcommitted ++
    num4 t.rounds ++ num4 t.sequence.toNat ++ yesNo running ++ yesNo recompute ++ num1 (if s.scu.linkUp then 0 else 1) ++
    num1 s.settings.capacitySource.code ++ opt4 s.scu.latestReport ++ num4 s.settings.fixedCapacity ++
    allPorts.flatMap s.shareRow

/-- SHARE_READ (R81). -/
def execShareRead (o : Origin) (params : List Octet) (s : State) : Host.Outcome State Fault Refusal :=
  .next (s.direct o 0x30#8 params (noParams params) .read fun s => doneWith s.shareOctets s)

/-- SHARE_RECOMPUTE (R82): the data give the sequence number and whether the directive started a computation (1) or set pending (0), a yes/no of
R192: DESIGN CHOICE (log 25). -/
def State.recompute (s : State) : Answer :=
  doneWith (num4 s.scu.table.sequence.toNat ++ yesNo s.scu.computation.isNone) s.trigger

/-- SHARE_RECOMPUTE (R82). -/
def execShareRecompute (o : Origin) (params : List Octet) (s : State) : Host.Outcome State Fault Refusal :=
  .next (s.direct o 0x31#8 params (noParams params) .free State.recompute)

end Sys2Proof.Machine
end

