-- ==== Sys2Proof/Machine/Scheduling.lean ====
section
/-! DEFINITION. The commands of the Transmit Scheduler (05): refills, pause, completions, the craft link. -/

namespace Sys2Proof.Machine

/-- A refill by `rate` bits in a bucket of depth `depth` (R84), the next one a millisecond later. -/
def Bucket.refill (rate depth now : Nat) (b : Bucket) : Bucket :=
  let bits := b.remainder + rate
  { tokens := min depth (b.tokens + bits / 8), remainder := bits % 8, due := now + 1000 }

/-- The downstream rate of a port (R93). -/
def State.downRate (s : State) (p : Port) : Nat :=
  match (s.port p).state, (s.port p).rates with
  | .up, some r => min (s.sub p).downPeak r.down
  | _, _ => 0

/-- A refill of a port's upstream bucket from its grant (R84), and the choice it is an event for (R87). -/
def execUpstreamRefill (p : Port) (s : State) : Host.Outcome State Fault Refusal :=
  let s := s.reach (s.txs.upBuckets.get p).due
  let grant := (s.scu.table.entries.get p).grant
  let f := Bucket.refill grant (depthOf (s.sub p).upBurst) s.now
  .next (State.uplinkChoice { s with txs := { s.txs with upBuckets := s.txs.upBuckets.modify p f } })

/-- A refill of a port's downstream bucket (R93), and the choice of its line (R94). -/
def execDownstreamRefill (p : Port) (s : State) : Host.Outcome State Fault Refusal :=
  let s := s.reach (s.txs.downBuckets.get p).due
  let f := Bucket.refill (s.downRate p) (depthOf (s.sub p).downBurst) s.now
  .next (State.lineChoice p { s with txs := { s.txs with downBuckets := s.txs.downBuckets.modify p f } })

/-- The pause indication (R86); turning off is an event for a choice (R87, R91). -/
def execPauseChange (on : Bool) (s : State) : Host.Outcome State Fault Refusal :=
  let before := s.txs.paused
  let s := { s with txs := { s.txs with paused := on } }
  if before ∧ !on then .next s.uplinkChoice else .next s

/-- What an uplink completion counts (R97). -/
def Scheduler.countUplink (t : Transmission) (x : Scheduler) : Scheduler :=
  { x with
    uplinkFrames := count32 x.uplinkFrames
    uplinkOctets := count32 x.uplinkOctets t.octets
    uplinkAgentFrames := if t.desc.queue = .aq then count32 x.uplinkAgentFrames else x.uplinkAgentFrames }

/-- The uplink frame completes (R57, R90): its cells are freed, the transmitter is free, the counters rise; a frame from AQ sets off what
freed reserved cells do (log 35); a choice is made. -/
def execUplinkCompletion (s : State) : Host.Outcome State Fault Refusal :=
  match s.txs.uplinkTx with
  | none => .next s
  | some t =>
    let s := s.freeCells t.desc.queue.area t.desc.cells.length
    let s := { s with txs := Scheduler.countUplink t { s.txs with uplinkTx := none } }
    let s := if t.desc.queue = .aq then s.afterAgentFrames [t.desc] else s
    .next s.uplinkChoice

/-- The frame on a line completes (R24, R57, R94). -/
def execLineCompletion (p : Port) (s : State) : Host.Outcome State Fault Refusal :=
  match s.txs.lineTx.get p with
  | none => .next s
  | some t =>
    let s := s.freeCells t.desc.queue.area t.desc.cells.length
    let s := { s with txs := { s.txs with lineTx := s.txs.lineTx.set p none } }
    let s := s.countPort p fun c => { c with txFrames := count32 c.txFrames, txOctets := count32 c.txOctets t.octets }
    .next (s.lineChoice p)

/-- The frame on the craft port completes (R57, R96, R97). -/
def execCraftCompletion (s : State) : Host.Outcome State Fault Refusal :=
  match s.txs.craftTx with
  | none => .next s
  | some t =>
    let s := s.freeCells .reserved t.desc.cells.length
    let s := { s with txs := { s.txs with craftTx := none, craftFrames := count32 s.txs.craftFrames } }
    .next (s.afterAgentFrames [t.desc]).craftChoice

/-- The craft port's link indication (R96): while it is down every frame in CQ is discarded; when the port is alive again its head may
start. -/
def execCraftLinkChange (up : Bool) (s : State) : Host.Outcome State Fault Refusal :=
  let s := { s with txs := { s.txs with craftLinkUp := up } }
  if s.craftAlive then .next s.craftChoice else .next s.discardCraft

end Sys2Proof.Machine
end

