-- ==== Sys2Proof/Machine/FlowTable.lean ====
section
/-! DEFINITION. The flow table's banks, check values and trials, with the FT directives (02: R37 to R46). -/

namespace Sys2Proof.Machine

/-! ## Banks (R37, R38) -/

/-- The digest of an occupied entry (R38). -/
def FlowEntry.digest (index : Nat) (e : FlowEntry) : Nat :=
  (index * 8191 + e.direction.code * 4099 + (e.port.map (·.val)).getD 0 * 257 + e.vid * 3 + e.action.code * 17 +
    e.classMode.code * 5 + (e.target.map (·.val)).getD 0 * 11 + e.retagVid.getD 0 * 7) % Config.checkModulus

/-- The check value of a bank (R38). -/
def Bank.check (b : Bank) : Nat := (b.map fun e => e.2.digest e.1).sum % Config.checkModulus

/-- The entry at an index. -/
def Bank.entry (b : Bank) (index : Nat) : Option FlowEntry := (b.find? fun e => e.1 == index).map (·.2)

/-- The bank with an index emptied. -/
def Bank.clear (index : Nat) (b : Bank) : Bank := b.filter fun e => e.1 != index

/-- The bank with an entry put at an index that is empty: indexes stay in rising order. -/
def Bank.insert (index : Nat) (e : FlowEntry) : Bank → Bank
  | [] => [(index, e)]
  | x :: xs => if index < x.1 then (index, e) :: x :: xs else x :: Bank.insert index e xs

/-- The bank with an index holding an entry. -/
def Bank.put (index : Nat) (e : FlowEntry) (b : Bank) : Bank := Bank.insert index e (b.clear index)

/-- Whether two entries have the same key (R30). -/
def FlowEntry.sameKey (a b : FlowEntry) : Bool := a.direction == b.direction && a.port == b.port && a.vid == b.vid

/-- Whether an occupied entry at another index has the entry's key (R40). -/
def Bank.holdsKey (index : Nat) (e : FlowEntry) (b : Bank) : Bool := b.any fun x => x.1 != index && x.2.sameKey e

/-- Whether a bank holds an AGENT entry (R42). -/
def Bank.hasAgent (b : Bank) : Bool := b.any fun x => x.2.action == .agent

/-- The classifier with an edited candidate, marked OPEN (R39, R40). -/
def State.editCandidate (b : Bank) (s : State) : State := { s with fcl := { s.fcl with candidate := b, mark := .open } }

/-! ## Trials (R42 to R46) -/

/-- The banks swap (R37). -/
def Classifier.swap (c : Classifier) : Classifier := { c with active := c.candidate, candidate := c.active }

/-- A trial is ended in favour of the old table (R44). -/
def State.revertTrial (s : State) : State := { s with fcl := { s.fcl.swap with mark := .rejected, trial := none } }

/-- The trial timer expires (R45): the trial is reverted, and TRIAL_REVERTED carries the check value of the rejected table. -/
def execTrialTimerExpiry (s : State) : Host.Outcome State Fault Refusal :=
  match s.fcl.trial with
  | none => .next s
  | some t =>
    let s := (s.reach t.ends).revertTrial
    .next (s.raiseNotice (.trialReverted s.fcl.candidate.check))

/-- FT_CANDIDATE_CLEAR (R39). -/
def State.ftClear (s : State) : Answer := if s.fcl.trial.isSome then refuse .busy s else done (s.editCandidate [])

def execFtCandidateClear (o : Origin) (params : List Octet) (s : State) : Host.Outcome State Fault Refusal :=
  .next (s.direct o 0x20#8 params (noParams params) .changing State.ftClear)

/-- The active bank as it is copied: hit counters 0, entries of their own (R31, R39). -/
def Bank.copied (stamp : Nat) : Bank → Bank
  | [] => []
  | x :: xs => (x.1, { x.2 with hits := 0#32, stamp := stamp }) :: Bank.copied (stamp + 1) xs

/-- FT_CANDIDATE_COPY (R39). -/
def State.ftCopy (s : State) : Answer :=
  if s.fcl.trial.isSome then refuse .busy s
  else
    let s' := s.editCandidate (Bank.copied s.fcl.nextStamp s.fcl.active)
    done { s' with fcl := { s'.fcl with nextStamp := s.fcl.nextStamp + s.fcl.active.length } }

def execFtCandidateCopy (o : Origin) (params : List Octet) (s : State) : Host.Outcome State Fault Refusal :=
  .next (s.direct o 0x21#8 params (noParams params) .changing State.ftCopy)

/-- FT_WRITE (R40): BAD_PARAM, BUSY, DUPLICATE_KEY, or the write. -/
def State.ftWrite (params : List Octet) (s : State) : Answer :=
  match ftForm params with
  | .bad => refuse .badParam s
  | .clear index => if s.fcl.trial.isSome then refuse .busy s else done (s.editCandidate (s.fcl.candidate.clear index))
  | .write index e =>
    if s.fcl.trial.isSome then refuse .busy s
    else if s.fcl.candidate.holdsKey index e then refuse .duplicateKey s
    else
      let s' := s.editCandidate (s.fcl.candidate.put index { e with stamp := s.fcl.nextStamp })
      done { s' with fcl := { s'.fcl with nextStamp := s.fcl.nextStamp + 1 } }

def execFtWrite (o : Origin) (params : List Octet) (s : State) : Host.Outcome State Fault Refusal :=
  .next (s.direct o 0x22#8 params (octets 11 params) .changing (State.ftWrite params))

/-- The remaining soak time of a trial in seconds, rounded up; 0 once it has passed (R41). -/
def State.soakLeft (s : State) (t : Trial) : Nat := s.leftSeconds (t.activatedAt + sec t.soak)

/-- The summary of FT_READ (R41): the remaining times are present during a trial, and carried as absent outside one: DESIGN CHOICE (log 25). -/
def State.ftSummary (s : State) : List Octet :=
  num4 s.fcl.active.check ++ num4 s.fcl.candidate.check ++ num4 s.fcl.active.length ++ num4 s.fcl.candidate.length ++
    num1 s.fcl.mark.code ++ num1 (if s.fcl.trial.isSome then 1 else 0) ++ opt4 (s.fcl.trial.map fun t => s.leftSeconds t.ends) ++
    opt4 (s.fcl.trial.map s.soakLeft)

/-- The items of FT_READ: `count` indexes from `first` on (R41). -/
def Bank.items (first : Nat) (b : Bank) : Nat → List Octet
  | 0 => []
  | n + 1 => flowItemOctets first (b.entry first) ++ Bank.items (first + 1) b n

/-- FT_READ (R41). -/
def State.ftRead (params : List Octet) (s : State) : Answer :=
  match params with
  | [bank, first, count] =>
    if 1 < bank.toNat ∨ 16 < count.toNat ∨ 256 < first.toNat + count.toNat then refuse .badParam s
    else
      let b := if bank.toNat = 0 then s.fcl.active else s.fcl.candidate
      doneWith (s.ftSummary ++ b.items first.toNat count.toNat) s
  | _ => refuse .badParam s

def execFtRead (o : Origin) (params : List Octet) (s : State) : Host.Outcome State Fault Refusal :=
  .next (s.direct o 0x23#8 params (octets 3 params) .read (State.ftRead params))

/-- The check value FT_ACTIVATE carries and its window, if it carries one (R196). Four octets always carry a window, 0xFFFF as well, which then is
BAD_PARAM: DESIGN CHOICE (log 50). -/
def activateForm : List Octet → Option (Nat × Option Nat)
  | [a, b] => some (read2 a b, none)
  | [a, b, c, d] => some (read2 a b, some (read2 c d))
  | _ => none

/-- A trial starts (R42). -/
def State.startTrial (window : Nat) (s : State) : State :=
  { s with
    fcl := { s.fcl.swap with
      mark := .fallback
      trial := some { ends := s.now + sec window, soak := s.settings.soakTime, activatedAt := s.now } } }

/-- FT_ACTIVATE (R42): BAD_PARAM, BUSY, BAD_CHECK, NO_AGENT_PATH, or the trial. -/
def State.ftActivate (params : List Octet) (s : State) : Answer :=
  match activateForm params with
  | none => refuse .badParam s
  | some (check, carried) =>
    let window := carried.getD s.settings.trialWindow
    if 65520 < check ∨ (carried.isSome ∧ (window < 5 ∨ 600 < window)) ∨ window ≤ s.settings.soakTime then refuse .badParam s
    else if s.fcl.trial.isSome then refuse .busy s
    else if s.fcl.candidate.check ≠ check then refuse .badCheck s
    else if !s.fcl.candidate.hasAgent then refuse .noAgentPath s
    else done (s.startTrial window)

def execFtActivate (o : Origin) (params : List Octet) (s : State) : Host.Outcome State Fault Refusal :=
  .next (s.direct o 0x24#8 params (octets 2 params || octets 4 params) .changing (State.ftActivate params))

/-- FT_CONFIRM (R43). -/
def State.ftConfirm (s : State) : Answer :=
  match s.fcl.trial with
  | none => refuse .notInTrial s
  | some t =>
    if s.now < t.activatedAt + sec t.soak then refuse .tooEarly s
    else done { s with fcl := { s.fcl with candidate := [], mark := .open, trial := none } }

def execFtConfirm (o : Origin) (params : List Octet) (s : State) : Host.Outcome State Fault Refusal :=
  .next (s.direct o 0x25#8 params (noParams params) .changing State.ftConfirm)

/-- FT_REVERT (R44). -/
def State.ftRevert (s : State) : Answer := if s.fcl.trial.isSome then done s.revertTrial else refuse .notInTrial s

def execFtRevert (o : Origin) (params : List Octet) (s : State) : Host.Outcome State Fault Refusal :=
  .next (s.direct o 0x26#8 params (noParams params) .changing State.ftRevert)

end Sys2Proof.Machine
end

