-- ==== Sys2Proof/Machine/PairTests.lean ====
section
/-! DEFINITION. The commands of the Pair Test Controller (06): the answers and reports that reach it, each in its turn (R102), and the TEST
directives. -/

namespace Sys2Proof.Machine

/-! ## Reports and answers -/

/-- A report of the LPC (R102): the controller's view follows, the demand is worked out, and in IDLE a selection is made (R104). -/
def execPortReport (p : Port) (st : PortState) (held : Bool) (phase : TransferPhase) (s : State) :
    Host.Outcome State Fault Refusal :=
  s.takeReport .linePorts (.portReport p st held phase) fun s =>
    let v : PortView := { state := st, held := held, phase := phase }
    .next (State.select { s with ptc := { s.ptc with view := s.ptc.view.set p v } })

/-- The running request and its course when it has this id (R106, R113, R115). -/
def State.runningAs (id : Nat) (s : State) : Option (Request × Course) :=
  match s.ptc.running, s.ptc.course with
  | some r, some k => if r.id = id then some (r, k) else none
  | _, _ => none

/-- GRANTED (R106): with no pending outcome the relays are moved out, with one the port is released at once. -/
def execGranted (id : Nat) (s : State) : Host.Outcome State Fault Refusal :=
  s.takeReport .linePorts (.granted id) fun s =>
    match s.runningAs id with
    | some (r, k) =>
      if s.ptc.state = .claim ∧ !k.releaseSent then
        let s := { s with ptc := { s.ptc with owner := some r.port } }
        if k.pending.isNone then .next ((s.post (.transferOut r.port)).enterPtc .transferOut) else .next (s.sendRelease k r.port)
      else .next s
    | none => .next s

/-- DENIED with no pending outcome (R106): the request waits again. -/
def State.putBack (r : Request) (s : State) : State :=
  State.moveOn { s with ptc := { s.ptc with requests := setStatus r.id .waiting s.ptc.requests, course := none } }

/-- DENIED (R106). -/
def execDenied (id : Nat) (s : State) : Host.Outcome State Fault Refusal :=
  s.takeReport .linePorts (.denied id) fun s =>
    match s.runningAs id with
    | some (r, k) =>
      if s.ptc.state = .claim ∧ !k.releaseSent then
        match k.pending with
        | none => .next (s.putBack r)
        | some o => .next (s.endRunning r o k.cause)
      else .next s
    | none => .next s

/-- Whatever MEASURE_DONE is still on its way is of a request that has ended, and is dropped (R115, log 48). -/
def State.dropStaleDone (s : State) : State := { s with mail := s.mail.filter fun m => m != .measureDone }

/-- The expected signature of the running request's port is carried with the kind (R108). -/
def State.startMeasure (r : Request) (s : State) : State :=
  (s.dropStaleDone.post (.measureStart ⟨r.id, r.port⟩ r.kind (s.sub r.port).expected)).enterPtc .measure

/-- OUT_DONE (R107). -/
def execOutDone (s : State) : Host.Outcome State Fault Refusal :=
  s.takeReport .linePorts .outDone fun s =>
    match s.ptc.running, s.ptc.course with
    | some r, some k =>
      if s.ptc.state = .transferOut ∧ !k.releaseSent then
        if k.pending.isNone then .next (s.startMeasure r)
        else .next ((s.post (.transferBack r.port)).enterPtc .transferBack)
      else .next s
    | _, _ => .next s

/-- OUT_FAILED (R107): RELAY_FAULT, cause BUS_OCCUPIED, whatever it was before; the port is released. -/
def execOutFailed (s : State) : Host.Outcome State Fault Refusal :=
  s.takeReport .linePorts .outFailed fun s =>
    match s.ptc.running, s.ptc.course with
    | some r, some k =>
      if s.ptc.state = .transferOut ∧ !k.releaseSent then
        .next (s.sendRelease { k with pending := some .relayFault, cause := some .busOccupied } r.port)
      else .next s
    | _, _ => .next s

/-- BACK_DONE (R109). -/
def execBackDone (s : State) : Host.Outcome State Fault Refusal :=
  s.takeReport .linePorts .backDone fun s =>
    match s.ptc.running, s.ptc.course with
    | some r, some k =>
      if s.ptc.state = .transferBack ∧ !k.releaseSent then .next (s.sendRelease k r.port) else .next s
    | _, _ => .next s

/-- RELEASED (R109, R110): the running request ends with its pending outcome. -/
def execReleased (id : Nat) (s : State) : Host.Outcome State Fault Refusal :=
  s.takeReport .linePorts (.released id) fun s =>
    match s.runningAs id with
    | some (r, k) =>
      match k.pending with
      | some o => .next (s.endRunning r o k.cause)
      | none => .next s
    | none => .next s

/-- The wait deadline of a record (R105). -/
def State.deadline (s : State) (r : Request) : Nat := s.resetAt + sec (r.accepted + s.settings.testWaitLimit)

/-- A wait deadline is reached (R105): the WAITING record ends EXPIRED. -/
def execWaitDeadlineExpiry (id : Nat) (s : State) : Host.Outcome State Fault Refusal :=
  match s.ptc.record id with
  | some r =>
    if r.status = .waiting then .next ((s.reach (s.deadline r)).endQueued r .expired none) else .next s
  | none => .next s

/-- The port in TEST was disabled (R113). -/
def execPortDisabledReport (id : Nat) (s : State) : Host.Outcome State Fault Refusal :=
  s.takeReport .linePorts (.portDisabledReport id) fun s =>
    if (s.runningAs id).isSome then .next (s.earlyEnding .aborted (some .portDisabled)) else .next s

/-- The port of the running request was held (R115): the request ends at once. -/
def execPortHeldReport (id : Nat) (reason : HeldReason) (s : State) : Host.Outcome State Fault Refusal :=
  s.takeReport .linePorts (.portHeldReport id reason) fun s =>
    match s.runningAs id with
    | some (r, _) =>
      let s := if s.ptc.state = .measure then s.post .measureStop else s
      match reason with
      | .hazard => .next (s.endRunning r .hazard none)
      | .relayMismatch => .next (s.endRunning r .relayFault (some .mismatch))
    | none => .next s

/-- A test relay sensed closed while commanded open blocks the bus (R116). -/
def State.block (p : Port) (s : State) : State :=
  let s := { s with ptc := { s.ptc with blocked := true, blocking := s.ptc.blocking.set p true } }
  (s.raiseFault .testbus .relayMismatch).workDemand

/-- A mismatch report (R116). One on the running pair leaves the request to the report that holds its port (log 43). -/
def execMismatchReport (p : Port) (testSensedClosed : Bool) (s : State) : Host.Outcome State Fault Refusal :=
  s.takeReport .linePorts (.mismatchReport p testSensedClosed) fun s =>
    if testSensedClosed then
      let s := s.block p
      match s.ptc.running with
      | some r => if r.port = p then .next s else .next (s.earlyEnding .relayFault (some .busBlocked))
      | none => .next s
    else .next s

/-- The Power Budget Unit sheds the test bus (R103, R114). -/
def execBusShed (s : State) : Host.Outcome State Fault Refusal :=
  let s := s.taken .busShed
  .next (State.earlyEnding .powerShed none { s with ptc := { s.ptc with shedMark := true } })

/-- The Power Budget Unit admits the test bus (R103, R114). -/
def execBusAdmit (s : State) : Host.Outcome State Fault Refusal :=
  let s := s.taken .busAdmit
  .next (State.select { s with ptc := { s.ptc with shedMark := false } })

/-- A measurement item (R108): appended while its request runs, until the list holds 11. An item of a request that has ended has no effect
(R115, log 48). -/
def execMeasurementItem (item : SentItem) (s : State) : Host.Outcome State Fault Refusal :=
  s.takeReport .measurement (.measurementItem item) fun s =>
    match s.runningAs item.request with
    | some (_, k) =>
      if k.items.length < Config.maxItems then .next (s.setCourse { k with items := k.items ++ [item.item] }) else .next s
    | none => .next s

/-- PASS when every item's verdict is OK, else FAIL (R108). -/
def judge (items : List Item) : TestOutcome := if items.all fun i => i.verdict == .ok then .pass else .fail

/-- MEASURE_DONE (R108), of the running request: one of a request that has ended is dropped before the next one measures (R115, log 48). -/
def execMeasureDone (s : State) : Host.Outcome State Fault Refusal :=
  s.takeReport .measurement .measureDone fun s =>
    match s.ptc.running, s.ptc.course with
    | some r, some k =>
      if s.ptc.state = .measure ∧ k.pending.isNone then
        .next (((s.setCourse { k with pending := some (judge k.items) }).post (.transferBack r.port)).enterPtc .transferBack)
      else .next s
    | _, _ => .next s

/-! ## Directives -/

/-- The request a TEST_REQUEST asks for, when its parameters are good (R100). -/
structure RequestForm where
  port : Port
  kind : TestKind
  mode : TestMode
  urgency : Urgency
deriving DecidableEq, Repr

def requestForm : List Octet → Option RequestForm
  | [p, k, m, u] =>
    match portOf p.toNat, testKindOf k.toNat, testModeOf m.toNat, urgencyOf u.toNat with
    | some port, some kind, some mode, some urgency => some { port := port, kind := kind, mode := mode, urgency := urgency }
    | _, _, _, _ => none
  | _ => none

/-- The place of an id in the list, counted from 1. -/
def placeOf (id : Nat) (rs : List Request) : Nat := (rs.takeWhile fun r => r.id != id).length + 1

/-- A request is accepted (R100): its id, its place, the next id, and in IDLE a selection. -/
def State.acceptRequest (o : Origin) (f : RequestForm) (s : State) : Answer :=
  let id := freshId (s.ptc.requests.map (·.id)) Config.maxRequests s.ptc.nextId
  let r : Request :=
    { id := id, port := f.port, kind := f.kind, mode := f.mode, origin := o, urgency := f.urgency, accepted := s.sinceReset,
      status := .waiting }
  let rs := insertRequest r s.ptc.requests
  let s := { s with ptc := { s.ptc with requests := rs, nextId := idAfter id } }
  doneWith (num4 id ++ num4 (placeOf id rs)) s.select

/-- TEST_REQUEST (R100): BAD_PARAM, NOT_PERMITTED, QUEUE_FULL, DUPLICATE, or the acceptance. -/
def State.testRequest (o : Origin) (params : List Octet) (s : State) : Answer :=
  match requestForm params with
  | none => refuse .badParam s
  | some f =>
    if !(s.sub f.port).policy.permits f.mode then refuse .notPermitted s
    else if Config.maxRequests ≤ s.ptc.requests.length then refuse .queueFull s
    else if s.ptc.requests.any fun r => r.port == f.port && r.kind == f.kind then refuse .duplicate s
    else s.acceptRequest o f

def execTestRequest (o : Origin) (params : List Octet) (s : State) : Host.Outcome State Fault Refusal :=
  .next (s.direct o 0x40#8 params (octets 4 params) .free (State.testRequest o params))

/-- The pending outcome of a course as an octet, 0xFF when absent. -/
def pendingOctet (k : Option Course) : List Octet := opt1 ((k.bind (·.pending)).map (·.pendingCode))

/-- TEST_ABORT on a record of the list (R112): what it was found as, and for the running request alone the controller state and the pending
outcome after the directive, which a WAITING record leaves out: DESIGN CHOICE (log 25). -/
def State.abort (r : Request) (s : State) : Answer :=
  match r.status with
  | .waiting => doneWith (num1 r.status.code) (s.endQueued r .aborted (some .directive))
  | .running =>
    let s := s.earlyEnding .aborted (some .directive)
    doneWith (num1 r.status.code ++ num1 s.ptc.state.code ++ pendingOctet s.ptc.course) s

/-- TEST_ABORT (R112). -/
def State.testAbort (params : List Octet) (s : State) : Answer :=
  if namedId params = 0 then refuse .badParam s
  else
    match s.ptc.record (namedId params) with
    | none => refuse .wrongState s
    | some r => s.abort r

def execTestAbort (o : Origin) (params : List Octet) (s : State) : Host.Outcome State Fault Refusal :=
  .next (s.direct o 0x41#8 params (octets 2 params) .free (State.testAbort params))

/-- TEST_SUSPEND by the controller state (R118). -/
def State.testSuspend (s : State) : State :=
  match s.ptc.state with
  | .idle => (s.enterPtc .suspended).workDemand
  | .suspended => s
  | .claim | .transferOut | .measure | .transferBack => State.workDemand { s with ptc := { s.ptc with suspendPending := true } }

def execTestSuspend (o : Origin) (params : List Octet) (s : State) : Host.Outcome State Fault Refusal :=
  .next (s.direct o 0x44#8 params (noParams params) .changing fun s => done s.testSuspend)

/-- TEST_RESUME by the controller state (R118). -/
def State.testResume (s : State) : State :=
  match s.ptc.state with
  | .suspended => (s.enterPtc .idle).select
  | .idle | .claim | .transferOut | .measure | .transferBack =>
    State.workDemand { s with ptc := { s.ptc with suspendPending := false } }

def execTestResume (o : Origin) (params : List Octet) (s : State) : Host.Outcome State Fault Refusal :=
  .next (s.direct o 0x45#8 params (noParams params) .changing fun s => done s.testResume)

/-- TESTBUS_CLEAR (R117). -/
def State.testbusClear (s : State) : Answer :=
  if !s.ptc.blocked then refuse .wrongState s
  else if allPorts.any fun p => (s.port p).testClosedSense then refuse .stillPresent s
  else
    let s := { s with ptc := { s.ptc with blocked := false, blocking := Row.all false } }
    done (s.clearFault .testbus .relayMismatch).select

def execTestbusClear (o : Origin) (params : List Octet) (s : State) : Host.Outcome State Fault Refusal :=
  .next (s.direct o 0x46#8 params (noParams params) .changing State.testbusClear)

/-- The remaining wait time of a record in seconds, rounded up (R120). -/
def State.waitLeft (s : State) (r : Request) : Nat := s.leftSeconds (s.deadline r)

/-- What TEST_RESULT returns for an id (R120): LOGGED, RUNNING, WAITING or UNKNOWN with what goes with it.
The values of the other statuses are left out: DESIGN CHOICE (log 25). -/
def State.resultOctets (id : Nat) (s : State) : List Octet :=
  match s.ptc.log.find? fun x => x.request.id == id with
  | some x => num1 0 ++ x.octets
  | none =>
    match s.ptc.record id with
    | some r =>
      match r.status with
      | .running =>
        let items := match s.ptc.course with | some k => k.items | none => []
        num1 1 ++ num1 s.ptc.state.code ++ pendingOctet s.ptc.course ++
          opt1 ((s.ptc.course.bind (·.cause)).map (·.code)) ++ items.flatMap itemOctets
      | .waiting => num1 2 ++ num4 (placeOf id s.ptc.requests) ++ num4 (s.waitLeft r)
    | none => num1 3

/-- TEST_RESULT (R120). -/
def State.testResult (params : List Octet) (s : State) : Answer :=
  if namedId params = 0 then refuse .badParam s else doneWith (s.resultOctets (namedId params)) s

def execTestResult (o : Origin) (params : List Octet) (s : State) : Host.Outcome State Fault Refusal :=
  .next (s.direct o 0x43#8 params (octets 2 params) .read (State.testResult params))

/-- A record of the request list in TEST_LIST: its fields in the order of R99 and its remaining wait time, absent for a RUNNING record (R120, R192). -/
def State.requestOctets (s : State) (r : Request) : List Octet :=
  num4 r.id ++ num1 r.port.val ++ num1 r.kind.code ++ num1 r.mode.code ++ num1 r.origin.code ++ num1 r.urgency.code ++
    num4 r.accepted ++ num1 r.status.code ++ opt4 (match r.status with | .waiting => some (s.waitLeft r) | .running => none)

/-- Sixteen pairs as a set: two octets, the lower pairs first (log 25). -/
def portSet (b : Row 16 Bool) : List Octet :=
  setOctet ((allPorts.take 8).map b.get) ++ setOctet ((allPorts.drop 8).map b.get)

/-- What TEST_LIST returns, in the order of R120; without a running request its pending outcome, cause and number of items are absent (R192). -/
def State.listOctets (s : State) : List Octet :=
  let t := s.ptc
  num1 t.state.code ++ yesNo t.suspendPending ++ opt1 (t.owner.map (·.val)) ++ yesNo t.blocked ++ portSet t.blocking ++
    yesNo t.shedMark ++ yesNo t.demand ++ num4 t.nextId ++ t.requests.flatMap s.requestOctets ++
    pendingOctet t.course ++ opt1 ((t.course.bind (·.cause)).map (·.code)) ++ opt4 (t.course.map (·.items.length)) ++
    t.log.flatMap fun x => num4 x.request.id

/-- TEST_LIST (R120). -/
def execTestList (o : Origin) (params : List Octet) (s : State) : Host.Outcome State Fault Refusal :=
  .next (s.direct o 0x42#8 params (noParams params) .read fun s => doneWith s.listOctets s)

end Sys2Proof.Machine
end

