-- ==== Sys2Proof/Machine/Measuring.lean ====
section
/-! DEFINITION. The commands of the Measurement Unit (07). -/

namespace Sys2Proof.Machine

/-- MEASURE_START by the run state (R125): taken, kept until the discharge ends (log 29), or without effect. -/
def execMeasureStart (test : TestPair) (kind : TestKind) (expected : Option Nat) (s : State) : Host.Outcome State Fault Refusal :=
  let s := s.taken (.measureStart test kind expected)
  let k : KeptStart := { id := test.request, pair := test.pair, kind := kind, expected := expected }
  match s.msu.run with
  | .idle => .next (s.startRun k)
  | .discharging _ => .next { s with msu := { s.msu with kept := some k } }
  | .running _ => .next s

/-- MEASURE_STOP by the run state and phase (R127). -/
def execMeasureStop (s : State) : Host.Outcome State Fault Refusal :=
  let s := s.taken .measureStop
  match s.msu.run with
  | .running r => if r.phase = .gap then .next (s.setRun { r with stopped := true }) else .next s.discharge
  | .idle | .discharging _ => .next s

/-- The acquisition time of the step is over (R124, R133): its conversions begin. -/
def execAcquisitionEnd (s : State) : Host.Outcome State Fault Refusal :=
  match s.msu.run with
  | .running r =>
    match r.phase, r.current with
    | .acquire, some (_, path) => .next ((s.reach r.due).startSamples .convert path r)
    | .settle, some (_, path) => .next ((s.reach r.due).startSamples .guard path r)
    | _, _ => .next s
  | .idle | .discharging _ => .next s

/-- A converter code is returned in CONVERT, GUARD or BASE (R123, R124). -/
def execConversionSample (code : BitVec 12) (limit : Bool) (s : State) : Host.Outcome State Fault Refusal :=
  match s.msu.run with
  | .running r =>
    match r.phase with
    | .convert | .guard | .base => .next (s.takeSample code limit r)
    | .acquire | .gap | .settle | .listen => .next s
  | .idle | .discharging _ => .next s

/-- A converter code is returned in LISTEN (R133, R136). -/
def execListenSample (code : BitVec 12) (limit : Bool) (s : State) : Host.Outcome State Fault Refusal :=
  match s.msu.run with
  | .running r => if r.phase = .listen then .next (s.takeListen code limit r) else .next s
  | .idle | .discharging _ => .next s

/-- When the listen window runs out: the moment its last sample falls due (R133). -/
def RunRecord.windowEnd (r : RunRecord) : Nat := r.due + 50 * (20 * r.config.listenWindow - (r.acc.taken + 1))

/-- The listen window runs out (R138). -/
def execListenWindowEnd (s : State) : Host.Outcome State Fault Refusal :=
  match s.msu.run with
  | .running r =>
    if r.phase = .listen then
      let s := if r.count ≤ r.acc.taken then s else s.reach r.windowEnd
      .next (s.completeSig true { r with decoder := r.decoder.windowEnd })
    else .next s
  | .idle | .discharging _ => .next s

/-- The discharge gap of a step ends (R124, R125, R127): the next step, MEASURE_DONE, or IDLE after a stop. -/
def execDischargeGapEnd (s : State) : Host.Outcome State Fault Refusal :=
  match s.msu.run with
  | .running r =>
    if r.phase = .gap then
      let s := s.reach r.due
      if r.stopped then .next { s with msu := { s.msu with run := .idle } } else .next (s.startStep (r.step + 1) r)
    else .next s
  | .idle | .discharging _ => .next s

/-- The discharge after a hazard or a stop ends (R125, R126): IDLE, and a kept MEASURE_START is taken. -/
def execDischargeEnd (s : State) : Host.Outcome State Fault Refusal :=
  match s.msu.run with
  | .discharging t =>
    let s := s.reach t
    let kept := s.msu.kept
    let s := { s with msu := { s.msu with run := .idle, kept := none } }
    match kept with
    | some k => .next (s.startRun k)
    | none => .next s
  | .idle | .running _ => .next s

/-- MEAS_CONFIG (R143): BAD_PARAM, NOT_SUSPENDED, or every named field takes its value. -/
def State.measConfig (params : List Octet) (s : State) : Answer :=
  match writeFields MeasConfig.write (fieldItems params) s.msu.config with
  | none => refuse .badParam s
  | some c =>
    if !c.consistent then refuse .badParam s
    else if s.ptc.state ≠ .suspended then refuse .notSuspended s
    else done { s with msu := { s.msu with config := c } }

def execMeasConfig (o : Origin) (params : List Octet) (s : State) : Host.Outcome State Fault Refusal :=
  .next (s.direct o 0x50#8 params (isItems params) .changing (State.measConfig params))

/-- The configuration in the order of R143. -/
def MeasConfig.octets (c : MeasConfig) : List Octet :=
  num4 c.hazardCode ++ num4 c.fvAcquisition ++ num4 c.dcLimit ++ num4 c.acLimit ++ num4 c.insCode ++ num1 c.insPolarity.code ++
    num4 c.insCharge ++ num4 c.insMinimum ++ num4 c.sigBias ++ num4 c.sigSettle ++ num4 c.baseWindow ++ num4 c.baseMinimum ++
    num4 c.baseMaximum ++ num4 c.listenWindow ++ num1 c.thresholdMode.code ++ num4 c.delta1 ++ num4 c.delta2 ++ num4 c.first ++
    num4 c.offset ++ num4 c.deglitch

/-- The run's part of MEAS_READ (R144): pair, kind, expected signature, step index, path, source setting, phase; during LISTEN also the
decoder, outside it nothing more. The step's index counts from 0, the pair and the level take one octet, and a source that is off is an absent code of
four octets and an absent polarity, with no octet of its own for off or on: DESIGN CHOICE (log 25). -/
def RunRecord.octets (r : RunRecord) : List Octet :=
  let source := (r.current.map (·.1)).bind r.config.sourceOf
  num1 r.pair.val ++ num1 r.kind.code ++ opt4 r.expected ++ num4 r.step ++ opt1 (r.current.map (·.2.code)) ++
    opt4 (source.map (·.code)) ++ opt1 (source.map (·.polarity.code)) ++ num1 r.phase.code ++
    (if r.phase = .listen then
       int4 r.ib0 ++ int4 r.thresholds.rise1 ++ int4 r.thresholds.rise2 ++ int4 r.thresholds.fall1 ++ int4 r.thresholds.fall2 ++
         num1 r.decoder.level.code ++ num1 r.decoder.stage.code ++ num4 r.decoder.bits.length ++ num4 (bitsValue r.decoder.bits) ++
         yesNo r.decoder.alarm
     else [])

/-- What MEAS_READ returns, in the order of R144. Outside RUNNING the run's part is left out: DESIGN CHOICE (log 25). -/
def State.measOctets (s : State) : List Octet :=
  let state : Nat := match s.msu.run with | .idle => 0 | .running _ => 1 | .discharging _ => 2
  s.msu.config.octets ++ num1 state ++ yesNo s.msu.kept.isSome ++
    (match s.msu.run with | .running r => r.octets | .idle | .discharging _ => [])

/-- MEAS_READ (R144). -/
def execMeasRead (o : Origin) (params : List Octet) (s : State) : Host.Outcome State Fault Refusal :=
  .next (s.direct o 0x51#8 params (noParams params) .read fun s => doneWith s.measOctets s)

end Sys2Proof.Machine
end

