-- ==== Sys2Proof/Machine/LineWatch.lean ====
section
/-! DEFINITION. The commands of the Line Watch Unit (08): the sweep and WATCH_READ. -/

namespace Sys2Proof.Machine

/-- The largest magnitude of a sample, in 0.1 V (R149). -/
def largest (x : PairSample) : Nat := max x.tipGround.natAbs (max x.ringGround.natAbs x.tipRing.natAbs)

/-- Whether a sample stands at or beyond a level in volts (R149; samples are in 0.1 V, log 41). -/
def beyond (volts : Nat) (x : PairSample) : Bool := decide (volts * 10 ≤ largest x)

/-- A persistence count after a sweep (R149). -/
def sweepCount (persistence : Nat) (isBeyond : Bool) (count : Nat) : Nat :=
  if isBeyond then min persistence (count + 1) else count - 1

/-- A declared field judged by its count (R149). -/
def judged (persistence count : Nat) (before : Bool) : Bool :=
  if count = persistence then true else if count = 0 then false else before

/-- A watch record after a sweep (R149, R153): counts, declared fields, wake count, last sample. What is not sampled on the pair is
recorded as not found (log 30). -/
def WatchRecord.swept (g : Settings) (x : PairSample) (w : WatchRecord) : WatchRecord :=
  if w.fvWatched || w.wakeWatched then
    let warn := w.fvWatched && beyond g.warnLevel.volts x
    let hazard := w.fvWatched && beyond g.effectiveHazard x
    let energy := w.wakeWatched && x.wakeEnergy
    let w :=
      if w.fvWatched then
        let warnCount := sweepCount g.persistence warn w.warnCount
        let hazardCount := sweepCount g.persistence hazard w.hazardCount
        { w with
          warnCount := warnCount, hazardCount := hazardCount
          warnDeclared := judged g.persistence warnCount w.warnDeclared
          hazardDeclared := judged g.persistence hazardCount w.hazardDeclared }
      else w
    { w with
      wakeSeen := energy && !w.wakeSeen
      lastSample := some { beyondWarn := warn, beyondHazard := hazard, wakeEnergy := energy } }
  else w

/-- The FOREIGN_VOLTAGE record of a pair follows its declared level (R150, point 1). -/
def State.followLevel (p : Port) (before after : WatchLevel) (s : State) : State :=
  if before = .none ∧ after ≠ .none then s.raiseFault (.line p) .foreignVoltage
  else if before ≠ .none ∧ after = .none then s.clearFault (.line p) .foreignVoltage
  else s

/-- What a sweep hands on for one pair (R150, R153), from the record before it and after it: the fault record, the hazard hold, the wake. -/
def State.handOnSweep (p : Port) (old new : WatchRecord) (energy : Bool) (s : State) : State :=
  let s := s.followLevel p old.level new.level
  let s := if !old.hazardDeclared && new.hazardDeclared then s.hold p .hazard else s
  if old.wakeWatched && old.wakeSeen && energy then s.wake p false else s

/-- The comparison of R151 at the end of a sweep, for a pair that is fv watched. -/
def State.reportWatched (p : Port) (s : State) : State :=
  if (s.lwu.records.get p).fvWatched then s.reportLevel p else s

/-- The timer after a sweep (R148). -/
def State.restartSweep (s : State) : State :=
  if s.lwu.anyWatched then s.startSweepTimer else { s with lwu := { s.lwu with timer := none } }

/-- A sweep (R148 to R153). -/
def State.sweep (samples : Row 16 PairSample) (s : State) : State :=
  let old := s.lwu.records
  let new := old.mapEach fun p w => w.swept s.settings (samples.get p)
  let s := { s with lwu := { s.lwu with records := new } }
  let s := allPorts.foldl (fun s p => s.handOnSweep p (old.get p) (new.get p) (samples.get p).wakeEnergy) s
  let s := allPorts.foldl (fun s p => s.reportWatched p) s
  s.restartSweep

/-- The sweep timer expires (R148): with the timer stopped no sweep is made. -/
def execSweep (samples : Row 16 PairSample) (s : State) : Host.Outcome State Fault Refusal :=
  match s.lwu.timer with
  | none => .next s
  | some t => .next ((s.reach t.ends).sweep samples)

/-- A level setting in WATCH_READ and SET_READ: 16 × range + code, as R195 carries it in SET_WRITE, in a number of four octets: DESIGN CHOICE
(log 25). -/
def LevelSetting.octets (l : LevelSetting) : List Octet := num4 ((if l.highRange then 16 else 0) + l.code)

/-- A watch record as WATCH_READ returns it: every field of R145 in order, the last sample as its three values, then the declared level. -/
def WatchRecord.octets (w : WatchRecord) : List Octet :=
  yesNo w.fvWatched ++ yesNo w.wakeWatched ++ num4 w.warnCount ++ num4 w.hazardCount ++ yesNo w.warnDeclared ++
    yesNo w.hazardDeclared ++ num1 w.lastReported.code ++ num4 (if w.wakeSeen then 1 else 0) ++
    optYesNo (w.lastSample.map (·.beyondWarn)) ++ optYesNo (w.lastSample.map (·.beyondHazard)) ++
    optYesNo (w.lastSample.map (·.wakeEnergy)) ++
    num1 w.level.code

/-- What WATCH_READ returns, in the order of R154. The sweep timer is running (0) or stopped (1) by its place in R154's list, and a stopped one
carries its interval and remaining time as absent: DESIGN CHOICE (log 25). -/
def State.watchOctets (s : State) : List Octet :=
  let g := s.settings
  yesNo s.lwu.armed ++ num1 (if s.lwu.timer.isSome then 0 else 1) ++ opt4 (s.lwu.timer.map (·.interval)) ++
    opt4 (s.lwu.timer.map fun t => s.leftMs t.ends) ++ g.warnLevel.octets ++ g.hazardLevel.octets ++ num4 g.persistence ++
    num4 g.watchPoll ++ num4 g.economyPoll ++ num4 g.warnLevel.volts ++ num4 g.hazardLevel.volts ++ num4 g.effectiveHazard ++
    allPorts.flatMap fun p => (s.lwu.records.get p).octets

/-- WATCH_READ (R154). -/
def execWatchRead (o : Origin) (params : List Octet) (s : State) : Host.Outcome State Fault Refusal :=
  .next (s.direct o 0x58#8 params (noParams params) .read fun s => doneWith s.watchOctets s)

end Sys2Proof.Machine
end

