-- ==== Sys2Proof/Machine/Cabinet.lean ====
section
/-! DEFINITION. The commands of the Cabinet Supervisor and the Power Budget Unit (09). -/

namespace Sys2Proof.Machine

/-- The eight contacts in ascending order. -/
def allContacts : List Contact := List.finRange 8

/-! ## The craft port's power (R168) -/

/-- A craft frame in reception when the craft port loses power ends there and is judged by R25 (R168). What had arrived of it is a FREE VALUE
(log 47); its header, if that was still to come, is discarded when it comes (log 23). -/
def State.cutCraftFrame (s : State) : State :=
  if (s.reception .craft).isSome then
    let k := s.fcl.cuts
    ({ s with fcl := { s.fcl with staleHeader := s.fcl.headerOwed, cuts := k + 1 } } : State).endFrame .craft (Config.cutLength k)
      (Config.cutFcsGood k) (Config.cutPayload k)
  else s

/-- The craft port's power is judged again and switched (R168): powered in any stage but CONSERVE, and in CONSERVE while the door is
open or the craft hold runs. Losing power discards CQ and ends the craft frame in reception; restored power starts CQ's head (R96). -/
def State.judgeCraftPower (s : State) : State :=
  let powered := s.csu.stage != some .conserve || s.doorOpen || s.csu.craftHold.isSome
  if powered = s.csu.craftPowered then s
  else
    let s := { s with csu := { s.csu with craftPowered := powered } }
    if powered then s.craftChoice else s.discardCraft.cutCraftFrame

/-! ## Contacts (R156 to R159) -/

/-- A contact record changed. -/
def State.setContact (k : Contact) (c : ContactRecord) (s : State) : State :=
  { s with csu := { s.csu with contacts := s.csu.contacts.set k c } }

/-- CONTACT_CHANGE is raised, and the last reported level becomes the debounced one (R158, R159). -/
def State.reportContact (k : Contact) (level : Bool) (c : ContactRecord) (s : State) : State :=
  (s.setContact k { c with lastReported := some level }).raiseNotice (.contactChange k level c.lastReported)

/-- The craft hold timer starts or restarts with the full craft hold time (R158, R168). -/
def State.startCraftHold (s : State) : State :=
  { s with csu := { s.csu with craftHold := some (s.now + sec (60 * s.settings.craftHoldTime)) } }

/-- An accepted change on a contact (R158): the notice, the craft hold, the door. -/
def State.acceptContact (k : Contact) (level : Bool) (c : ContactRecord) (s : State) : State :=
  let c := { c with debounced := some level }
  let s := if c.noticeEnable then s.reportContact k level c else s.setContact k c
  let s := if c.craftWake then s.startCraftHold else s
  s.judgeCraftPower

/-- A sample of one contact (R157). -/
def State.sampleContact (k : Contact) (conducts : Bool) (s : State) : State :=
  let c := s.csu.contacts.get k
  let level := conducts != c.inverted
  let sampled := { c with lastSample := some level }
  match c.debounced with
  | none =>
    if c.lastSample = some level then
      (s.setContact k { sampled with debounced := some level, lastReported := some level }).judgeCraftPower
    else s.setContact k sampled
  | some d => if d ≠ level ∧ c.lastSample = some level then s.acceptContact k level sampled else s.setContact k sampled

/-- The contact poll timer expires (R157): the contacts are sampled together. Their effects come in turn, K0 first, with the craft port's power
judged after each: DESIGN CHOICE (log 52). -/
def execContactPoll (conducts : BitVec 8) (s : State) : Host.Outcome State Fault Refusal :=
  let s := s.reach s.csu.contactDue
  let s := allContacts.foldl (fun s k => s.sampleContact k (conducts.getLsbD k.val)) s
  .next { s with csu := { s.csu with contactDue := s.now + ms (pollInterval s.settings.contactPoll) } }

/-- CONTACT_CONFIG on one contact (R159): a notice enable that becomes yes reports what happened while notices were off. -/
def State.configContact (k : Contact) (new : ContactRecord) (s : State) : State :=
  let old := s.csu.contacts.get k
  match new.debounced with
  | some level =>
    if !old.noticeEnable && new.noticeEnable && new.lastReported != some level then s.reportContact k level new
    else s.setContact k new
  | none => s.setContact k new

/-- CONTACT_CONFIG (R159). -/
def State.contactConfig (params : List Octet) (s : State) : Answer :=
  match params with
  | [] => refuse .badParam s
  | n :: rest =>
    match contactOf n.toNat with
    | none => refuse .badParam s
    | some k =>
      match writeFields ContactRecord.write (fieldItems rest) (s.csu.contacts.get k) with
      | none => refuse .badParam s
      | some c => done (s.configContact k c)

def execContactConfig (o : Origin) (params : List Octet) (s : State) : Host.Outcome State Fault Refusal :=
  .next (s.direct o 0x60#8 params (isItems (params.drop 1)) .changing (State.contactConfig params))

/-- A contact record in the order of R156. -/
def ContactRecord.octets (c : ContactRecord) : List Octet :=
  yesNo c.wettingOn ++ num1 (if c.inverted then 1 else 0) ++ yesNo c.noticeEnable ++ yesNo c.craftWake ++
    opt1 (c.lastSample.map contactCode) ++ opt1 (c.debounced.map contactCode) ++ opt1 (c.lastReported.map contactCode)

/-- The door contact as it is carried (R192). -/
def doorOctet (d : Option Contact) : List Octet := opt1 (d.map (·.val))

/-- What CONTACT_READ returns, in the order of R159. -/
def State.contactOctets (s : State) : List Octet :=
  (allContacts.flatMap fun k => (s.csu.contacts.get k).octets) ++ doorOctet s.settings.doorContact ++ yesNo s.doorOpen ++
    num4 s.settings.contactPoll

/-- CONTACT_READ (R159). -/
def execContactRead (o : Origin) (params : List Octet) (s : State) : Host.Outcome State Fault Refusal :=
  .next (s.direct o 0x61#8 params (noParams params) .read fun s => doneWith s.contactOctets s)

/-! ## Temperature (R160 to R164) -/

/-- A condition judged by a reading with its threshold (R161). -/
def thermalCondition (mode : ThermalMode) (threshold t : Int) (before : Bool) : Bool :=
  match mode with
  | .off => false
  | .shutdown | .warn => if threshold ≤ t then true else if t ≤ threshold - 5 then false else before

/-- The warn condition and its record (R161). -/
def State.judgeWarn (t : Int) (s : State) : State :=
  let c := thermalCondition s.settings.thermalMode s.settings.warnThreshold t s.csu.warnCondition
  if c = s.csu.warnCondition then s
  else
    let s := { s with csu := { s.csu with warnCondition := c } }
    if c then s.raiseFault .cabinet .thermalWarn else s.clearFault .cabinet .thermalWarn

/-- The shutdown condition and its record (R161). -/
def State.judgeShutdown (t : Int) (s : State) : State :=
  let c := thermalCondition s.settings.thermalMode s.settings.shutdownThreshold t s.csu.shutdownCondition
  if c = s.csu.shutdownCondition then s
  else
    let s := { s with csu := { s.csu with shutdownCondition := c } }
    if c then s.raiseFault .cabinet .thermalShutdown
    else if s.csu.thermalLatch then s
    else s.clearFault .cabinet .thermalShutdown

/-- The thermal latch (R162): set, it adds THERMAL to every port that takes it. -/
def State.judgeLatch (s : State) : State :=
  if s.settings.thermalMode = .shutdown ∧ s.csu.shutdownCondition ∧ !s.csu.thermalLatch then
    allPorts.foldl (fun s p => s.addDoze p .thermal) { s with csu := { s.csu with thermalLatch := true } }
  else s

/-- The heater demand (R164); a change is reported to the Power Budget Unit. -/
def State.judgeHeater (t : Int) (s : State) : State :=
  let d :=
    if s.csu.heaterDemand then !decide (s.settings.heaterOff < t) else decide (t < s.settings.heaterOn)
  if d = s.csu.heaterDemand then s
  else ({ s with csu := { s.csu with heaterDemand := d } } : State).post .evaluation

/-- A temperature reading, clamped (R160). -/
def clampTemperature (raw : Int) : Int := max (-40) (min 125 raw)

/-- The temperature timer expires (R160). -/
def execTemperatureReading (raw : Int) (s : State) : Host.Outcome State Fault Refusal :=
  let t := clampTemperature raw
  let s := s.reach s.csu.temperatureDue
  let s := { s with csu := { s.csu with temperature := some t, temperatureDue := s.now + sec 1 } }
  .next ((((s.judgeWarn t).judgeShutdown t).judgeLatch).judgeHeater t)

/-- THERMAL_CLEAR (R163). THERMAL leaves the ports in turn, L0 first, each return to service with its own evaluation: DESIGN CHOICE
(log 53). -/
def State.thermalClear (s : State) : Answer :=
  if !s.csu.thermalLatch then refuse .wrongState s
  else if (match s.csu.temperature with | some t => decide (s.settings.shutdownThreshold - 5 < t) | none => false) then
    refuse .stillPresent s
  else
    let s := { s with csu := { s.csu with thermalLatch := false } }
    let s := allPorts.foldl (fun s p => s.removeDoze p .thermal) s
    done (if s.csu.shutdownCondition then s else s.clearFault .cabinet .thermalShutdown)

def execThermalClear (o : Origin) (params : List Octet) (s : State) : Host.Outcome State Fault Refusal :=
  .next (s.direct o 0x63#8 params (noParams params) .changing State.thermalClear)

/-! ## The supply stage (R165 to R168) -/

/-- The stage a supply sample decides (R166). -/
def decideStage (before : Option Stage) (mains : Bool) (v economy conserve : Nat) : Stage :=
  if mains then .mains
  else
    match before with
    | none | some .mains | some .normal => if economy ≤ v then .normal else if conserve ≤ v then .economy else .conserve
    | some .economy => if economy + 20 ≤ v then .normal else if conserve ≤ v then .economy else .conserve
    | some .conserve => if economy + 20 ≤ v then .normal else if conserve + 20 ≤ v then .economy else .conserve

/-- A change of supply stage (R167). -/
def State.changeStage (st : Stage) (mains : Bool) (v : Nat) (s : State) : State :=
  let before := s.csu.stage
  let s := { s with csu := { s.csu with stage := some st } }
  let s := s.raiseNotice (.stageChange before st mains v)
  let s :=
    if st = .conserve then s.raiseFault .cabinet .supplyConserve
    else if before = some .conserve then s.clearFault .cabinet .supplyConserve
    else s
  (s.post .evaluation).judgeCraftPower

/-- The supply timer expires (R165, R166). -/
def execSupplySample (mains : Bool) (battery : Nat) (s : State) : Host.Outcome State Fault Refusal :=
  let v := min 9999 battery
  let s := s.reach s.csu.supplyDue
  let s := { s with csu := { s.csu with mainsPresent := some mains, battery := some v, supplyDue := s.now + sec 1 } }
  let st := decideStage s.csu.stage mains v s.settings.economyThreshold s.settings.conserveThreshold
  if s.csu.stage = some st then .next s else .next (s.changeStage st mains v)

/-- The craft hold timer expires (R168). -/
def execCraftHoldExpiry (s : State) : Host.Outcome State Fault Refusal :=
  match s.csu.craftHold with
  | none => .next s
  | some t =>
    let s := s.reach t
    .next (State.judgeCraftPower { s with csu := { s.csu with craftHold := none } })

/-- What SUPPLY_READ returns, in the order of R169. A stage not decided, a reading not taken and a hold timer not running are absent, and the
thermal latch is 1 for set, the craft port power 1 for powered: DESIGN CHOICE (log 25). -/
def State.supplyOctets (s : State) : List Octet :=
  let c := s.csu
  let g := s.settings
  opt1 (c.stage.map (·.code)) ++ opt1 (c.mainsPresent.map fun b => if b then 1 else 0) ++ opt4 c.battery ++
    (match c.temperature with | some t => int4 t | none => num4 2147483648) ++ yesNo c.warnCondition ++
    yesNo c.shutdownCondition ++ yesNo c.thermalLatch ++ yesNo c.heaterDemand ++ yesNo s.heaterOutput ++ yesNo c.craftPowered ++
    yesNo s.doorOpen ++ opt4 (c.craftHold.map s.leftSeconds) ++ num4 g.contactPoll ++ doorOctet g.doorContact ++
    num4 g.craftHoldTime ++ num1 g.thermalMode.code ++ int4 g.warnThreshold ++ int4 g.shutdownThreshold ++ int4 g.heaterOn ++
    int4 g.heaterOff ++ num4 g.economyThreshold ++ num4 g.conserveThreshold ++ num4 g.heaterPower ++ num4 g.heaterRank ++
    num4 g.busPower ++ num4 g.busRank

/-- SUPPLY_READ (R169). -/
def execSupplyRead (o : Origin) (params : List Octet) (s : State) : Host.Outcome State Fault Refusal :=
  .next (s.direct o 0x62#8 params (noParams params) .read fun s => doneWith s.supplyOctets s)

/-! ## The Power Budget Unit (R171 to R174) -/

/-- EVALUATION (R171 to R173). -/
def execEvaluation (s : State) : Host.Outcome State Fault Refusal := .next ((s.taken .evaluation).evaluate none)

/-- A load's number as it is carried: ports 0..15, heater 16, test bus 17 (log 25). -/
def LoadId.code : LoadId → Nat
  | .port p => p.val
  | .heater => 16
  | .testBus => 17

/-- An entry of the load list as BUDGET_READ returns it (R174). Demanding (0) or reserved (1) is an octet of its own after the load's number, and 0
for the heater and the test bus, which have no such value: DESIGN CHOICE (log 25). -/
def LoadEntry.octets (e : LoadEntry) : List Octet :=
  num1 e.load.code ++ yesNo e.reserved ++ num4 e.power ++ num4 e.rank ++ num1 e.decision.code ++ num4 e.remaining

/-- The sum of the powers an evaluation admitted (R171). -/
def Evaluation.admittedPower (e : Evaluation) : Nat := ((e.entries.filter fun x => x.decision == .admitted).map (·.power)).sum

/-- What BUDGET_READ returns, in the order of R174. A last decision that is none and an undecided stage are carried as absent, and the last decisions
come ports first, then heater, then test bus: DESIGN CHOICE (log 25). The available power of an undecided stage: DESIGN CHOICE (log 54). -/
def State.budgetOctets (s : State) : List Octet :=
  let g := s.settings
  let sent (d : Option Decision) : List Octet := opt1 (d.map (·.code))
  opt1 (s.csu.stage.map (·.code)) ++ num4 g.budgetMains ++ num4 g.budgetNormal ++ num4 g.budgetEconomy ++ num4 g.budgetConserve ++
    num4 g.baseLoad ++ num4 s.available ++
    (match s.pbu.last with | some e => e.entries.flatMap LoadEntry.octets | none => []) ++
    num4 (match s.pbu.last with | some e => e.admittedPower | none => 0) ++
    (allPorts.flatMap fun p => sent (s.pbu.portSent.get p)) ++ sent s.pbu.heaterSent ++ sent s.pbu.busSent

/-- BUDGET_READ (R174). -/
def execBudgetRead (o : Origin) (params : List Octet) (s : State) : Host.Outcome State Fault Refusal :=
  .next (s.direct o 0x64#8 params (noParams params) .read fun s => doneWith s.budgetOctets s)

end Sys2Proof.Machine
end

