-- ==== Sys2Proof/Machine/AgentCommands.lean ====
section
/-! DEFINITION. The commands of the Management Agent (10): taking frames in, reports, the lock, the fault log, notices, subscriber records,
settings, counters. -/

namespace Sys2Proof.Machine

/-! ## Taking frames in (R176, R177) -/

/-- Which store is served (R176): the only one that holds a frame, or the one not served last. -/
def Agent.nextStore (a : Agent) : Option Origin :=
  match a.uplinkStore, a.craftStore with
  | some _, some _ => some (match a.servedLast with | .uplink => .craft | .craft => .uplink)
  | some _, none => some .uplink
  | none, some _ => some .craft
  | none, none => none

/-- The frame of a store. -/
def Agent.store (a : Agent) : Origin → Option AgentFrame
  | .uplink => a.uplinkStore
  | .craft => a.craftStore

/-- The store of an origin emptied and counted as served last (R176). -/
def Agent.serve (o : Origin) (a : Agent) : Agent :=
  match o with
  | .uplink => { a with uplinkStore := none, servedLast := .uplink }
  | .craft => { a with craftStore := none, servedLast := .craft }

/-- The sequence number and directives of a frame that passes the tests of R34 and the form of R177. -/
def AgentFrame.accepted (cabinet : BitVec 16) (f : AgentFrame) : Option (Nat × List Directive) :=
  match f.payload with
  | version :: _ :: c1 :: c0 :: q1 :: q0 :: count :: _ :: _ :: _ :: body =>
    let addressed := read2 c1 c0 = cabinet.toNat ∨ read2 c1 c0 = 65535
    if f.ethertype = Config.agentEthertype ∧ addressed ∧ version.toNat = 1 ∧ 1 ≤ count.toNat ∧ count.toNat ≤ 16 then
      (parseDirectives count.toNat body).map fun ds => (read2 q1 q0, ds)
    else none
  | _ => none

/-- An accepted frame is executed (R177, R178): it is counted, an uplink frame teaches the notice destination, its first directive comes
up. -/
def State.acceptFrame (f : AgentFrame) (sequence : Nat) (ds : List Directive) (s : State) : State :=
  let e : Execution := { frame := f, sequence := sequence, directives := ds, index := 0, entries := [], cut := 0 }
  let a := { s.mga with accepted := count32 s.mga.accepted, exec := .executing e }
  let a := match f.origin with | .uplink => { a with destination := some { address := f.source, vid := f.vid } } | .craft => a
  let s := { s with mga := a }
  let s := match ds with | d :: _ => s.post (directiveCommand f.origin d) | [] => s
  match f.origin with
  | .uplink => s.tryNoticeFrame
  | .craft => s

/-- A rejected frame is counted and not answered (R34, R177). -/
def State.rejectFrame (s : State) : State := State.callTakeIn { s with mga := { s.mga with rejected := bump s.mga.rejected } }

/-- A waiting frame is taken in (R176, R177). -/
def State.takeFrameIn (o : Origin) (f : AgentFrame) (s : State) : State :=
  let s := { s with mga := s.mga.serve o }
  match f.accepted s.mga.cabinet with
  | some (sequence, ds) => s.acceptFrame f sequence ds
  | none => s.rejectFrame

/-- A waiting frame is taken in while the agent is IDLE and no directed reset waits (R176, R191). -/
def execAgentFrameTakeIn (s : State) : Host.Outcome State Fault Refusal :=
  let s := s.taken .agentFrameTakeIn
  if s.mga.exec = .idle ∧ s.mga.resetWait = .none then
    match s.mga.nextStore with
    | none => .next s
    | some o =>
      match s.mga.store o with
      | none => .next s
      | some f => .next (s.takeFrameIn o f)
  else .next s

/-! ## Reports (R179, R180, R191) -/

/-- The queue of an origin's reports (R179). -/
def reportQueue : Origin → QueueId
  | .uplink => .aq
  | .craft => .cq

/-- The agent after its report is placed (R179, R180): the marks the report carries are cleared; a directed reset now waits for the report
to be sent (R191). -/
def Agent.reportPlaced (r : Report) (now : Nat) (a : Agent) : Agent :=
  { a with
    changeMark := a.changeMark && !r.carriesChange
    lostMark := a.lostMark && !r.carriesLost
    exec := .idle
    resetWait := if r.answersReset then .placed (now + sec 2) else a.resetWait }

/-- What a placement sets off at the scheduler: a choice (R87, R96), or the discard of CQ while the craft port is not alive (R96). -/
def State.placed (o : Origin) (s : State) : State :=
  match o with
  | .uplink => s.uplinkChoice
  | .craft => if s.craftAlive then s.craftChoice else s.discardCraft

/-- A report is offered for placement (R59, R180). -/
def State.offerReport (r : Report) (s : State) : State :=
  if s.hasRoom r.length then
    let s := s.placeFrame (reportQueue r.origin) r.length r.image (.report r.answersReset)
    let s := { s with mga := s.mga.reportPlaced r s.now }
    (s.placed r.origin).callTakeIn
  else { s with mga := { s.mga with exec := .reporting { r with offeredAt := some (r.offeredAt.getD s.now) } } }

/-- REPORT_PLACEMENT (R180): the built report is offered. A report that waited for its last directive to complete is built first (R178, R179,
log 55). -/
def execReportPlacement (s : State) : Host.Outcome State Fault Refusal :=
  match s.mga.exec with
  | .reporting r => .next ((s.taken .reportPlacement).offerReport r)
  | .executing e =>
    if e.directives.length ≤ e.index ∧ s.quiet then
      let s := s.taken .reportPlacement
      .next ((s.buildReport e).offerReport (s.reportOf e))
    else .next s
  | .idle => .next (s.taken .reportPlacement)

/-- A report unplaced 2 s after its first offer is abandoned (R180, R191). -/
def execReportAbandon (s : State) : Host.Outcome State Fault Refusal :=
  match s.mga.exec with
  | .reporting r =>
    match r.offeredAt with
    | some t =>
      let s := s.reach (t + sec 2)
      let s := { s with mga := { s.mga with exec := .idle, reportsLost := bump s.mga.reportsLost } }
      .next (if r.answersReset then s.endResetWait else s).callTakeIn
    | none => .next s
  | .idle | .executing _ => .next s

/-! ## The lock, the fault log, notices (R181, R184, R185) -/

/-- LOCK (R181). -/
def execLock (o : Origin) (params : List Octet) (s : State) : Host.Outcome State Fault Refusal :=
  .next (s.direct o 0x76#8 params (noParams params) .keeping fun s => done { s with mga := { s.mga with locked := true } })

/-- UNLOCK (R181). -/
def execUnlock (o : Origin) (params : List Octet) (s : State) : Host.Outcome State Fault Refusal :=
  .next (s.direct o 0x77#8 params (noParams params) .keeping fun s => done { s with mga := { s.mga with locked := false } })

/-- FAULT_READ (R184): after the read the inactive records go, unless it comes from the craft port without write permission or its entry
is cut (R197). -/
def State.faultRead (o : Origin) (s : State) : Answer :=
  let data := s.mga.faults.flatMap FaultRecord.octets ++ num4 s.mga.faultsLost
  let removed := { s with mga := { s.mga with faults := s.mga.faults.filter (·.active) } }
  if o = .craft ∧ !s.craftPermitted then doneWith data s
  else { state := removed, ifCut := s, outcome := .done, data := data }

def execFaultRead (o : Origin) (params : List Octet) (s : State) : Host.Outcome State Fault Refusal :=
  .next (s.direct o 0x75#8 params (noParams params) .read (State.faultRead o))

/-- NOTICE_TEST (R185): the data say whether an item was generated. -/
def State.noticeTest (s : State) : Answer := doneWith (yesNo (s.noticeEnabled .noticeTest)) (s.raiseNotice .noticeTest)

def execNoticeTest (o : Origin) (params : List Octet) (s : State) : Host.Outcome State Fault Refusal :=
  .next (s.direct o 0x78#8 params (noParams params) .free State.noticeTest)

/-! ## Subscriber records (R187) -/

/-- Tokens above a new depth are cut to it (R83, R93). -/
def Bucket.cut (depth : Nat) (b : Bucket) : Bucket := { b with tokens := min depth b.tokens }

/-- A changed burst cuts the tokens of its bucket (R83, R93). -/
def State.cutBuckets (p : Port) (old new : Subscriber) (s : State) : State :=
  let s :=
    if new.upBurst = old.upBurst then s
    else { s with txs := { s.txs with upBuckets := s.txs.upBuckets.modify p (Bucket.cut (depthOf new.upBurst)) } }
  if new.downBurst = old.downBurst then s
  else { s with txs := { s.txs with downBuckets := s.txs.downBuckets.modify p (Bucket.cut (depthOf new.downBurst)) } }

/-- A changed idle doze time of a port in UP restarts or stops its idle timer (R17). -/
def State.newIdleDoze (p : Port) (old new : Subscriber) (s : State) : State :=
  if new.idleDoze = old.idleDoze ∨ (s.port p).state ≠ .up then s
  else s.modifyPort p fun r => { r with idleTimer := if new.idleDoze = 0 then none else some (s.now + sec new.idleDoze) }

/-- What an accepted SUB_WRITE brings in the owning blocks (R187). -/
def State.subWritten (p : Port) (numbers : List Nat) (old new : Subscriber) (s : State) : State :=
  let s := { s with mga := { s.mga with subscribers := s.mga.subscribers.set p new } }
  let s := ((s.cutBuckets p old new).newIdleDoze p old new).trigger
  let s := if numbers.contains 9 || numbers.contains 10 then s.post .evaluation else s
  let s := if numbers.contains 12 || numbers.contains 13 then s.rewatch p else s
  s.select

/-- SUB_WRITE (R187). -/
def State.subWrite (params : List Octet) (s : State) : Answer :=
  match params with
  | [] => refuse .badParam s
  | n :: rest =>
    match portOf n.toNat with
    | none => refuse .badParam s
    | some p =>
      match writeFields Subscriber.write (fieldItems rest) (s.sub p) with
      | none => refuse .badParam s
      | some u => done (s.subWritten p ((fieldItems rest).map (·.1)) (s.sub p) u)

def execSubWrite (o : Origin) (params : List Octet) (s : State) : Host.Outcome State Fault Refusal :=
  .next (s.direct o 0x70#8 params (isItems (params.drop 1)) .changing (State.subWrite params))

/-- SUB_READ (R187, R194). -/
def execSubRead (o : Origin) (params : List Octet) (s : State) : Host.Outcome State Fault Refusal :=
  .next (s.direct o 0x71#8 params (octets 1 params) .read
    (onPort params fun p s => doneWith ((s.sub p).octets p) s))

/-! ## Settings (R188) -/

/-- Whether any number of a list lies in a range. -/
def anyIn (low high : Nat) (numbers : List Nat) : Bool := numbers.any fun n => decide (low ≤ n ∧ n ≤ high)

/-- A lowered test wait limit expires at once every WAITING record whose deadline has passed (R105). -/
def State.expireOverdue (s : State) : State :=
  (s.ptc.requests.filter fun r => r.status == .waiting && decide (s.deadline r ≤ s.now)).foldl
    (fun s r => s.endQueued r .expired none) s

/-- Counts above a new persistence are cut to it (R147). -/
def State.cutCounts (s : State) : State :=
  let p := s.settings.persistence
  { s with
    lwu := { s.lwu with
      records := s.lwu.records.mapEach fun _ w => { w with warnCount := min p w.warnCount, hazardCount := min p w.hazardCount } } }

/-- What an accepted SET_WRITE brings at once (R65, R105, R147, R168, R169). -/
def State.settingsWritten (numbers : List Nat) (g : Settings) (s : State) : State :=
  let old := s.settings
  let s := { s with settings := g }
  let s := if anyIn 97 101 numbers then s.trigger else s
  let s := if g.testWaitLimit < old.testWaitLimit then s.expireOverdue else s
  let s := if numbers.contains 163 then s.cutCounts else s
  let s := if numbers.contains 194 then s.judgeCraftPower else s
  if anyIn 203 211 numbers then s.post .evaluation else s

/-- SET_WRITE (R188). -/
def State.setWrite (params : List Octet) (s : State) : Answer :=
  match writeFields Settings.write (fieldItems params) s.settings with
  | none => refuse .badParam s
  | some g => if g.ordered then done (s.settingsWritten ((fieldItems params).map (·.1)) g) else refuse .badParam s

def execSetWrite (o : Origin) (params : List Octet) (s : State) : Host.Outcome State Fault Refusal :=
  .next (s.direct o 0x72#8 params (isItems params) .changing (State.setWrite params))

/-- Every setting, in the order of R188: the Management Agent's own, the craft write policy and the nine notice enables, then the others in the
order of its table and of the rules the table names. -/
def Settings.octets (g : Settings) : List Octet :=
  num1 g.craftPolicy.code ++ g.noticeEnables.toList.flatMap yesNo ++ num4 g.transferGap ++ num4 g.relaySettle ++ num4 g.trialWindow ++
    num4 g.soakTime ++ num4 g.upstreamSize ++ num4 g.expressReserve ++ num1 g.capacitySource.code ++
    num4 g.fixedCapacity ++ num4 g.agentReserve ++ num4 g.usablePercent ++ num4 g.activityWindow ++ num4 g.testWaitLimit ++ g.warnLevel.octets ++ g.hazardLevel.octets ++ num4 g.persistence ++
    num4 g.watchPoll ++ num4 g.economyPoll ++ num4 g.contactPoll ++ doorOctet g.doorContact ++ num4 g.craftHoldTime ++
    num1 g.thermalMode.code ++ int4 g.warnThreshold ++ int4 g.shutdownThreshold ++ int4 g.heaterOn ++ int4 g.heaterOff ++
    num4 g.economyThreshold ++ num4 g.conserveThreshold ++ num4 g.budgetMains ++ num4 g.budgetNormal ++ num4 g.budgetEconomy ++
    num4 g.budgetConserve ++ num4 g.baseLoad ++ num4 g.heaterPower ++ num4 g.heaterRank ++ num4 g.busPower ++ num4 g.busRank

/-- SET_READ (R188). -/
def execSetRead (o : Origin) (params : List Octet) (s : State) : Host.Outcome State Fault Refusal :=
  .next (s.direct o 0x73#8 params (noParams params) .read fun s => doneWith s.settings.octets s)

/-! ## Counters (R24, R36, R61, R97, R189) -/

/-- The counter groups (R189). -/
inductive CounterGroup where
  | ports | classifier | buffer | scheduler | agent
deriving DecidableEq, Repr

def counterGroupOf : Nat → Option CounterGroup
  | 0 => some .ports | 1 => some .classifier | 2 => some .buffer | 3 => some .scheduler | 4 => some .agent | _ => none

/-- The drop counters of a source, in the order of R36, all of one source together: DESIGN CHOICE (log 25). -/
def LineDrops.octets (d : LineDrops) : List Octet :=
  num4 d.length ++ num4 d.fcs ++ num4 d.agentFromLine ++ num4 d.untagged ++ num4 d.noEntry ++ num4 d.actionDrop

def UplinkDrops.octets (d : UplinkDrops) : List Octet :=
  num4 d.length ++ num4 d.fcs ++ num4 d.untagged ++ num4 d.noEntry ++ num4 d.actionDrop

def CraftDrops.octets (d : CraftDrops) : List Octet :=
  num4 d.length ++ num4 d.fcs ++ num4 d.notAgent ++ num4 d.storeBusy

/-- The buffer drop counters of a port, in the order of R60, all eight of one port together: DESIGN CHOICE (log 25). -/
def BufferDrops.octets (d : BufferDrops) : List Octet :=
  num4 d.notUpUp ++ num4 d.queueFullUp ++ num4 d.poolFullUp ++ num4 d.flushedUp ++ num4 d.notUpDown ++ num4 d.queueFullDown ++
    num4 d.poolFullDown ++ num4 d.flushedDown

/-- A queue's occupancy in frames and in cells (R61). -/
def State.occupancy (s : State) (q : QueueId) : List Octet := num4 (s.queue q).length ++ num4 (cellsOf (s.queue q))

/-- The BUFFER group (R61): the drop counters port by port with the uplink's last, the queues in the order of R53's table, the areas in that of R47's:
DESIGN CHOICE (log 25). -/
def State.bufferOctets (s : State) : List Octet :=
  (allPorts.flatMap fun p => (s.cbm.drops.get p).octets) ++ num4 s.cbm.uplinkPoolFull ++ allQueues.flatMap s.occupancy ++
    ([Area.reserved, .upstream, .downstream].flatMap fun a => num4 (s.areaHeld a) ++ num4 (s.areaFree a)) ++
    num4 s.settings.upstreamSize ++ num4 s.settings.expressReserve

/-- A bucket with its depth in force (R97): tokens, remainder, depth together: DESIGN CHOICE (log 25). -/
def Bucket.octets (burst : Nat) (b : Bucket) : List Octet := num4 b.tokens ++ num4 b.remainder ++ num4 (depthOf burst)

/-- The SCHEDULER group (R97): the counters, then the buckets port by port, upstream before downstream, the express pointer before the bulk pointer, a
port's octet each, the pause, and the transmitters in the order uplink, lines, craft: DESIGN CHOICE (log 25). -/
def State.schedulerOctets (s : State) : List Octet :=
  let x := s.txs
  num4 x.uplinkFrames.toNat ++ num4 x.uplinkOctets.toNat ++ num4 x.uplinkAgentFrames.toNat ++ num4 x.craftFrames.toNat ++
    num4 x.craftDiscards ++
    (allPorts.flatMap fun p =>
      (x.upBuckets.get p).octets (s.sub p).upBurst ++ (x.downBuckets.get p).octets (s.sub p).downBurst) ++
    num1 x.expressPtr.val ++ num1 x.bulkPtr.val ++ yesNo x.paused ++ yesNo x.uplinkTx.isSome ++
    (allPorts.flatMap fun p => yesNo (x.lineTx.get p).isSome) ++ yesNo x.craftTx.isSome

/-- The AGENT group (R189). -/
def Agent.counterOctets (a : Agent) : List Octet :=
  num4 a.accepted.toNat ++ num4 a.rejected ++ num4 a.faultsLost ++ num4 a.noticesDropped ++ num4 a.reportsLost ++
    num4 a.notices.length ++ num1 a.exec.code ++ yesNo a.locked

/-- The octets of a group (log 25). -/
def State.groupOctets (s : State) : CounterGroup → List Octet
  | .ports => allPorts.flatMap fun p => (s.port p).counters.octets
  | .classifier =>
    (allPorts.flatMap fun p => (s.fcl.lineDrops.get p).octets) ++ s.fcl.uplinkDrops.octets ++ s.fcl.craftDrops.octets
  | .buffer => s.bufferOctets
  | .scheduler => s.schedulerOctets
  | .agent => s.mga.counterOctets

/-- The counters of a group set to zero, and not the state the group returns (R61, R97, R189). -/
def State.clearGroup (g : CounterGroup) (s : State) : State :=
  match g with
  | .ports => { s with ports := s.ports.mapEach fun _ r => { r with counters := .zero } }
  | .classifier =>
    { s with
      fcl := { s.fcl with
        lineDrops := Classifier.afterReset.lineDrops, uplinkDrops := Classifier.afterReset.uplinkDrops
        craftDrops := Classifier.afterReset.craftDrops } }
  | .buffer => { s with cbm := { s.cbm with drops := Row.all .zero, uplinkPoolFull := 0 } }
  | .scheduler =>
    { s with
      txs := { s.txs with
        uplinkFrames := 0#32, uplinkOctets := 0#32, uplinkAgentFrames := 0#32, craftFrames := 0#32, craftDiscards := 0 } }
  | .agent =>
    { s with
      mga := { s.mga with accepted := 0#32, rejected := 0, faultsLost := 0, noticesDropped := 0, reportsLost := 0 } }

/-- COUNTERS_READ (R189); a cut entry clears nothing (log 27). -/
def State.countersRead (params : List Octet) (s : State) : Answer :=
  match params with
  | [g, c] =>
    match counterGroupOf g.toNat with
    | none => refuse .badParam s
    | some group =>
      if 1 < c.toNat then refuse .badParam s
      else
        { state := if c.toNat = 1 then s.clearGroup group else s, ifCut := s, outcome := .done, data := s.groupOctets group }
  | _ => refuse .badParam s

/-- Whether a COUNTERS_READ asks for clear-on-read; from the craft port that needs write permission (R181). -/
def asksClear : List Octet → Bool
  | [_, c] => c.toNat == 1
  | _ => false

def execCountersRead (o : Origin) (params : List Octet) (s : State) : Host.Outcome State Fault Refusal :=
  .next (s.direct o 0x74#8 params (octets 2 params) { unlocked := false, permission := asksClear params } (State.countersRead params))

/-! ## RESET and unknown codes (R178, R191) -/

/-- RESET is DONE, and the directed reset waits from here on (R191). -/
def State.resetAsked (wait : ResetWait) (s : State) : Answer := done { s with mga := { s.mga with resetWait := wait } }

/-- RESET (R178, R191): it ends its frame, and the directed reset waits for the frame's report; alone it waits for nothing. -/
def execResetDirective (o : Origin) (params : List Octet) (s : State) : Host.Outcome State Fault Refusal :=
  match s.turn o { code := 0x79#8, params := params } with
  | .never => .next s
  | .alone =>
    let a := s.answer o (noParams params) .changing (State.resetAsked .over)
    let s := a.state.noteEntry { code := 0x79#8, outcome := a.outcome, data := a.data }
    if a.outcome = .done then .next (s.post .directedReset) else .next s
  | .inFrame e =>
    let s := s.taken (.resetDirective o params)
    let a := s.answer o (noParams params) .changing (State.resetAsked .unplaced)
    .next (State.enterAnswer 0x79#8 e a (a.outcome == .done))

/-- A directive whose code is not in the list (R178). A code of the list is not this command (log 19). -/
def execUnknownDirective (o : Origin) (code : Octet) (params : List Octet) (s : State) : Host.Outcome State Fault Refusal :=
  if knownCode code then .next s else .next (s.direct o code params true .read (refuse .unknownDirective))

end Sys2Proof.Machine
end

