-- ==== Sys2Proof/Machine/Resets.lean ====
section
/-! DEFINITION. The two resets (R190, R191 and each chapter's reset rule). -/

namespace Sys2Proof.Machine

/-- The Port Record a power-on reset leaves (R2, R9): the sense inputs are pins and keep their readings (log 5). -/
def PortRecord.powerOn (r : PortRecord) : PortRecord :=
  { PortRecord.afterReset with lineClosedSense := r.lineClosedSense, testClosedSense := r.testClosedSense }

/-- The Frame Classifier a reset leaves (R36, R37, R62): no frame is in reception, and the octets still to come of one that was are discarded, the header
of a craft frame among them. The counter of free values runs on (log 47). -/
def Classifier.restarted (c : Classifier) : Classifier :=
  { Classifier.afterReset with staleHeader := c.headerOwed, cuts := c.cuts }

/-- POWER_ON_RESET (R190): everything as after reset, the cabinet number sampled from the straps. Commands that wait and input pins are not
the part's to reset (log 37), nor are the counters of free values (log 8, log 47). -/
def State.powerOn (straps : BitVec 16) (s : State) : State :=
  { State.reset with
    pending := s.pending
    ports := s.ports.mapEach fun _ r => r.powerOn
    fcl := s.fcl.restarted
    cbm := { Buffer.afterReset with picks := s.cbm.picks }
    txs := .afterReset 0 s.txs.craftLinkUp
    mga := .afterPowerOn straps }

def execPowerOnReset (straps : BitVec 16) (s : State) : Host.Outcome State Fault Refusal := .next (s.powerOn straps)

/-- The Port Record a directed reset at time `t` leaves (R2, R9): a pair whose test relay was commanded closed first passes a GAP with both
relays open; every other one starts its SETTLE. The times are the defaults (R2). -/
def PortRecord.directed (t : Nat) (r : PortRecord) : PortRecord :=
  if r.testClosedCmd then
    { r.powerOn with lineClosedCmd := false, transfer := some { kind := .restoring, phase := .gap, ends := t + ms 10 } }
  else { r.powerOn with transfer := some { kind := .restoring, phase := .settle, ends := t + ms 15 } }

/-- The fault log a directed reset leaves (R191): every record inactive, RESTART raised with cause DIRECTED. -/
def Agent.restarted (uptime : Nat) (a : Agent) : Agent :=
  (Agent.raise .cabinet .restart (some .directed) uptime
    { Agent.afterPowerOn a.cabinet with
      faults := a.faults.map fun r => { r with active := false }
      notices := [{ notice := .restart .directed, uptime := uptime }]
      destination := a.destination }).1

/-- A directed reset is taken (R191). -/
def State.directed (s : State) : State :=
  { State.reset with
    pending := s.pending
    now := s.now
    resetAt := s.now
    ports := s.ports.mapEach fun _ r => r.directed s.now
    fcl := s.fcl.restarted
    cbm := { Buffer.afterReset with picks := s.cbm.picks }
    txs := .afterReset s.now s.txs.craftLinkUp
    csu := .afterReset s.now
    mga := s.mga.restarted s.uptime }

/-- DIRECTED_RESET (R191): it comes when its wait is over, or when the 2 s after the report's placement run out. -/
def execDirectedReset (s : State) : Host.Outcome State Fault Refusal :=
  match s.mga.resetWait with
  | .none | .unplaced => .next (s.taken .directedReset)
  | .placed limit => .next (s.reach limit).directed
  | .over => .next s.directed

end Sys2Proof.Machine
end

