-- ==== Sys2Proof/Machine/Dispatch.lean ====
section
/-! DEFINITION. One arm for each command: the meaning it calls. -/

namespace Sys2Proof.Machine

def exec (i : Instr) (s : State) : Host.Outcome State Fault Refusal :=
  match i with
  | .powerOnReset straps => Sys2Proof.Machine.execPowerOnReset straps s
  | .directedReset => Sys2Proof.Machine.execDirectedReset s
  | .trainingStarted p => Sys2Proof.Machine.execTrainingStarted p s
  | .trained p up down => Sys2Proof.Machine.execTrained p up down s
  | .rateChanged p up down => Sys2Proof.Machine.execRateChanged p up down s
  | .linkLost p => Sys2Proof.Machine.execLinkLost p s
  | .gapEnd p => Sys2Proof.Machine.execGapEnd p s
  | .settleEnd p => Sys2Proof.Machine.execSettleEnd p s
  | .relaySenseChange p relay closed => Sys2Proof.Machine.execRelaySenseChange p relay closed s
  | .idleTimerExpiry p => Sys2Proof.Machine.execIdleTimerExpiry p s
  | .take id p allowUp => Sys2Proof.Machine.execTake id p allowUp s
  | .transferOut p => Sys2Proof.Machine.execTransferOut p s
  | .transferBack p => Sys2Proof.Machine.execTransferBack p s
  | .release p => Sys2Proof.Machine.execRelease p s
  | .hazardReport p path code => Sys2Proof.Machine.execHazardReport p path code s
  | .portEnable o params => Sys2Proof.Machine.execPortEnable o params s
  | .portDisable o params => Sys2Proof.Machine.execPortDisable o params s
  | .portClear o params => Sys2Proof.Machine.execPortClear o params s
  | .portWake o params => Sys2Proof.Machine.execPortWake o params s
  | .portStatus o params => Sys2Proof.Machine.execPortStatus o params s
  | .frameStart src => Sys2Proof.Machine.execFrameStart src s
  | .cellRequest src => Sys2Proof.Machine.execCellRequest src s
  | .upstreamHeader p header => Sys2Proof.Machine.execUpstreamHeader p header s
  | .downstreamHeader header => Sys2Proof.Machine.execDownstreamHeader header s
  | .craftHeader header => Sys2Proof.Machine.execCraftHeader header s
  | .frameEnd src length fcsGood payload => Sys2Proof.Machine.execFrameEnd src length fcsGood payload s
  | .activityTimerExpiry p => Sys2Proof.Machine.execActivityTimerExpiry p s
  | .capacityReport capacity => Sys2Proof.Machine.execCapacityReport capacity s
  | .uplinkLinkStateChange up => Sys2Proof.Machine.execUplinkLinkStateChange up s
  | .computationComplete => Sys2Proof.Machine.execComputationComplete s
  | .shareRead o params => Sys2Proof.Machine.execShareRead o params s
  | .shareRecompute o params => Sys2Proof.Machine.execShareRecompute o params s
  | .upstreamRefill p => Sys2Proof.Machine.execUpstreamRefill p s
  | .downstreamRefill p => Sys2Proof.Machine.execDownstreamRefill p s
  | .pauseChange on => Sys2Proof.Machine.execPauseChange on s
  | .uplinkCompletion => Sys2Proof.Machine.execUplinkCompletion s
  | .lineCompletion p => Sys2Proof.Machine.execLineCompletion p s
  | .craftCompletion => Sys2Proof.Machine.execCraftCompletion s
  | .craftLinkChange up => Sys2Proof.Machine.execCraftLinkChange up s
  | .trialTimerExpiry => Sys2Proof.Machine.execTrialTimerExpiry s
  | .ftCandidateClear o params => Sys2Proof.Machine.execFtCandidateClear o params s
  | .ftCandidateCopy o params => Sys2Proof.Machine.execFtCandidateCopy o params s
  | .ftWrite o params => Sys2Proof.Machine.execFtWrite o params s
  | .ftRead o params => Sys2Proof.Machine.execFtRead o params s
  | .ftActivate o params => Sys2Proof.Machine.execFtActivate o params s
  | .ftConfirm o params => Sys2Proof.Machine.execFtConfirm o params s
  | .ftRevert o params => Sys2Proof.Machine.execFtRevert o params s
  | .testRequest o params => Sys2Proof.Machine.execTestRequest o params s
  | .portReport p state held phase => Sys2Proof.Machine.execPortReport p state held phase s
  | .granted id => Sys2Proof.Machine.execGranted id s
  | .denied id => Sys2Proof.Machine.execDenied id s
  | .outDone => Sys2Proof.Machine.execOutDone s
  | .outFailed => Sys2Proof.Machine.execOutFailed s
  | .backDone => Sys2Proof.Machine.execBackDone s
  | .released id => Sys2Proof.Machine.execReleased id s
  | .waitDeadlineExpiry id => Sys2Proof.Machine.execWaitDeadlineExpiry id s
  | .portDisabledReport id => Sys2Proof.Machine.execPortDisabledReport id s
  | .portHeldReport id reason => Sys2Proof.Machine.execPortHeldReport id reason s
  | .mismatchReport p testSensedClosed => Sys2Proof.Machine.execMismatchReport p testSensedClosed s
  | .busShed => Sys2Proof.Machine.execBusShed s
  | .busAdmit => Sys2Proof.Machine.execBusAdmit s
  | .measurementItem item => Sys2Proof.Machine.execMeasurementItem item s
  | .measureDone => Sys2Proof.Machine.execMeasureDone s
  | .testAbort o params => Sys2Proof.Machine.execTestAbort o params s
  | .testSuspend o params => Sys2Proof.Machine.execTestSuspend o params s
  | .testResume o params => Sys2Proof.Machine.execTestResume o params s
  | .testbusClear o params => Sys2Proof.Machine.execTestbusClear o params s
  | .testResult o params => Sys2Proof.Machine.execTestResult o params s
  | .testList o params => Sys2Proof.Machine.execTestList o params s
  | .measureStart test kind expected => Sys2Proof.Machine.execMeasureStart test kind expected s
  | .measureStop => Sys2Proof.Machine.execMeasureStop s
  | .acquisitionEnd => Sys2Proof.Machine.execAcquisitionEnd s
  | .conversionSample code limit => Sys2Proof.Machine.execConversionSample code limit s
  | .listenSample code limit => Sys2Proof.Machine.execListenSample code limit s
  | .listenWindowEnd => Sys2Proof.Machine.execListenWindowEnd s
  | .dischargeGapEnd => Sys2Proof.Machine.execDischargeGapEnd s
  | .dischargeEnd => Sys2Proof.Machine.execDischargeEnd s
  | .measConfig o params => Sys2Proof.Machine.execMeasConfig o params s
  | .measRead o params => Sys2Proof.Machine.execMeasRead o params s
  | .sweep samples => Sys2Proof.Machine.execSweep samples s
  | .watchRead o params => Sys2Proof.Machine.execWatchRead o params s
  | .contactPoll conducts => Sys2Proof.Machine.execContactPoll conducts s
  | .temperatureReading raw => Sys2Proof.Machine.execTemperatureReading raw s
  | .supplySample mainsPresent battery => Sys2Proof.Machine.execSupplySample mainsPresent battery s
  | .craftHoldExpiry => Sys2Proof.Machine.execCraftHoldExpiry s
  | .evaluation => Sys2Proof.Machine.execEvaluation s
  | .contactConfig o params => Sys2Proof.Machine.execContactConfig o params s
  | .contactRead o params => Sys2Proof.Machine.execContactRead o params s
  | .supplyRead o params => Sys2Proof.Machine.execSupplyRead o params s
  | .thermalClear o params => Sys2Proof.Machine.execThermalClear o params s
  | .budgetRead o params => Sys2Proof.Machine.execBudgetRead o params s
  | .agentFrameTakeIn => Sys2Proof.Machine.execAgentFrameTakeIn s
  | .reportPlacement => Sys2Proof.Machine.execReportPlacement s
  | .reportAbandon => Sys2Proof.Machine.execReportAbandon s
  | .lock o params => Sys2Proof.Machine.execLock o params s
  | .unlock o params => Sys2Proof.Machine.execUnlock o params s
  | .faultRead o params => Sys2Proof.Machine.execFaultRead o params s
  | .noticeTest o params => Sys2Proof.Machine.execNoticeTest o params s
  | .subWrite o params => Sys2Proof.Machine.execSubWrite o params s
  | .subRead o params => Sys2Proof.Machine.execSubRead o params s
  | .setWrite o params => Sys2Proof.Machine.execSetWrite o params s
  | .setRead o params => Sys2Proof.Machine.execSetRead o params s
  | .countersRead o params => Sys2Proof.Machine.execCountersRead o params s
  | .resetDirective o params => Sys2Proof.Machine.execResetDirective o params s
  | .unknownDirective o code params => Sys2Proof.Machine.execUnknownDirective o code params s

end Sys2Proof.Machine
end

