-- ==== Sys2Proof/Safety.lean ====
section
/-! DEFINITION. What a safe run keeps, and the terms the statements use: parts of the state, frames, the turn and the entry of a directive, and
the invariants of each block. -/

namespace Sys2Proof.Machine

/-! ## Frames -/

/-- The parts of the state. -/
inductive Part where
  | pending | mail | now | resetAt | ports | fcl | cbm | scu | txs | ptc | msu | lwu | csu | pbu | mga | settings
deriving DecidableEq, Repr

/-- A part reads the same in two states. -/
def Part.Same (s t : State) : Part → Prop
  | .pending => t.pending = s.pending
  | .mail => t.mail = s.mail
  | .now => t.now = s.now
  | .resetAt => t.resetAt = s.resetAt
  | .ports => t.ports = s.ports
  | .fcl => t.fcl = s.fcl
  | .cbm => t.cbm = s.cbm
  | .scu => t.scu = s.scu
  | .txs => t.txs = s.txs
  | .ptc => t.ptc = s.ptc
  | .msu => t.msu = s.msu
  | .lwu => t.lwu = s.lwu
  | .csu => t.csu = s.csu
  | .pbu => t.pbu = s.pbu
  | .mga => t.mga = s.mga
  | .settings => t.settings = s.settings

/-- Every part but those listed is as it was. -/
def OnlyIn (changed : List Part) (s t : State) : Prop := ∀ part, part ∉ changed → part.Same s t

/-- Every port but `p` has the record it had. -/
def OtherPorts (p : Port) (s t : State) : Prop := ∀ q, q ≠ p → t.port q = s.port q

/-- The state without what raising notices may change (R185, R186): the notice queue with its marks and counter, and the notice frame that
may be built, placed in AQ and started. -/
def State.besideNotices (s : State) : State :=
  { s with
    mga := { s.mga with notices := [], changeMark := false, lostMark := false, noticesDropped := 0 }
    cbm := { s.cbm with aq := [], reservedHeld := 0, picks := 0 }
    txs := { s.txs with uplinkTx := none } }

/-- The state without what carrying out a directive changes by itself (R178): the execution, the entry last added, the messages. -/
def State.besideDirective (s : State) : State :=
  { s with mail := [], mga := { s.mga with exec := .idle, lastEntry := none } }

/-- The agent has at most gained and cleared fault records and gained notices (R183 to R186). -/
def Reported (s t : State) : Prop :=
  t.mga =
    { s.mga with
      notices := t.mga.notices, changeMark := t.mga.changeMark, lostMark := t.mga.lostMark, noticesDropped := t.mga.noticesDropped
      faults := t.mga.faults, faultsLost := t.mga.faultsLost }

/-- An event counter one up and saturating (00_scope.md, "Counters"). -/
def plusOne (n : Nat) : Nat := min 65535 (n + 1)

/-- A change of one line port's record: no other record changes, and the change reaches, besides the port itself, the messages, the share
computation, the port's queues and buckets, the watches and what is reported to the agent. -/
def LineChange (p : Port) (s t : State) : Prop :=
  OtherPorts p s t ∧ Reported s t ∧ OnlyIn [.ports, .mail, .scu, .txs, .cbm, .lwu, .mga] s t

/-- The Power Budget Unit, evaluating with port `p` counted as a demanding load, sheds it (R18, R172). -/
def State.wouldShed (p : Port) (s : State) : Bool := (s.evaluationNow (some p)).decisionFor (.port p) == some .shed

/-- The classifier changes in the frame in reception from one source alone. -/
def ReceptionOnly (src : Source) (s t : State) : Prop :=
  (∀ other, other ≠ src → t.reception other = s.reception other) ∧
    t.fcl = { s.fcl with rxLine := t.fcl.rxLine, rxUplink := t.fcl.rxUplink, rxCraft := t.fcl.rxCraft }

/-- The header of a craft frame is still to come when the frame is taken out of reception, or was awaited before (R62). -/
def State.owesCraftHeader (s : State) : Bool :=
  match s.reception .craft with
  | some r => r.header == none
  | none => s.fcl.staleHeader

/-- A report of a block is the next that the Pair Test Controller takes of it (R102): the oldest on its way, or any while none is. -/
def State.IsNext (b : Reporter) (m : Instr) (s : State) : Prop :=
  s.reportsOf b = [] ∨ ∃ rest, s.reportsOf b = m :: rest

/-- The areas other than `a` hold what they held, and no queue or drop counter of the Cell Buffer Manager changes. -/
def HeldOnly (a : Area) (s t : State) : Prop :=
  (∀ b, b ≠ a → t.areaHeld b = s.areaHeld b) ∧
    t.cbm = { s.cbm with upHeld := t.cbm.upHeld, downHeld := t.cbm.downHeld, reservedHeld := t.cbm.reservedHeld, picks := t.cbm.picks }

/-! ## Directives -/

/-- The octet that names a port (R196). -/
def portOctet (p : Port) : Octet := octet p.val

/-- A directive is carried out: its turn has come in the frame in execution, or it comes alone (R178, log 3). -/
def State.comesUp (o : Origin) (code : Octet) (params : List Octet) (s : State) : Prop :=
  s.turn o { code := code, params := params } ≠ .never

/-- The lock is clear and a craft frame has write permission (R181, R182). -/
def State.mayChange (o : Origin) (s : State) : Prop := s.mga.locked = false ∧ (o = .craft → s.craftPermitted = true)

/-- Whether result data of `n` octets still fit the report of the frame in execution (R178); alone they always fit. -/
def State.dataFits (s : State) (n : Nat) : Bool :=
  match s.mga.exec with
  | .executing e => e.fits n
  | .idle | .reporting _ => true

/-- The entry a directive has left: its code, its outcome, and its data unless they were cut (R178, R193). -/
def Answered (code : Octet) (outcome : DirectiveOutcome) (data : List Octet) (s t : State) : Prop :=
  t.mga.lastEntry = some { code := code, outcome := outcome, data := if s.dataFits data.length then data else [] }

/-- A directive is refused with outcome `why`: its entry says so, and nothing else changes (R178). -/
def Refused (c : Instr) (code : Octet) (why : DirectiveOutcome) (s : State) : Prop :=
  ∃ t, exec c s = .next t ∧ Answered code why [] s t ∧ t.besideDirective = s.besideDirective

/-! ## Line ports (01) -/

/-- The commands of the line relay and of the test relay, `true` for CLOSED, that the relay position and the transfer phase call for (R1,
R7, R8, R9). -/
def PortRecord.arrangement (r : PortRecord) : Bool × Bool :=
  match r.transfer with
  | none =>
    match r.position with
    | .normal => (true, false)
    | .testing => (false, true)
    | .isolated => (false, false)
  | some t =>
    match t.phase, t.kind with
    | .gap, _ => (false, false)
    | .settle, .outward => (false, true)
    | .settle, .back | .settle, .turnedRound | .settle, .restoring => (true, false)

/-- The relay position a transfer moves to (R8, R9). -/
def TransferKind.target : TransferKind → RelayPosition
  | .outward => .testing
  | .back | .turnedRound | .restoring => .normal

/-- The relays are commanded as the position and the transfer phase call for, and a transfer moves to the relay position (R1, R7). -/
def PortRecord.RelaysFollow (r : PortRecord) : Prop :=
  (r.lineClosedCmd, r.testClosedCmd) = r.arrangement ∧ ∀ t, r.transfer = some t → r.position = t.kind.target

/-- The fields of a Port Record stand together (R1, R5, R11, R14). -/
structure PortRecord.Sound (r : PortRecord) : Prop where
  rates : r.rates.isSome ↔ r.state = .up
  idleTimer : r.idleTimer.isSome → r.state = .up
  testRef : r.testRef.isSome ↔ r.state = .test
  returnTarget : r.returnTarget.isSome ↔ r.state = .test ∨ r.state = .held
  heldReasons : r.state = .held → r.held.any = true
  heldStates : r.held.any = true → r.state = .held ∨ r.state = .disabled
  isolated : r.position = .isolated ↔ r.held.any = true
  atRest : r.position = .isolated → r.transfer = none
  testing : r.position = .testing → r.state = .test
  heldOrder : r.heldOrder.isSome → r.state = .test ∧ r.transfer.isSome
  dozing : r.state = .doze → r.causes.isEmpty = false
  causes : r.causes.isEmpty = false → r.state = .doze ∨ (r.state = .test ∧ r.returnTarget = some .down)
  wakePending : r.wakePending = true → r.state = .doze ∨ (r.state = .test ∧ r.returnTarget = some .down)
  ordersOff : r.state = .disabled ∨ r.state = .doze ∨ r.state = .test ∨ r.state = .held → r.orderOn = false
  ordersOn : r.state = .training ∨ r.state = .up ∨ (r.state = .down ∧ r.transfer = none) → r.orderOn = true

/-- The record `r` of port `p` once the port has returned to service (R18): DOZE with SHED when the Power Budget Unit sheds it and with THERMAL when
the thermal latch is set; DOWN without either, its transceiver ordered on at once when no transfer runs (R5). -/
def State.inService (p : Port) (r : PortRecord) (s : State) : PortRecord :=
  if s.csu.thermalLatch = true ∨ s.wouldShed p = true then
    { r with
      state := .doze, causes := ⟨s.wouldShed p, s.csu.thermalLatch, false⟩, orderOn := false
      counters := { r.counters with dozes := plusOne r.counters.dozes } }
  else { r with state := .down, causes := ⟨false, false, false⟩, wakePending := false, orderOn := r.transfer.isNone }

/-- The record of port `p` in TEST once its RELEASE has been carried out with the relays at NORMAL (R20): by the return target and the doze causes. -/
def State.released (p : Port) (s : State) : PortRecord :=
  let r := s.port p
  let back : PortRecord :=
    { r with transfer := none, heldOrder := none, testRef := none, returnTarget := none, orderOn := false, rates := none, idleTimer := none }
  if r.returnTarget = some .disabled then { back with state := .disabled, causes := ⟨false, false, false⟩, wakePending := false }
  else if r.causes.isEmpty = true then s.inService p back
  else { back with state := .doze, counters := { r.counters with dozes := plusOne r.counters.dozes } }

/-- At most one port is in TEST, and at most one pair has its test relay commanded closed (R8, R19). -/
def State.OneOnBus (s : State) : Prop :=
  (∀ p q, (s.port p).state = .test → (s.port q).state = .test → p = q) ∧
    ∀ p q, (s.port p).testClosedCmd = true → (s.port q).testClosedCmd = true → p = q

/-! ## The flow table (02) -/

/-- A bank: indexes in rising order within 0..255, entries well made, no two with one key (R30, R37, R40). -/
structure Bank.Sound (b : Bank) : Prop where
  rising : b.Pairwise fun x y => x.1 < y.1
  within : ∀ x ∈ b, x.1 < 256
  made : ∀ x ∈ b, x.2.wellMade = true
  keys : b.Pairwise fun x y => x.2.sameKey y.2 = false

/-- Both banks are sound, the active table has an AGENT entry, and so has the fallback table of a trial; the candidate is marked FALLBACK
during a trial and at no other time (R37, R42). -/
structure Classifier.Sound (c : Classifier) : Prop where
  active : c.active.Sound
  candidate : c.candidate.Sound
  path : c.active.hasAgent = true
  fallback : c.trial.isSome → c.candidate.hasAgent = true
  mark : c.mark = .fallback ↔ c.trial.isSome

/-- The hit of a good frame is counted: one more at the entry it hit, wherever that stands, and no other change of a bank (R31). -/
def HitCounted (r : Reception) (s t : State) : Prop :=
  let counted (stamp : Nat) (b : Bank) : Bank :=
    b.map fun e => if e.2.stamp = stamp then (e.1, { e.2 with hits := e.2.hits + 1#32 }) else e
  (r.hit = none → t.fcl.active = s.fcl.active ∧ t.fcl.candidate = s.fcl.candidate) ∧
    ∀ stamp, r.hit = some stamp → t.fcl.active = counted stamp s.fcl.active ∧ t.fcl.candidate = counted stamp s.fcl.candidate

/-! ## Cells (03) -/

/-- How many cells a frame in transmission holds in an area. -/
def Transmission.cellsIn (a : Area) (t : Option Transmission) : Nat :=
  match t with
  | some t => if t.desc.queue.area = a then t.desc.cells.length else 0
  | none => 0

/-- How many cells frames hold in an area: in reception, in the queues, in transmission (R47, R57). -/
def State.cellsIn (s : State) : Area → Nat
  | .upstream =>
    (allPorts.map fun p => (Reception.held (s.fcl.rxLine.get p)).length + cellsOf (s.queue (.ux p)) + cellsOf (s.queue (.ub p))).sum +
      Transmission.cellsIn .upstream s.txs.uplinkTx
  | .downstream =>
    (Reception.held s.fcl.rxUplink).length +
      (allPorts.map fun p =>
        cellsOf (s.queue (.dx p)) + cellsOf (s.queue (.db p)) + Transmission.cellsIn .downstream (s.txs.lineTx.get p)).sum
  | .reserved =>
    cellsOf s.cbm.aq + cellsOf s.cbm.cq + Transmission.cellsIn .reserved s.txs.uplinkTx + Transmission.cellsIn .reserved s.txs.craftTx

/-- Descriptors stand where their queue field says; what is being sent or received goes with its link; a frame dropped during its reception
holds no cell (R26, R51, R52, R53). -/
structure State.Placed (s : State) : Prop where
  queues : ∀ q, ∀ d ∈ s.queue q, d.queue = q
  uplink : ∀ t, s.txs.uplinkTx = some t → t.desc.queue.area ≠ .downstream
  lines : ∀ p t, s.txs.lineTx.get p = some t → t.desc.queue.area = .downstream
  craft : ∀ t, s.txs.craftTx = some t → t.desc.queue.area = .reserved
  rxLine : ∀ p r q, s.fcl.rxLine.get p = some r → r.queue = some q → q = .ux p ∨ q = .ub p
  rxUplink : ∀ r q, s.fcl.rxUplink = some r → r.queue = some q → q.area = .downstream
  droppedLine : ∀ p r, s.fcl.rxLine.get p = some r → r.dropped ≠ none → r.cells = []
  droppedUplink : ∀ r, s.fcl.rxUplink = some r → r.dropped ≠ none → r.cells = []

/-- Every held cell is held by a frame, every cell a frame holds is counted, and the areas hold no more than the pool has (R47). -/
structure State.CellsBalance (s : State) : Prop where
  placed : s.Placed
  counted : ∀ a, s.areaHeld a = s.cellsIn a
  general : s.cbm.upHeld + s.cbm.downHeld ≤ 4032
  reserved : s.cbm.reservedHeld ≤ 64

/-! ## Shares and shaping (04, 05) -/

/-- A port that is not in UP has empty queues, no activity, no grant, empty buckets, and no claim on a computation in flight that is not
marked departed (R3, R58, R68, R77, R85). -/
structure State.QuietPort (p : Port) (s : State) : Prop where
  queues : s.cbm.queues.get p = .empty
  activity : s.scu.activity.get p = none
  grant : s.scu.table.entries.get p = .none
  departed : ∀ c, s.scu.computation = some c → c.eligible p = true → c.departed.get p = true
  up : (s.txs.upBuckets.get p).tokens = 0 ∧ (s.txs.upBuckets.get p).remainder = 0
  down : (s.txs.downBuckets.get p).tokens = 0 ∧ (s.txs.downBuckets.get p).remainder = 0

/-- Every port that is not in UP is quiet. -/
def State.QuietOutOfUp (s : State) : Prop := ∀ p, (s.port p).state ≠ .up → s.QuietPort p

/-- A snapshot names each port once, gives each a weight of at least 1, and takes at most the whole of the capacity (R65, R69). -/
structure Snapshot.Sound (n : Snapshot) : Prop where
  ports : (n.claims.map (·.port)).Nodup
  weights : ∀ c ∈ n.claims, 1 ≤ c.weight
  percent : n.usablePercent ≤ 100

/-- The sum of the grants in force. -/
def ShareTable.granted (t : ShareTable) : Nat := (allPorts.map fun p => (t.entries.get p).grant).sum

/-- The grants in force fit the usable capacity, which fits C_up, and no grant is above its ceiling (R70 to R75). -/
structure State.GrantsFit (s : State) : Prop where
  total : s.scu.table.granted ≤ s.scu.table.usable
  usable : s.scu.table.usable ≤ s.scu.table.cUp
  ceilings : ∀ p, (s.scu.table.entries.get p).grant ≤ (s.scu.table.entries.get p).ceiling
  inFlight : ∀ c, s.scu.computation = some c → c.snapshot.Sound
  percent : s.settings.usablePercent ≤ 100

/-- The arbiter has made its choice in `u` and left `t` (R86 to R89): nothing while the uplink is busy, down or paused; the head of AQ before all; else
the first express head that fits its port's tokens, from the express pointer on; else the first bulk head from the bulk pointer on. A subscriber frame
is charged its length, and the pointer of its class moves past its port. -/
def State.UplinkChosen (u t : State) : Prop :=
  let free : Prop := u.txs.uplinkTx = none ∧ u.scu.linkUp = true ∧ u.txs.paused = false
  let fits (q : QueueId) (p : Port) : Prop := ∃ d rest, u.queue q = d :: rest ∧ d.length ≤ (u.txs.upBuckets.get p).tokens
  let before (start q p : Port) : Prop := q - start < p - start
  let starts (p : Port) (q : QueueId) (d : Descriptor) (rest : List Descriptor) (express bulk : Port) : Prop :=
    let bucket := u.txs.upBuckets.get p
    t.queue q = rest ∧ (∀ other, other ≠ q → t.queue other = u.queue other) ∧ t.cbm = { u.cbm with queues := t.cbm.queues } ∧
      t.txs =
        { u.txs with
          uplinkTx := some d.sent, expressPtr := express, bulkPtr := bulk
          upBuckets := u.txs.upBuckets.set p { bucket with tokens := bucket.tokens - d.length } }
  OnlyIn [.txs, .cbm] u t ∧
  (¬free → t = u) ∧
  (∀ d rest, free → u.cbm.aq = d :: rest → t.txs = { u.txs with uplinkTx := some d.sent } ∧ t.cbm = { u.cbm with aq := rest }) ∧
  (∀ p d rest, free → u.cbm.aq = [] → u.queue (.ux p) = d :: rest → d.length ≤ (u.txs.upBuckets.get p).tokens →
    (∀ q, before u.txs.expressPtr q p → ¬fits (.ux q) q) → starts p (.ux p) d rest (p + 1) u.txs.bulkPtr) ∧
  (∀ p d rest, free → u.cbm.aq = [] → (∀ q, ¬fits (.ux q) q) → u.queue (.ub p) = d :: rest →
    d.length ≤ (u.txs.upBuckets.get p).tokens → (∀ q, before u.txs.bulkPtr q p → ¬fits (.ub q) q) →
    starts p (.ub p) d rest u.txs.expressPtr (p + 1)) ∧
  (free → u.cbm.aq = [] → (∀ q, ¬fits (.ux q) q ∧ ¬fits (.ub q) q) → t = u)

/-- The line transmitter of port `p` has made its choice in `u` and left `t` (R94): nothing while it is busy; the head of DX when that fits the
downstream tokens, and nothing, not even from DB, while it does not; with DX empty the head of DB when that fits. The frame is charged its length. -/
def State.LineChosen (p : Port) (u t : State) : Prop :=
  let bucket := u.txs.downBuckets.get p
  let starts (q : QueueId) (d : Descriptor) (rest : List Descriptor) : Prop :=
    t.queue q = rest ∧ (∀ other, other ≠ q → t.queue other = u.queue other) ∧ t.cbm = { u.cbm with queues := t.cbm.queues } ∧
      t.txs =
        { u.txs with
          lineTx := u.txs.lineTx.set p (some d.sent)
          downBuckets := u.txs.downBuckets.set p { bucket with tokens := bucket.tokens - d.length } }
  let free : Prop := u.txs.lineTx.get p = none
  OnlyIn [.txs, .cbm] u t ∧
  (¬free → t = u) ∧
  (∀ d rest, free → u.queue (.dx p) = d :: rest →
    (d.length ≤ bucket.tokens → starts (.dx p) d rest) ∧ (bucket.tokens < d.length → t = u)) ∧
  (∀ d rest, free → u.queue (.dx p) = [] → u.queue (.db p) = d :: rest →
    (d.length ≤ bucket.tokens → starts (.db p) d rest) ∧ (bucket.tokens < d.length → t = u)) ∧
  (free → u.queue (.dx p) = [] → u.queue (.db p) = [] → t = u)

/-! ## The craft port's power (09) -/

/-- The craft port's power stands as R168 judges it. -/
def State.CraftJudged (s : State) : Prop :=
  s.csu.craftPowered = (s.csu.stage != some .conserve || s.doorOpen || s.csu.craftHold.isSome)

/-! ## The pair test (06) -/

/-- The states in which a request runs (R102). -/
def ControllerState.busy : ControllerState → Bool
  | .idle | .suspended => false
  | .claim | .transferOut | .measure | .transferBack => true

/-- The request list and the test bus record stand together (R99, R100, R102, R119). -/
structure PairTest.Sound (t : PairTest) : Prop where
  room : t.requests.length ≤ 8
  ids : (t.requests.map (·.id)).Nodup
  urgent : t.requests.Pairwise fun x y => y.urgency = .urgent → x.urgency = .urgent
  kinds : t.requests.Pairwise fun x y => ¬(x.port = y.port ∧ x.kind = y.kind)
  idRange : ∀ r ∈ t.requests, 1 ≤ r.id ∧ r.id ≤ 65535
  next : 1 ≤ t.nextId ∧ t.nextId ≤ 65535
  course : t.course.isSome ↔ t.state.busy = true
  running : (t.requests.filter fun r => r.status == .running).length = if t.course.isSome then 1 else 0
  owner : t.owner.isSome → t.course.isSome
  claim : t.state = .claim → (∀ k, t.course = some k → k.releaseSent = false) → t.owner = none
  suspend : t.suspendPending = true → t.course.isSome
  items : ∀ k, t.course = some k → k.items.length ≤ 11
  log : t.log.length ≤ 16
  blocked : t.blocked = true ↔ ∃ p, t.blocking.get p = true

/-! ## The fault log and the notices (10) -/

/-- The sources a fault kind has (R183). -/
def FaultKind.sourced : FaultKind → FaultSource → Bool
  | .relayMismatch, .line _ | .relayMismatch, .testbus | .hazard, .line _ | .foreignVoltage, .line _ => true
  | .thermalWarn, .cabinet | .thermalShutdown, .cabinet | .supplyConserve, .cabinet | .restart, .cabinet | .uplinkDown, .uplink => true
  | _, _ => false

/-- The fault log holds at most 24 records, one for a key, each of a source its kind has; the notice queue holds at most 32 items (R183,
R185). -/
structure Agent.Sound (a : Agent) : Prop where
  faults : a.faults.length ≤ 24
  sources : ∀ r ∈ a.faults, r.kind.sourced r.source = true
  keys : a.faults.Pairwise fun x y => y.hasKey x.source x.kind = false
  notices : a.notices.length ≤ 32

/-- An active record of a key stands in the fault log. -/
def State.faultStands (s : State) (src : FaultSource) (kind : FaultKind) : Prop :=
  ∃ f ∈ s.mga.faults, f.source = src ∧ f.kind = kind ∧ f.active = true

/-- The conditions that are latched have their active records (R183, R184): a port that is held, or DISABLED with held reasons; a blocked test bus;
the shutdown condition and the thermal latch. -/
structure State.LatchesRecorded (s : State) : Prop where
  held : ∀ p, (s.port p).state = .held ∨ (s.port p).held.any = true →
    s.faultStands (.line p) .relayMismatch ∨ s.faultStands (.line p) .hazard
  blocked : s.ptc.blocked = true → s.faultStands .testbus .relayMismatch
  thermal : s.csu.shutdownCondition = true ∨ s.csu.thermalLatch = true → s.faultStands .cabinet .thermalShutdown

/-! ## Settings, subscriber records, measurement configuration -/

/-- The settings lie in their ranges and their orderings hold (R7, R42, R48, R65, R105, R147, R169). -/
structure Settings.Legal (g : Settings) : Prop where
  transferGap : 2 ≤ g.transferGap ∧ g.transferGap ≤ 30
  relaySettle : 5 ≤ g.relaySettle ∧ g.relaySettle ≤ 50
  trialWindow : 5 ≤ g.trialWindow ∧ g.trialWindow ≤ 600
  soakTime : g.soakTime ≤ 30
  upstreamSize : 512 ≤ g.upstreamSize ∧ g.upstreamSize ≤ 3520
  expressReserve : g.expressReserve ≤ 1024
  fixedCapacity : g.fixedCapacity ≤ 1000000
  agentReserve : g.agentReserve ≤ 4096
  usablePercent : 50 ≤ g.usablePercent ∧ g.usablePercent ≤ 100
  activityWindow : 10 ≤ g.activityWindow ∧ g.activityWindow ≤ 1000
  testWaitLimit : 10 ≤ g.testWaitLimit ∧ g.testWaitLimit ≤ 3600
  levels : g.warnLevel.code ≤ 15 ∧ g.hazardLevel.code ≤ 15
  persistence : 1 ≤ g.persistence ∧ g.persistence ≤ 15
  polls : g.watchPoll ≤ 7 ∧ g.economyPoll ≤ 7 ∧ g.contactPoll ≤ 7
  craftHoldTime : 1 ≤ g.craftHoldTime ∧ g.craftHoldTime ≤ 60
  thermal : -40 ≤ g.warnThreshold ∧ g.shutdownThreshold ≤ 125 ∧ -40 ≤ g.heaterOn ∧ g.heaterOff ≤ 125
  supply : g.economyThreshold ≤ 9999
  budgets : g.budgetMains ≤ 65535 ∧ g.budgetNormal ≤ 65535 ∧ g.budgetEconomy ≤ 65535 ∧ g.budgetConserve ≤ 65535
  powers : g.baseLoad ≤ 65535 ∧ g.heaterPower ≤ 65535 ∧ g.busPower ≤ 65535
  ordered : g.ordered = true
  ranks : g.heaterRank ≤ 7 ∧ g.busRank ≤ 7

/-- A subscriber record lies in its ranges (R187). -/
structure Subscriber.Legal (u : Subscriber) : Prop where
  rates : u.committedUp ≤ 1000000 ∧ u.upPeak ≤ 1000000 ∧ u.downPeak ≤ 1000000
  weight : u.weight ≤ 64
  bursts : u.upBurst ≤ 262143 ∧ u.downBurst ≤ 262143
  caps : 16 ≤ u.expressCap ∧ u.expressCap ≤ 1024 ∧ 16 ≤ u.bulkCap ∧ u.bulkCap ≤ 1024
  shedRank : u.shedRank ≤ 7
  portPower : u.portPower ≤ 65535
  idleDoze : u.idleDoze ≤ 3600
  expected : ∀ e, u.expected = some e → e ≤ 255
  defaultVid : ∀ v, u.defaultVid = some v → 1 ≤ v ∧ v ≤ 4094
  classThreshold : u.classThreshold ≤ 7

/-- The measurement configuration lies in its ranges and stands together (R143). -/
structure MeasConfig.Legal (c : MeasConfig) : Prop where
  hazardCode : 300 ≤ c.hazardCode ∧ c.hazardCode ≤ 2000
  acquisitions : 5 ≤ c.fvAcquisition ∧ c.fvAcquisition ≤ 200 ∧ 10 ≤ c.insCharge ∧ c.insCharge ≤ 2000 ∧ 10 ≤ c.sigSettle ∧ c.sigSettle ≤ 500
  sources : 4 ≤ c.insCode ∧ c.insCode ≤ 32 ∧ 4 ≤ c.sigBias ∧ c.sigBias ≤ 32
  windows : 10 ≤ c.baseWindow ∧ c.baseWindow ≤ 200 ∧ 20 ≤ c.listenWindow ∧ c.listenWindow ≤ 1000
  limits : 1 ≤ c.dcLimit ∧ c.dcLimit ≤ 2000 ∧ 1 ≤ c.acLimit ∧ c.acLimit ≤ 2000 ∧ c.insMinimum ≤ 20470
  bases : c.baseMinimum ≤ 2000 ∧ 1 ≤ c.baseMaximum ∧ c.baseMaximum ≤ 2000
  rises : 100 ≤ c.delta1 ∧ c.delta1 ≤ 1000 ∧ 100 ≤ c.delta2 ∧ c.delta2 ≤ 1000
  fixed : c.first ≤ 255 ∧ c.offset ≤ 255
  deglitch : 2 ≤ c.deglitch ∧ c.deglitch ≤ 30
  consistent : c.consistent = true

/-- What the element manager can write stays in its ranges. -/
structure State.ParametersLegal (s : State) : Prop where
  settings : s.settings.Legal
  subscribers : ∀ p, (s.sub p).Legal
  config : s.msu.config.Legal

end Sys2Proof.Machine
end

