-- ==== Sys2Proof/Certificates/Slice0/Obligations.lean ====
section
/-! DEFINITION. The statements about the ZL16, for the provers: steps and resets, what every step keeps, then the commands block by block. -/

open Sys2Proof Sys2Proof.Machine

/-! ## Steps and resets -/

/-- A step executes the command at the front of the queue on the state with the queue's rest. On an empty queue the block idles, which is the model's
choice (log 2). -/
def Obligations.StepRunsTheFrontCommand : Prop :=
  (∀ (c : Instr) (rest : List Instr) (s : State), s.pending = c :: rest → step s = exec c { s with pending := rest }) ∧
    ∀ s : State, s.pending = [] → step s = .next s

/-- Every command, with any operands in any state, answers a next state and leaves the waiting commands alone: the part stops nowhere (00_scope.md,
"Refusal, clamping and degrading"). No command but POWER_ON_RESET runs the clock back, so an uptime never shrinks otherwise. The model's own: the
clock (log 2). -/
def Obligations.NoCommandStopsThePart : Prop :=
  ∀ (c : Instr) (s : State), ∃ t, exec c s = .next t ∧ t.pending = s.pending ∧
    ((∀ straps, c ≠ .powerOnReset straps) → s.now ≤ t.now)

/-- POWER_ON_RESET leaves the condition of the reset rules, from any state (R2, R36, R37, R62, R75, R83, R98, R101, R122, R128, R155, R156, R165,
R175, R190): every drop and transmit counter is 0, and the watch and contact records stand at their defaults. The time of the restoring transfer's
end counts from power-on. The header still to come of a craft frame that was in reception is to be discarded. The model's own: the clock (log 2),
relay senses kept over a reset (log 5), the view of the ports at reset (log 14), a header without its frame (log 23), what no reset touches (log 37). -/
def Obligations.PowerOnResetStartsAfresh : Prop :=
  ∀ (straps : BitVec 16) (s : State), ∃ t, exec (.powerOnReset straps) s = .next t ∧
    (∀ p, t.port p =
      { state := .disabled, orderOn := false, rates := none, causes := ⟨false, false, false⟩, wakePending := false, position := .normal
        transfer := some ⟨.restoring, .settle, 15000⟩, heldOrder := none, held := ⟨false, false⟩, testRef := none, returnTarget := none
        idleTimer := none, counters := ⟨0, 0, 0, 0, 0, 0, 0, 0⟩, lineClosedCmd := true, testClosedCmd := false
        lineClosedSense := (s.port p).lineClosedSense, testClosedSense := (s.port p).testClosedSense }) ∧
    t.fcl.active = [(0, .lane)] ∧ t.fcl.candidate = [] ∧ t.fcl.mark = .open ∧ t.fcl.trial = none ∧
    (∀ q, t.queue q = []) ∧ (∀ a, t.areaHeld a = 0) ∧ (∀ src, t.reception src = none) ∧ t.fcl.staleHeader = s.owesCraftHeader ∧
    (∀ p, t.fcl.lineDrops.get p = ⟨0, 0, 0, 0, 0, 0⟩ ∧ t.cbm.drops.get p = ⟨0, 0, 0, 0, 0, 0, 0, 0⟩) ∧ t.fcl.uplinkDrops = ⟨0, 0, 0, 0, 0⟩ ∧
    t.fcl.craftDrops = ⟨0, 0, 0, 0⟩ ∧ t.cbm.uplinkPoolFull = 0 ∧
    t.scu.linkUp = false ∧ t.scu.latestReport = none ∧ t.scu.computation = none ∧ (∀ p, t.scu.activity.get p = none) ∧
    (∀ p, t.scu.table.entries.get p = .none) ∧ t.scu.table.overcommitted = false ∧ t.scu.table.sequence = 0 ∧
    t.scu.table.cUp = 0 ∧ t.scu.table.usable = 0 ∧ t.scu.table.floors = 0 ∧ t.scu.table.spare = 0 ∧ t.scu.table.rounds = 0 ∧
    t.scu.table.outcome = .floorOnly ∧
    (∀ p, t.txs.upBuckets.get p = ⟨0, 0, 1000⟩ ∧ t.txs.downBuckets.get p = ⟨0, 0, 1000⟩) ∧ t.txs.expressPtr = 0 ∧ t.txs.bulkPtr = 0 ∧
    t.txs.uplinkTx = none ∧ t.txs.craftTx = none ∧ (∀ p, t.txs.lineTx.get p = none) ∧ t.txs.paused = false ∧ t.txs.uplinkFrames = 0 ∧
    t.txs.uplinkOctets = 0 ∧ t.txs.uplinkAgentFrames = 0 ∧ t.txs.craftFrames = 0 ∧ t.txs.craftDiscards = 0 ∧
    t.ptc =
      { requests := [], course := none, state := .idle, suspendPending := false, owner := none, blocked := false, blocking := Row.all false
        shedMark := false, demand := false, nextId := 1, log := [], view := Row.all ⟨.disabled, false, .settle⟩ } ∧
    t.msu.run = .idle ∧ t.msu.kept = none ∧ t.msu.source = none ∧ t.msu.path = none ∧ t.lwu.armed = false ∧ t.lwu.timer = none ∧
    (∀ p, t.lwu.records.get p = ⟨false, false, 0, 0, false, false, .none, false, none⟩) ∧
    (∀ k, t.csu.contacts.get k = ⟨true, false, false, false, none, none, none⟩) ∧ t.csu.temperature = none ∧
    t.csu.warnCondition = false ∧ t.csu.shutdownCondition = false ∧ t.csu.mainsPresent = none ∧ t.csu.battery = none ∧
    t.csu.craftHold = none ∧
    t.csu.stage = none ∧ t.csu.thermalLatch = false ∧ t.csu.heaterDemand = false ∧ t.csu.craftPowered = true ∧
    (∀ p, t.pbu.portSent.get p = none) ∧ t.pbu.heaterSent = none ∧ t.pbu.busSent = none ∧ t.pbu.last = none ∧
    t.now = 0 ∧ t.mga.cabinet = straps ∧ t.mga.locked = false ∧ t.mga.uplinkStore = none ∧ t.mga.craftStore = none ∧ t.mga.exec = .idle ∧
    t.mga.servedLast = .craft ∧ t.mga.resetWait = .none ∧
    t.mga.faults = [{ source := .cabinet, kind := .restart, first := 0, last := 0, count := 1, active := false, restartCause := some .powerOn }] ∧
    t.mga.notices = [{ notice := .restart .powerOn, uptime := 0 }] ∧ t.mga.changeMark = true ∧ t.mga.lostMark = false ∧
    t.mga.destination = none ∧ t.mga.accepted = 0 ∧ t.mga.rejected = 0 ∧ t.mga.faultsLost = 0 ∧ t.mga.noticesDropped = 0 ∧
    t.mga.reportsLost = 0 ∧ (∀ p, t.sub p = .default) ∧ t.settings = .default ∧ t.msu.config = .default ∧ t.pending = s.pending

/-- DIRECTED_RESET comes when the wait after RESET is over, or when the 2 s after the report's placement run out, and not before (R191): it resets
as at power-on, but the cabinet number, the notice destination and the fault records are kept and the uptime runs on. Every fault record stays,
inactive, with its count and times, but for RESTART's own, as long as the log has a place for that one. Every counter is 0, every Port Record is
that of R2, and of the agent's marks the change mark is set and the lost mark clear (R2, R36, R62, R97, R190). No frame is in reception any more, and the
header of a craft frame that was is awaited only to be discarded (R62). The model's own: the list of messages (log 1), the clock (log 2), relay
senses kept over a reset (log 5), the craft link's indication (log 6), the counters of free values (log 8, log 47), the view of the ports at reset
(log 14), a craft header without its frame (log 23), when the wait ends (log 36), what no reset touches (log 37). -/
def Obligations.DirectedResetKeepsWhatR191Keeps : Prop :=
  (∀ s : State, s.mga.resetWait = .over ∨ (∃ limit, s.mga.resetWait = .placed limit) → ∃ t, exec .directedReset s = .next t ∧
    s.now ≤ t.now ∧ (∀ limit, s.mga.resetWait = .placed limit → limit ≤ t.now) ∧ t.resetAt = t.now ∧
    t.mga.cabinet = s.mga.cabinet ∧ t.mga.destination = s.mga.destination ∧
    t.mga.notices = [{ notice := .restart .directed, uptime := t.uptime }] ∧
    (∃ r ∈ t.mga.faults, r.source = .cabinet ∧ r.kind = .restart ∧ r.restartCause = some .directed ∧ r.last = t.uptime) ∧
    (∀ r ∈ t.mga.faults, r.active = false) ∧
    (∀ f ∈ s.mga.faults, f.kind ≠ .restart → s.mga.faults.length < 24 ∨ (∃ g ∈ s.mga.faults, g.source = .cabinet ∧ g.kind = .restart) →
      { f with active := false } ∈ t.mga.faults) ∧
    t.mga.locked = false ∧ t.mga.exec = .idle ∧ t.mga.resetWait = .none ∧ t.mga.uplinkStore = none ∧ t.mga.craftStore = none ∧
    t.mga.servedLast = .craft ∧ t.mga.changeMark = true ∧ t.mga.lostMark = false ∧ t.mga.accepted = 0 ∧ t.mga.rejected = 0 ∧
    t.mga.faultsLost = 0 ∧ t.mga.noticesDropped = 0 ∧ t.mga.reportsLost = 0 ∧
    (∀ p, t.port p =
      { state := .disabled, orderOn := false, rates := none, causes := ⟨false, false, false⟩, wakePending := false, position := .normal
        transfer := some (if (s.port p).testClosedCmd then ⟨.restoring, .gap, t.now + 10000⟩ else ⟨.restoring, .settle, t.now + 15000⟩)
        heldOrder := none, held := ⟨false, false⟩, testRef := none, returnTarget := none, idleTimer := none
        counters := ⟨0, 0, 0, 0, 0, 0, 0, 0⟩, lineClosedCmd := !(s.port p).testClosedCmd, testClosedCmd := false
        lineClosedSense := (s.port p).lineClosedSense, testClosedSense := (s.port p).testClosedSense }) ∧
    (∀ p, t.fcl.lineDrops.get p = ⟨0, 0, 0, 0, 0, 0⟩ ∧ t.cbm.drops.get p = ⟨0, 0, 0, 0, 0, 0, 0, 0⟩) ∧ t.fcl.uplinkDrops = ⟨0, 0, 0, 0, 0⟩ ∧
    t.fcl.craftDrops = ⟨0, 0, 0, 0⟩ ∧ t.cbm.uplinkPoolFull = 0 ∧ t.txs.uplinkFrames = 0 ∧ t.txs.uplinkOctets = 0 ∧
    t.txs.uplinkAgentFrames = 0 ∧ t.txs.craftFrames = 0 ∧ t.txs.craftDiscards = 0 ∧
    (∀ src, t.reception src = none) ∧
    t.fcl = { Classifier.afterReset with staleHeader := s.owesCraftHeader, cuts := s.fcl.cuts } ∧ t.cbm = { Buffer.afterReset with picks := s.cbm.picks } ∧
    t.txs = .afterReset t.now s.txs.craftLinkUp ∧ t.csu = .afterReset t.now ∧ t.scu = .afterReset ∧ t.ptc = .afterReset ∧ t.msu = .afterReset ∧ t.lwu = .afterReset ∧
    t.pbu = .afterReset ∧ t.settings = .default ∧ (∀ p, t.sub p = .default)) ∧
  ∀ s : State, s.mga.resetWait = .none ∨ s.mga.resetWait = .unplaced → ∃ t, exec .directedReset s = .next t ∧ OnlyIn [.mail] s t

/-! ## What every step keeps -/

/-- The condition right after reset meets every invariant below. The model's own: cabinet number and craft link of the reset state (log 6, log 7). -/
def Obligations.ResetMeetsTheInvariants : Prop :=
  (∀ p, (State.reset.port p).RelaysFollow) ∧ (∀ p, (State.reset.port p).Sound) ∧ State.reset.OneOnBus ∧ State.reset.fcl.Sound ∧
    State.reset.CellsBalance ∧ State.reset.QuietOutOfUp ∧ State.reset.GrantsFit ∧ State.reset.ptc.Sound ∧ State.reset.mga.Sound ∧
    State.reset.LatchesRecorded ∧ State.reset.CraftJudged ∧ State.reset.ParametersLegal

/-- Every step keeps every pair's relay commands at the arrangement its relay position and transfer phase call for, so no pair ever has both relays
commanded closed; and it keeps at most one port in TEST and at most one pair on the test bus (R1, R7, R8, R9, R19). -/
def Obligations.TheRelaysStayApart : Prop :=
  ∀ s t : State, step s = .next t →
    ((∀ p, (s.port p).RelaysFollow) →
      ∀ p, (t.port p).RelaysFollow ∧ ¬((t.port p).lineClosedCmd = true ∧ (t.port p).testClosedCmd = true)) ∧
    (s.OneOnBus → t.OneOnBus)

/-- Every step keeps the fields of every Port Record together: what is present in which state, the transceiver order, the held reasons, the doze
causes (R1, R5, R11, R14). -/
def Obligations.PortRecordsStaySound : Prop :=
  ∀ s t : State, (∀ p, (s.port p).Sound) → step s = .next t → ∀ p, (t.port p).Sound

/-- Every step keeps both banks sound and the way to the agent open: the active table, and the fallback of a trial, hold an AGENT entry (R30, R37,
R40, R42). -/
def Obligations.TheAgentPathIsKept : Prop :=
  ∀ s t : State, s.fcl.Sound → step s = .next t → t.fcl.Sound

/-- Every step keeps the held counts equal to the cells that frames hold, and within the pool; a frame dropped during its reception holds none (R26,
R47, R51, R57). -/
def Obligations.CellsStayInBalance : Prop :=
  ∀ s t : State, s.CellsBalance → step s = .next t → t.CellsBalance

/-- Every step keeps a port that is not in UP without queued frames, activity, grant, claim and tokens (R3, R55, R58, R66, R68, R76, R77, R84, R85).
-/
def Obligations.PortsOutOfUpStayQuiet : Prop :=
  ∀ s t : State, s.QuietOutOfUp → step s = .next t → t.QuietOutOfUp

/-- Every step keeps the grants in force within the usable capacity and each within its ceiling (R70 to R77). -/
def Obligations.GrantsStayWithinCapacity : Prop :=
  ∀ s t : State, s.GrantsFit → step s = .next t → t.GrantsFit

/-- Every step keeps the request list, URGENT records first, the running request and the test bus record together; the fault log at 24 records, one
for a key, and the notice queue at 32 items; and the active records of what is latched: a port that is held or holds reasons, a blocked test bus, the
thermal shutdown (R11, R99, R100, R102, R108, R116, R119, R161, R183, R184, R185). -/
def Obligations.TheListsStaySound : Prop :=
  ∀ s t : State, step s = .next t → (s.ptc.Sound → t.ptc.Sound) ∧ (s.mga.Sound → t.mga.Sound) ∧
    ((∀ p, (s.port p).Sound) → s.mga.Sound → s.LatchesRecorded → t.LatchesRecorded)

/-- Every step keeps the craft port's power judged: powered outside CONSERVE, and in CONSERVE while the door is open or the craft hold timer runs
(R168). -/
def Obligations.TheCraftPortIsPoweredAsJudged : Prop :=
  ∀ s t : State, s.CraftJudged → step s = .next t → t.CraftJudged

/-- Every step keeps the settings, the subscriber records and the measurement configuration in their ranges (R7, R42, R48, R65, R105, R143, R147,
R169, R187). -/
def Obligations.ParametersStayLegal : Prop :=
  ∀ s t : State, s.ParametersLegal → step s = .next t → t.ParametersLegal

/-! ## Line ports (01) -/

/-- Line events by the table of R6, with the rates and idle timer of R3: the record afterwards, whole. An event from a port whose transceiver order is
OFF has no effect, and a TRAINED or RATE_CHANGED with a rate of 0 is taken as LINK_LOST. Each change of state is reported to the Pair Test Controller
and raises PORT_STATE with the new state, causes and held reasons (R4, R102). The model's own: the list of messages (log 1), the clock (log 2),
TRAINING_STARTED in UP is one change (log 18). -/
def Obligations.LineEventsByState : Prop :=
  ∀ (p : Port) (up down : Nat) (s : State),
    ((s.port p).orderOn = false →
      exec (.trainingStarted p) s = .next s ∧ exec (.trained p up down) s = .next s ∧ exec (.rateChanged p up down) s = .next s ∧
        exec (.linkLost p) s = .next s) ∧
    (up = 0 ∨ down = 0 →
      exec (.trained p up down) s = exec (.linkLost p) s ∧ exec (.rateChanged p up down) s = exec (.linkLost p) s) ∧
    ((s.port p).orderOn = true → 0 < up → 0 < down →
    let rates : Rates := ⟨min 1000000 up, min 1000000 down⟩
    let told (st : PortState) (t : State) : Prop :=
      Instr.portReport p st (s.port p).held.any (s.port p).phase ∈ t.mail ∧
        (s.noticeEnabled .portState = true → s.mga.destination = none → s.mga.notices.length ≤ 30 →
          (⟨.portState p st (s.port p).causes (s.port p).held (s.port p).wakePending, s.uptime⟩ : NoticeItem) ∈ t.mga.notices)
    let retrained (st : PortState) (t : State) : Prop :=
      t.port p =
        { s.port p with
          state := st, rates := none, idleTimer := none
          counters := { (s.port p).counters with retrains := plusOne (s.port p).counters.retrains } } ∧
        told st t ∧ LineChange p s t
    let entersUp (t : State) : Prop :=
      t.port p =
        { s.port p with
          state := .up, rates := some rates
          idleTimer := if (s.sub p).idleDoze = 0 then none else some (s.now + (s.sub p).idleDoze * 1000000) } ∧
        t.scu.computation.isSome ∧ told .up t ∧ LineChange p s t
    let newRates (t : State) : Prop :=
      t.port p = { s.port p with rates := some rates } ∧ t.scu.computation.isSome ∧ OtherPorts p s t ∧ OnlyIn [.ports, .scu] s t
    ((s.port p).state = .down →
      (∃ t, exec (.trainingStarted p) s = .next t ∧
        t.port p = { s.port p with state := .training, rates := none, idleTimer := none } ∧ told .training t ∧ LineChange p s t) ∧
      (∃ t, exec (.trained p up down) s = .next t ∧ entersUp t) ∧
      exec (.rateChanged p up down) s = .next s ∧ exec (.linkLost p) s = .next s) ∧
    ((s.port p).state = .training →
      exec (.trainingStarted p) s = .next s ∧ (∃ t, exec (.trained p up down) s = .next t ∧ entersUp t) ∧
      exec (.rateChanged p up down) s = .next s ∧ ∃ t, exec (.linkLost p) s = .next t ∧ retrained .down t) ∧
    ((s.port p).state = .up →
      (∃ t, exec (.trainingStarted p) s = .next t ∧ retrained .training t) ∧
      (∃ t, exec (.trained p up down) s = .next t ∧ newRates t) ∧
      (∃ t, exec (.rateChanged p up down) s = .next t ∧ newRates t) ∧
      ∃ t, exec (.linkLost p) s = .next t ∧ retrained .down t))

/-- Whatever takes a port out of UP, in that same step its rates and idle timer are gone, its four queues are flushed, its grant is 0, it is inactive
and its buckets are empty (R3, R58, R68, R77, R85). -/
def Obligations.LeavingUpIsWhole : Prop :=
  ∀ (p : Port) (s t : State), (s.port p).state = .up → step s = .next t → (t.port p).state ≠ .up →
    (t.port p).rates = none ∧ (t.port p).idleTimer = none ∧ t.QuietPort p

/-- At the end of a GAP whose opened relay reads open, the make is performed and the SETTLE phase starts (R8, R9, R10): outward onto a free bus the
test relay closes; outward onto an occupied bus the transfer turns round; any other transfer closes the line relay. The model's own: the clock (log
2), the SETTLE's length by the setting as it stands, also in a directed reset's transfer (log 56). -/
def Obligations.GapEndMakes : Prop :=
  ∀ (p : Port) (ends : Nat) (kind : TransferKind) (s : State), (s.port p).transfer = some ⟨kind, .gap, ends⟩ →
    let r := s.port p
    let settle (k : TransferKind) (t : State) : Option Transfer := some ⟨k, .settle, t.now + s.settings.relaySettle * 1000⟩
    let occupied : Prop := ∃ q, q ≠ p ∧ ((s.port q).testClosedCmd = true ∨ (s.port q).testClosedSense = true)
    let frame (t : State) : Prop := t.now = max s.now ends ∧ OtherPorts p s t ∧ OnlyIn [.ports, .now] s t
    (kind = .outward → r.lineClosedSense = false → ¬occupied → ∃ t, exec (.gapEnd p) s = .next t ∧
      t.port p = { r with testClosedCmd := true, transfer := settle .outward t } ∧ frame t) ∧
    (kind = .outward → r.lineClosedSense = false → occupied → ∃ t, exec (.gapEnd p) s = .next t ∧
      t.port p = { r with lineClosedCmd := true, position := .normal, transfer := settle .turnedRound t } ∧ frame t) ∧
    (kind ≠ .outward → r.testClosedSense = false → (kind = .restoring → r.lineClosedSense = false) →
      ∃ t, exec (.gapEnd p) s = .next t ∧
        t.port p = { r with lineClosedCmd := true, transfer := settle kind t } ∧ frame t)

/-- At the end of a SETTLE in which both senses agree with their commands, and with no held order, the transfer phase becomes none, POWER_ON is sent
in DOWN, the end is reported and the answer of the transfer is sent (R5, R8, R9). An order kept during the transfer starts at that end, after the
answer (R20). At TESTING a TRANSFER_BACK or RELEASE starts the transfer back, which the RELEASE is kept over, and a TRANSFER_OUT is answered
OUT_DONE at once; at NORMAL, where a transfer back, a turned-round and a restoring transfer end, a TRANSFER_OUT starts the outward transfer, a
TRANSFER_BACK is answered BACK_DONE at once, and a RELEASE is carried out by the return target and the doze causes (R18, R20). The model's own: the
list of messages (log 1), the clock (log 2), the order of the reports (log 13), the newest held order stands (log 15), a return that ends in DOZE
(log 60). -/
def Obligations.SettleEndAnswers : Prop :=
  (∀ (p : Port) (ends : Nat) (kind : TransferKind) (s : State), (s.port p).Sound →
    (s.port p).transfer = some ⟨kind, .settle, ends⟩ → (s.port p).heldOrder = none →
    (s.port p).lineClosedSense = (s.port p).lineClosedCmd → (s.port p).testClosedSense = (s.port p).testClosedCmd →
    ∃ t, exec (.settleEnd p) s = .next t ∧ t.now = max s.now ends ∧
      t.port p = { s.port p with transfer := none, orderOn := (s.port p).orderOn || (s.port p).state == .down } ∧
      t.mail = s.mail ++ [.portReport p (s.port p).state (s.port p).held.any .none] ++
        (match kind with | .outward => [.outDone] | .back => [.backDone] | .turnedRound => [.outFailed] | .restoring => []) ∧
      OtherPorts p s t ∧ OnlyIn [.ports, .now, .mail] s t) ∧
  ∀ (p : Port) (ends : Nat) (kind : TransferKind) (order : HeldOrder) (s : State), (s.port p).Sound →
    (s.port p).transfer = some ⟨kind, .settle, ends⟩ → (s.port p).position = kind.target → (s.port p).heldOrder = some order →
    (s.port p).lineClosedSense = (s.port p).lineClosedCmd → (s.port p).testClosedSense = (s.port p).testClosedCmd →
    let now : Nat := max s.now ends
    let gap (k : TransferKind) : Option Transfer := some ⟨k, .gap, now + s.settings.transferGap * 1000⟩
    let rest : PortRecord := { s.port p with transfer := none, heldOrder := none }
    let backAgain : PortRecord := { rest with testClosedCmd := false, position := .normal, transfer := gap .back }
    let ended : List Instr :=
      s.mail ++ [.portReport p (s.port p).state (s.port p).held.any .none] ++
        (match kind with | .outward => [.outDone] | .back => [.backDone] | .turnedRound => [.outFailed] | .restoring => [])
    let goesTo (r : PortRecord) (answer : List Instr) : Prop :=
      ∃ t, exec (.settleEnd p) s = .next t ∧ t.now = now ∧ t.port p = r ∧ t.mail = ended ++ answer ∧ OtherPorts p s t ∧
        OnlyIn [.ports, .now, .mail] s t
    (kind = .outward →
      (order = .transferOut → goesTo rest [.outDone]) ∧ (order = .transferBack → goesTo backAgain []) ∧
      (order = .release → goesTo { backAgain with heldOrder := some .release } [])) ∧
    (kind ≠ .outward →
      (order = .transferOut → goesTo { rest with lineClosedCmd := false, position := .testing, transfer := gap .outward } []) ∧
      (order = .transferBack → goesTo rest [.backDone]) ∧
      (order = .release → ∃ t, exec (.settleEnd p) s = .next t ∧ t.now = now ∧ t.port p = s.released p ∧ (∀ c ∈ ended, c ∈ t.mail) ∧
        (∀ id, (s.port p).testRef = some id → Instr.released id ∈ t.mail) ∧
        ((s.port p).returnTarget = some .disabled ∨ (s.port p).causes.isEmpty = false → OtherPorts p s t ∧ t.pbu = s.pbu) ∧
        OnlyIn [.ports, .now, .mail, .scu, .txs, .cbm, .lwu, .mga, .pbu] s t))

/-- A phase end that comes when its phase does not run has no effect, nor has a sense input that reads as before; a change of a sense input that
brings no mismatch, during a transfer or into agreement, is only recorded (R7, R10, R12). The model's own: an event that finds nothing to act on has
no effect (log 19). -/
def Obligations.SenseChangesWithoutAMismatch : Prop :=
  ∀ (p : Port) (s : State),
    ((∀ tr, (s.port p).transfer = some tr → tr.phase ≠ .gap) → exec (.gapEnd p) s = .next s) ∧
    ((∀ tr, (s.port p).transfer = some tr → tr.phase ≠ .settle) → exec (.settleEnd p) s = .next s) ∧
    exec (.relaySenseChange p .line (s.port p).lineClosedSense) s = .next s ∧
    exec (.relaySenseChange p .test (s.port p).testClosedSense) s = .next s ∧
    ∀ b : Bool,
      (b ≠ (s.port p).lineClosedSense → (s.port p).transfer ≠ none ∨ b = (s.port p).lineClosedCmd →
        ∃ t, exec (.relaySenseChange p .line b) s = .next t ∧ t.port p = { s.port p with lineClosedSense := b } ∧
          OtherPorts p s t ∧ OnlyIn [.ports] s t) ∧
      (b ≠ (s.port p).testClosedSense → (s.port p).transfer ≠ none ∨ b = (s.port p).testClosedCmd →
        ∃ t, exec (.relaySenseChange p .test b) s = .next t ∧ t.port p = { s.port p with testClosedSense := b } ∧
          OtherPorts p s t ∧ OnlyIn [.ports] s t)

/-- A relay mismatch, found at any of the three points of R10, holds the port (R10, R11, R12): one more relay fault, both relays commanded open,
ISOLATED, no transfer and no held order, the reason entered, the causes emptied, the return target by where it came from; a port that is held already
gains the reason and stays. The Pair Test Controller is told, with whether a test relay reads closed while commanded open. A hazard from the
Measurement Unit holds the port of the pair in the same way, with one more hazard hold and no relay fault. The fault log then has the active record of
the port and the reason (R11, R183). The model's own: the list of messages (log
1), one mismatch for one comparison (log 16), a report that tells the test relay as it stands, whichever relay's comparison failed (log 57). -/
def Obligations.MismatchAndHazardHoldThePort : Prop :=
  (∀ (p : Port) (s : State) (c : Instr) (lineSense testSense : Bool),
    let r := s.port p
    ((c = .gapEnd p ∧ lineSense = r.lineClosedSense ∧ testSense = r.testClosedSense ∧
        ∃ tr, r.transfer = some tr ∧ tr.phase = .gap ∧
          ((tr.kind = .outward ∨ tr.kind = .restoring) ∧ lineSense = true ∨ tr.kind ≠ .outward ∧ testSense = true)) ∨
      (c = .settleEnd p ∧ lineSense = r.lineClosedSense ∧ testSense = r.testClosedSense ∧
        (∃ tr, r.transfer = some tr ∧ tr.phase = .settle) ∧ (lineSense ≠ r.lineClosedCmd ∨ testSense ≠ r.testClosedCmd)) ∨
      (c = .relaySenseChange p .line lineSense ∧ testSense = r.testClosedSense ∧ r.transfer = none ∧
        lineSense ≠ r.lineClosedSense ∧ lineSense ≠ r.lineClosedCmd) ∨
      (c = .relaySenseChange p .test testSense ∧ lineSense = r.lineClosedSense ∧ r.transfer = none ∧
        testSense ≠ r.testClosedSense ∧ testSense ≠ r.testClosedCmd)) →
    let counted : PortRecord :=
      { r with
        lineClosedSense := lineSense, testClosedSense := testSense, held := { r.held with relayMismatch := true }
        counters := { r.counters with relayFaults := plusOne r.counters.relayFaults } }
    ∃ t, exec c s = .next t ∧
      t.port p =
        (if r.state = .held ∨ (r.state = .disabled ∧ r.held.any = true) then counted
         else
           { counted with
             state := .held, orderOn := false, rates := none, idleTimer := none, position := .isolated, transfer := none, heldOrder := none
             lineClosedCmd := false, testClosedCmd := false, causes := ⟨false, false, false⟩, wakePending := false, testRef := none
             returnTarget :=
               some (if r.state = .disabled ∨ (r.state = .test ∧ r.returnTarget = some .disabled) then .disabled else .down) }) ∧
      Instr.mismatchReport p (testSense && !r.testClosedCmd) ∈ t.mail ∧
      (∀ id, r.state = .test → r.testRef = some id → Instr.portHeldReport id .relayMismatch ∈ t.mail) ∧
      (s.mga.Sound → ∃ f ∈ t.mga.faults, f.source = .line p ∧ f.kind = .relayMismatch ∧ f.active = true) ∧
      OtherPorts p s t ∧ Reported s t ∧ OnlyIn [.ports, .now, .mail, .scu, .txs, .cbm, .lwu, .mga] s t) ∧
  ∀ (p : Port) (path : SensePath) (code : BitVec 12) (s : State),
    let r := s.port p
    let counted : PortRecord :=
      { r with
        held := { r.held with hazard := true }, counters := { r.counters with hazardHolds := plusOne r.counters.hazardHolds } }
    ∃ t, exec (.hazardReport p path code) s = .next t ∧
      t.port p =
        (if r.state = .held ∨ (r.state = .disabled ∧ r.held.any = true) then counted
         else
           { counted with
             state := .held, orderOn := false, rates := none, idleTimer := none, position := .isolated, transfer := none, heldOrder := none
             lineClosedCmd := false, testClosedCmd := false, causes := ⟨false, false, false⟩, wakePending := false, testRef := none
             returnTarget :=
               some (if r.state = .disabled ∨ (r.state = .test ∧ r.returnTarget = some .disabled) then .disabled else .down) }) ∧
      (∀ id, r.state = .test → r.testRef = some id → Instr.portHeldReport id .hazard ∈ t.mail) ∧
      (s.mga.Sound → ∃ f ∈ t.mga.faults, f.source = .line p ∧ f.kind = .hazard ∧ f.active = true) ∧
      LineChange p s t

/-- The idle timer's expiry dozes a port in UP with the cause IDLE alone; with the timer stopped nothing happens (R14, R17). The model's own: the list
of messages (log 1), the clock (log 2), an expiry of a stopped timer (log 19). -/
def Obligations.IdleExpiryDozes : Prop :=
  ∀ (p : Port) (s : State),
    (∀ e, (s.port p).idleTimer = some e → (s.port p).state = .up → ∃ t, exec (.idleTimerExpiry p) s = .next t ∧ t.now = max s.now e ∧
      t.port p =
        { s.port p with
          state := .doze, causes := ⟨false, false, true⟩, orderOn := false, rates := none, idleTimer := none
          counters := { (s.port p).counters with dozes := plusOne (s.port p).counters.dozes } } ∧
      OtherPorts p s t ∧ Reported s t ∧ OnlyIn [.ports, .now, .mail, .scu, .txs, .cbm, .lwu, .mga] s t) ∧
    ((s.port p).idleTimer = none → exec (.idleTimerExpiry p) s = .next s)

/-- TAKE is answered DENIED in the cases of R19, and then changes nothing at the Line Port Controller; otherwise it is answered GRANTED and the port
is lent. The model's own: the list of messages (log 1). -/
def Obligations.TakeIsGrantedOrDenied : Prop :=
  ∀ (id : Nat) (p : Port) (allowUp : Bool) (s : State),
    let r := s.port p
    let denied : Prop :=
      (∃ q, (s.port q).state = .test) ∨ r.state = .held ∨ (r.state = .disabled ∧ r.held.any = true) ∨ r.transfer ≠ none ∨
        (r.state = .up ∧ allowUp = false)
    (denied → ∃ t, exec (.take id p allowUp) s = .next t ∧
      t.mail = s.mail.erase (.take id p allowUp) ++ [.denied id] ∧ OnlyIn [.mail] s t) ∧
    (¬denied → ∃ t, exec (.take id p allowUp) s = .next t ∧
      t.port p =
        { r with
          state := .test, testRef := some id, returnTarget := some (if r.state = .disabled then .disabled else .down), orderOn := false
          rates := none, idleTimer := none } ∧
      Instr.granted id ∈ t.mail ∧ LineChange p s t)

/-- TRANSFER_OUT and TRANSFER_BACK (R8, R20) start their transfer from rest, are answered at once at their end position, are kept during a transfer,
and have no effect on a port that is no longer in TEST. RELEASE (R18, R20) is kept while the relays are not at rest at NORMAL, with the transfer back
started from TESTING; it is carried out at NORMAL by the return target and the doze causes; it has no effect on a port no longer in TEST. The model's
own: the list of messages (log 1), the clock (log 2), the newest held order stands (log 15). -/
def Obligations.RelayOrdersAndRelease : Prop :=
  (∀ (p : Port) (s : State),
    let r := s.port p
    let gap (k : TransferKind) : Option Transfer := some ⟨k, .gap, s.now + s.settings.transferGap * 1000⟩
    let alone (c : Instr) (t : State) : Prop := t.mail = s.mail.erase c ∧ OtherPorts p s t ∧ OnlyIn [.ports, .mail] s t
    (r.state = .test → r.transfer = none → r.position = .normal →
      (∃ t, exec (.transferOut p) s = .next t ∧
        t.port p = { r with lineClosedCmd := false, position := .testing, transfer := gap .outward } ∧ alone (.transferOut p) t) ∧
      ∃ t, exec (.transferBack p) s = .next t ∧ t.mail = s.mail.erase (.transferBack p) ++ [.backDone] ∧ OnlyIn [.mail] s t) ∧
    (r.state = .test → r.transfer = none → r.position = .testing →
      (∃ t, exec (.transferBack p) s = .next t ∧
        t.port p = { r with testClosedCmd := false, position := .normal, transfer := gap .back } ∧ alone (.transferBack p) t) ∧
      ∃ t, exec (.transferOut p) s = .next t ∧ t.mail = s.mail.erase (.transferOut p) ++ [.outDone] ∧ OnlyIn [.mail] s t) ∧
    (r.state = .test → r.transfer ≠ none →
      (∃ t, exec (.transferOut p) s = .next t ∧ t.port p = { r with heldOrder := some .transferOut } ∧ alone (.transferOut p) t) ∧
      ∃ t, exec (.transferBack p) s = .next t ∧ t.port p = { r with heldOrder := some .transferBack } ∧ alone (.transferBack p) t) ∧
    (r.state ≠ .test →
      (∃ t, exec (.transferOut p) s = .next t ∧ OnlyIn [.mail] s t) ∧ ∃ t, exec (.transferBack p) s = .next t ∧ OnlyIn [.mail] s t)) ∧
  ∀ (p : Port) (id : Nat) (s : State),
    let r := s.port p
    let back : PortRecord := { r with testRef := none, returnTarget := none, orderOn := false, rates := none, idleTimer := none }
    let dozed : PortCounters := { r.counters with dozes := plusOne r.counters.dozes }
    let rest : Prop := r.state = .test ∧ r.transfer = none ∧ r.position = .normal ∧ r.testRef = some id
    (rest → r.returnTarget = some .disabled → ∃ t, exec (.release p) s = .next t ∧
      t.port p = { back with state := .disabled, causes := ⟨false, false, false⟩, wakePending := false } ∧
      Instr.released id ∈ t.mail ∧ LineChange p s t) ∧
    (rest → r.returnTarget = some .down → r.causes.isEmpty = false → ∃ t, exec (.release p) s = .next t ∧
      t.port p = { back with state := .doze, counters := dozed } ∧ Instr.released id ∈ t.mail ∧ LineChange p s t) ∧
    (rest → r.returnTarget = some .down → r.causes.isEmpty = true → ∃ t, exec (.release p) s = .next t ∧
      t.port p =
        (if s.csu.thermalLatch = true ∨ s.wouldShed p = true then
           { back with state := .doze, causes := ⟨s.wouldShed p, s.csu.thermalLatch, false⟩, counters := dozed }
         else { back with state := .down, orderOn := true, causes := ⟨false, false, false⟩, wakePending := false }) ∧
      Instr.released id ∈ t.mail ∧ OnlyIn [.ports, .mail, .scu, .txs, .cbm, .lwu, .mga, .pbu] s t) ∧
    (r.state = .test → r.transfer = none → r.position = .testing → ∃ t, exec (.release p) s = .next t ∧
      t.port p =
        { r with
          testClosedCmd := false, position := .normal, transfer := some ⟨.back, .gap, s.now + s.settings.transferGap * 1000⟩
          heldOrder := some .release } ∧
      OtherPorts p s t ∧ OnlyIn [.ports, .mail] s t) ∧
    (r.state = .test → r.transfer ≠ none → ∃ t, exec (.release p) s = .next t ∧
      t.port p = { r with heldOrder := some .release } ∧ OtherPorts p s t ∧ OnlyIn [.ports, .mail] s t) ∧
    (r.state ≠ .test → ∃ t, exec (.release p) s = .next t ∧ OnlyIn [.mail] s t)

/-- PORT_ENABLE and PORT_DISABLE by the port's state (R18, R21, R22); each is refused BAD_PARAM for a port outside L0..L15. A PORT_ENABLE of a
DISABLED port whose restoring transfer still runs lets the transfer run, and the transceiver stays off until its end. The model's own: the list of
messages (log 1), a directive that comes alone (log 3), a return that ends in DOZE (log 60). -/
def Obligations.EnableAndDisable : Prop :=
  ∀ (o : Origin) (p : Port) (s : State), s.mayChange o →
    let r := s.port p
    let off : PortRecord := { r with orderOn := false, rates := none, idleTimer := none }
    (s.comesUp o 0x10#8 [portOctet p] →
      (r.state = .held ∨ (r.state = .disabled ∧ r.held.any = true) → ∃ t, exec (.portEnable o [portOctet p]) s = .next t ∧
        Answered 0x10#8 .faultLatched [] s t ∧ t.besideDirective = s.besideDirective) ∧
      (r.state = .disabled → r.held.any = false → r.transfer = none → r.position = .normal →
        ∃ t, exec (.portEnable o [portOctet p]) s = .next t ∧ Answered 0x10#8 .done [] s t ∧ t.lwu.armed = true ∧
          t.port p =
            (if s.csu.thermalLatch = true ∨ s.wouldShed p = true then
               { off with
                 state := .doze, causes := ⟨s.wouldShed p, s.csu.thermalLatch, false⟩, wakePending := false
                 counters := { r.counters with dozes := plusOne r.counters.dozes } }
             else { off with state := .down, orderOn := true, causes := ⟨false, false, false⟩, wakePending := false })) ∧
      (r.Sound → r.state = .disabled → r.held.any = false → r.transfer ≠ none →
        ∃ t, exec (.portEnable o [portOctet p]) s = .next t ∧ Answered 0x10#8 .done [] s t ∧ t.lwu.armed = true ∧
          t.port p = s.inService p { off with wakePending := false } ∧ (t.port p).transfer = r.transfer ∧ (t.port p).orderOn = false) ∧
      (r.state = .test → r.returnTarget = some .disabled → ∃ t, exec (.portEnable o [portOctet p]) s = .next t ∧
        Answered 0x10#8 .done [] s t ∧ t.port p = { off with returnTarget := some .down } ∧ OtherPorts p s t) ∧
      (r.state = .down ∨ r.state = .training ∨ r.state = .up ∨ r.state = .doze ∨ (r.state = .test ∧ r.returnTarget = some .down) →
        ∃ t, exec (.portEnable o [portOctet p]) s = .next t ∧ Answered 0x10#8 .done [] s t ∧ t.ports = s.ports)) ∧
    (s.comesUp o 0x11#8 [portOctet p] →
      (r.state = .down ∨ r.state = .training ∨ r.state = .up ∨ r.state = .doze → ∃ t, exec (.portDisable o [portOctet p]) s = .next t ∧
        Answered 0x11#8 .done [] s t ∧ t.port p = { off with state := .disabled, causes := ⟨false, false, false⟩, wakePending := false } ∧
        OtherPorts p s t) ∧
      (r.state = .held → ∃ t, exec (.portDisable o [portOctet p]) s = .next t ∧ Answered 0x11#8 .done [] s t ∧
        t.port p = { off with state := .disabled, returnTarget := none } ∧ OtherPorts p s t) ∧
      (r.state = .test → ∃ t, exec (.portDisable o [portOctet p]) s = .next t ∧ Answered 0x11#8 .done [] s t ∧
        t.port p = { off with returnTarget := some .disabled, causes := ⟨false, false, false⟩, wakePending := false } ∧
        (∀ id, r.testRef = some id → Instr.portDisabledReport id ∈ t.mail) ∧ OtherPorts p s t) ∧
      (r.state = .disabled → ∃ t, exec (.portDisable o [portOctet p]) s = .next t ∧ Answered 0x11#8 .done [] s t ∧
        t.besideDirective = s.besideDirective)) ∧
    ∀ x : Octet, 16 ≤ x.toNat →
      (s.comesUp o 0x10#8 [x] → Refused (.portEnable o [x]) 0x10#8 .badParam s) ∧
        (s.comesUp o 0x11#8 [x] → Refused (.portDisable o [x]) 0x11#8 .badParam s)

/-- Both directives are refused BAD_PARAM for a port outside L0..L15. PORT_CLEAR (R9, R13): WRONG_STATE, STILL_PRESENT, or the held reasons emptied
and a restoring transfer started, the port leaving HELD toward its return target. PORT_WAKE (R15, R16): WRONG_STATE outside DOZE and TEST; it takes
IDLE out of the causes, and then the port returns to service, or wake pending becomes yes, or a port in TEST stays as it is. The model's own: the
clock (log 2), a directive that comes alone (log 3), a return from DOZE into DOZE counts a doze (log 17). -/
def Obligations.ClearAndWake : Prop :=
  (∀ (o : Origin) (p : Port) (s : State), (s.port p).Sound → s.mayChange o → s.comesUp o 0x12#8 [portOctet p] →
    let r := s.port p
    let held : Prop := r.state = .held ∨ (r.state = .disabled ∧ r.held.any = true)
    let present : Prop := r.lineClosedSense = true ∨ r.testClosedSense = true ∨ (s.lwu.records.get p).hazardDeclared = true
    let cleared : PortRecord :=
      { r with
        held := ⟨false, false⟩, lineClosedCmd := true, testClosedCmd := false, position := .normal, returnTarget := none
        transfer := some ⟨.restoring, .settle, s.now + s.settings.relaySettle * 1000⟩, orderOn := false, rates := none, idleTimer := none }
    (¬held → ∃ t, exec (.portClear o [portOctet p]) s = .next t ∧ Answered 0x12#8 .wrongState [] s t ∧
      t.besideDirective = s.besideDirective) ∧
    (held → present → ∃ t, exec (.portClear o [portOctet p]) s = .next t ∧ Answered 0x12#8 .stillPresent [] s t ∧
      t.besideDirective = s.besideDirective) ∧
    (held → ¬present → ∃ t, exec (.portClear o [portOctet p]) s = .next t ∧ Answered 0x12#8 .done [] s t ∧
      (∀ f ∈ t.mga.faults, f.source = .line p → f.kind = .relayMismatch ∨ f.kind = .hazard → f.active = false) ∧
      (r.state = .held → r.returnTarget = some .disabled → t.port p = { cleared with state := .disabled }) ∧
      (r.state = .held → r.returnTarget = some .down →
        t.port p =
          (if s.csu.thermalLatch = true ∨ s.wouldShed p = true then
             { cleared with
               state := .doze, causes := ⟨s.wouldShed p, s.csu.thermalLatch, false⟩, wakePending := false
               counters := { r.counters with dozes := plusOne r.counters.dozes } }
           else { cleared with state := .down, causes := ⟨false, false, false⟩, wakePending := false })) ∧
      (r.state = .disabled → t.port p = { cleared with returnTarget := r.returnTarget }) ∧
      t.ptc = s.ptc ∧ t.msu = s.msu ∧ t.csu = s.csu ∧ t.settings = s.settings ∧ t.fcl = s.fcl)) ∧
  (∀ (o : Origin) (x : Octet) (s : State), s.mayChange o → 16 ≤ x.toNat →
    (s.comesUp o 0x12#8 [x] → Refused (.portClear o [x]) 0x12#8 .badParam s) ∧
      (s.comesUp o 0x13#8 [x] → Refused (.portWake o [x]) 0x13#8 .badParam s)) ∧
  ∀ (o : Origin) (p : Port) (s : State), s.mayChange o → s.comesUp o 0x13#8 [portOctet p] →
    let r := s.port p
    let off : PortRecord := { r with orderOn := false, rates := none, idleTimer := none }
    let left : DozeCauses := ⟨r.causes.shed, r.causes.thermal, false⟩
    (r.state ≠ .doze → r.state ≠ .test → ∃ t, exec (.portWake o [portOctet p]) s = .next t ∧ Answered 0x13#8 .wrongState [] s t ∧
      t.besideDirective = s.besideDirective) ∧
    (r.state = .doze ∨ r.state = .test → r.causes.shed = true ∨ r.causes.thermal = true →
      ∃ t, exec (.portWake o [portOctet p]) s = .next t ∧ Answered 0x13#8 .done [] s t ∧
        t.port p = { off with causes := left, wakePending := true } ∧ OtherPorts p s t) ∧
    (r.state = .test → r.causes.shed = false → r.causes.thermal = false → ∃ t, exec (.portWake o [portOctet p]) s = .next t ∧
      Answered 0x13#8 .done [] s t ∧ t.port p = { off with causes := left } ∧ OtherPorts p s t) ∧
    (r.state = .doze → r.causes = ⟨false, false, true⟩ → r.transfer = none → r.position = .normal →
      ∃ t, exec (.portWake o [portOctet p]) s = .next t ∧ Answered 0x13#8 .done [] s t ∧
        t.port p =
          (if s.csu.thermalLatch = true ∨ s.wouldShed p = true then
             { off with
               state := .doze, causes := ⟨s.wouldShed p, s.csu.thermalLatch, false⟩, wakePending := false
               counters := { r.counters with dozes := plusOne r.counters.dozes } }
           else { off with state := .down, orderOn := true, causes := ⟨false, false, false⟩, wakePending := false }))


/-! ## Frames (02, 03) -/

/-- FRAME_START and CELL_REQUEST (R47, R49, R50, R51): a frame from a line or the uplink takes its first cell or is dropped POOL_FULL; a later cell
comes from what its area has free, above the express reserve for a bulk frame, or the frame is dropped and its cells return; a craft frame takes none.
A new cell is the last of the frame's list (R52) and, as long as a cell is free, one that no frame held. The model's own: the numbers of the cells and
which free one is taken (log 8), a request of cells without effect (log 19, log 40), craft frames (log 23). -/
def Obligations.FramesTakeCells : Prop :=
  ∀ (src : Source) (a : Area) (s : State), (∃ p, src = .line p) ∧ a = .upstream ∨ src = .uplink ∧ a = .downstream →
    let free (c : Nat) : Prop := c < 4032 ∧ c ∉ s.heldCells
    let fresh (c : Nat) : Prop := (∃ c, free c) → free c
    (s.reception src = none → 1 ≤ s.areaFree a → ∃ t, exec (.frameStart src) s = .next t ∧
      (∃ c, fresh c ∧ t.reception src = some ⟨none, none, none, none, none, [c]⟩) ∧ t.areaHeld a = s.areaHeld a + 1 ∧
      ReceptionOnly src s t ∧ HeldOnly a s t ∧ OnlyIn [.fcl, .cbm] s t) ∧
    (s.reception src = none → s.areaFree a = 0 → ∃ t, exec (.frameStart src) s = .next t ∧
      t.reception src = some ⟨none, some .poolFull, none, none, none, []⟩ ∧ ReceptionOnly src s t ∧ OnlyIn [.fcl] s t) ∧
    (∀ r h need, s.reception src = some r → r.header = some h → r.dropped = none → r.cells.length < 13 →
      need = (if r.result.bind (·.cls) = some .bulk then s.settings.expressReserve + 1 else 1) →
      (need ≤ s.areaFree a → ∃ t, exec (.cellRequest src) s = .next t ∧
        (∃ c, fresh c ∧ t.reception src = some { r with cells := r.cells ++ [c] }) ∧
        t.areaHeld a = s.areaHeld a + 1 ∧ ReceptionOnly src s t ∧ HeldOnly a s t ∧ OnlyIn [.fcl, .cbm] s t) ∧
      (s.areaFree a < need → ∃ t, exec (.cellRequest src) s = .next t ∧
        t.reception src = some { r with dropped := some .poolFull, cells := [] } ∧ t.areaHeld a = s.areaHeld a - r.cells.length ∧
        ReceptionOnly src s t ∧ HeldOnly a s t ∧ OnlyIn [.fcl, .cbm] s t)) ∧
    (∀ r, s.reception src = some r → exec (.frameStart src) s = .next s ∧
      (r.dropped ≠ none ∨ 13 ≤ r.cells.length → exec (.cellRequest src) s = .next s)) ∧
    (s.reception .craft = none → s.craftAlive = true → ∃ t, exec (.frameStart .craft) s = .next t ∧
      t.reception .craft = some ⟨none, none, none, none, none, []⟩ ∧
      ReceptionOnly .craft { s with fcl := { s.fcl with staleHeader := false } } t ∧ OnlyIn [.fcl] s t) ∧
    (s.reception .craft = none → s.craftAlive = false →
      exec (.frameStart .craft) s = .next { s with fcl := { s.fcl with staleHeader := true } }) ∧
    (∀ r, s.reception .craft = some r → exec (.frameStart .craft) s = .next s) ∧
    exec (.cellRequest .craft) s = .next s

/-- A header's octets (R25): with 0x8100 at octets 13 and 14 the frame is tagged and its ethertype follows the outer tag; with anything else it is
untagged and they are its ethertype. UPSTREAM_HEADER (R27, R30, R31, R32, R35, R50): the agent ethertype, no usable VID, no entry and DROP drop the
frame, which then holds no cell; a FORWARD or RETAG entry gives it its class, egress VID and queue, and a bulk frame below the express reserve is
dropped POOL_FULL. The model's own: the places in a tag's two octets (log 59). -/
def Obligations.UpstreamHeaderClassifies : Prop :=
  (∀ o : HeaderOctets,
    (o.typeOctets = 0x8100#16 →
      HeaderOctets.read o =
        ⟨o.destination, o.source, some ⟨BitVec.ofNat 3 (o.tagControl.toNat / 8192), decide (o.tagControl.toNat / 4096 % 2 = 1),
          BitVec.ofNat 12 (o.tagControl.toNat % 4096)⟩, o.innerType⟩) ∧
      (o.typeOctets ≠ 0x8100#16 → HeaderOctets.read o = ⟨o.destination, o.source, none, o.typeOctets⟩)) ∧
  ∀ (p : Port) (o : HeaderOctets) (r : Reception) (s : State), s.reception (.line p) = some r → r.header = none → r.dropped = none →
    let h : FrameHeader := HeaderOctets.read o
    let tagVid := match h.tag with | some t => t.vid.toNat | none => 0
    let priority := match h.tag with | some t => t.priority | none => 0#3
    let vid : Option Nat := if tagVid = 0 then (s.sub p).defaultVid else some tagVid
    let entry (v : Nat) : Option FlowEntry := Bank.lookup s.fcl.active .up (some p) v
    let frame (t : State) : Prop := ReceptionOnly (.line p) s t ∧ HeldOnly .upstream s t ∧ OnlyIn [.fcl, .cbm] s t
    let dropped (why : DropReason) (hit : Option Nat) : Prop :=
      ∃ t, exec (.upstreamHeader p o) s = .next t ∧
        t.reception (.line p) = some { r with header := some h, hit := hit, dropped := some why, cells := [] } ∧
        t.areaHeld .upstream = s.areaHeld .upstream - r.cells.length ∧ frame t
    (h.ethertype = 0x88B5#16 → dropped .agentFromLine r.hit) ∧
    (h.ethertype ≠ 0x88B5#16 → vid = none → dropped .untagged r.hit) ∧
    (∀ v, h.ethertype ≠ 0x88B5#16 → vid = some v → entry v = none → dropped .noEntry r.hit) ∧
    (∀ v e, h.ethertype ≠ 0x88B5#16 → vid = some v → entry v = some e → e.action = .drop → dropped .actionDrop (some e.stamp)) ∧
    (∀ v e, h.ethertype ≠ 0x88B5#16 → vid = some v → entry v = some e → e.action = .forward ∨ e.action = .retag →
      let cls : FrameClass :=
        match e.classMode with
        | .express => .express
        | .bulk => .bulk
        | .byPriority => if (s.sub p).classThreshold ≤ priority.toNat then .express else .bulk
      let result : Result :=
        { action := e.action, destination := .uplink, cls := some cls, egressVid := if e.action = .retag then e.retagVid.getD v else v
          insertTag := h.tag.isNone, priority := priority }
      let short : Prop := cls = .bulk ∧ s.areaFree .upstream < s.settings.expressReserve
      ∃ t, exec (.upstreamHeader p o) s = .next t ∧ frame t ∧
        (¬short → t.reception (.line p) =
          some { r with
            header := some h, hit := some e.stamp, result := some result
            queue := some (match cls with | .express => .ux p | .bulk => .ub p) } ∧ t.cbm = s.cbm) ∧
        (short → t.reception (.line p) =
          some { r with
            header := some h, hit := some e.stamp, result := some result, queue := some (.ub p), dropped := some .poolFull
            cells := [] } ∧ t.areaHeld .upstream = s.areaHeld .upstream - r.cells.length))

/-- DOWNSTREAM_HEADER and CRAFT_HEADER (R25, R28, R29, R31, R33, R34, R50): a frame without a VID or without an entry is dropped, a FORWARD or RETAG
entry queues it for its target by the target's class threshold, a bulk frame below the express reserve being dropped POOL_FULL, and an AGENT entry
binds it for the agent; a craft frame that is no agent frame, or that meets a full store, is dropped. A header of no frame in reception has no effect;
that of a craft frame which a reset or a loss of craft power took out of reception is discarded and starts none (R62, R168), and any other header from
a craft port that is alive starts its frame. The model's own: a header of no frame (log 19), craft frames (log 23), NOT_AGENT before STORE_BUSY (log
34). -/
def Obligations.DownstreamAndCraftHeaders : Prop :=
  (∀ (o : HeaderOctets) (r : Reception) (s : State), s.reception .uplink = some r → r.header = none → r.dropped = none →
    let h : FrameHeader := HeaderOctets.read o
    let tagVid := match h.tag with | some t => t.vid.toNat | none => 0
    let priority := match h.tag with | some t => t.priority | none => 0#3
    let entry : Option FlowEntry := Bank.lookup s.fcl.active .down none tagVid
    let frame (t : State) : Prop := ReceptionOnly .uplink s t ∧ HeldOnly .downstream s t ∧ OnlyIn [.fcl, .cbm] s t
    let dropped (why : DropReason) (hit : Option Nat) : Prop :=
      ∃ t, exec (.downstreamHeader o) s = .next t ∧
        t.reception .uplink = some { r with header := some h, hit := hit, dropped := some why, cells := [] } ∧
        t.areaHeld .downstream = s.areaHeld .downstream - r.cells.length ∧ frame t
    (tagVid = 0 → dropped .untagged r.hit) ∧
    (tagVid ≠ 0 → entry = none → dropped .noEntry r.hit) ∧
    (∀ e, tagVid ≠ 0 → entry = some e → e.action = .drop → dropped .actionDrop (some e.stamp)) ∧
    (∀ e, tagVid ≠ 0 → entry = some e → e.action = .agent → ∃ t, exec (.downstreamHeader o) s = .next t ∧ frame t ∧
      t.reception .uplink =
        some { r with
          header := some h, hit := some e.stamp, queue := none
          result := some ⟨.agent, .agent, none, tagVid, false, priority⟩ } ∧ t.cbm = s.cbm) ∧
    (∀ e q, tagVid ≠ 0 → entry = some e → e.target = some q → e.action = .forward ∨ e.action = .retag →
      let cls : FrameClass :=
        match e.classMode with
        | .express => .express
        | .bulk => .bulk
        | .byPriority => if (s.sub q).classThreshold ≤ priority.toNat then .express else .bulk
      let result : Result := ⟨e.action, .line q, some cls, if e.action = .retag then e.retagVid.getD tagVid else tagVid, false, priority⟩
      let short : Prop := cls = .bulk ∧ s.areaFree .downstream < s.settings.expressReserve
      ∃ t, exec (.downstreamHeader o) s = .next t ∧ frame t ∧
        (¬short → t.reception .uplink =
          some { r with
            header := some h, hit := some e.stamp, result := some result
            queue := some (match cls with | .express => .dx q | .bulk => .db q) } ∧ t.cbm = s.cbm) ∧
        (short → t.reception .uplink =
          some { r with
            header := some h, hit := some e.stamp, result := some result, queue := some (.db q), dropped := some .poolFull
            cells := [] } ∧ t.areaHeld .downstream = s.areaHeld .downstream - r.cells.length))) ∧
  ∀ (o : HeaderOctets) (s : State),
    let h : FrameHeader := HeaderOctets.read o
    let received (r : Reception) : Prop :=
      ∃ t, exec (.craftHeader o) s = .next t ∧ ReceptionOnly .craft s t ∧ OnlyIn [.fcl] s t ∧
        t.reception .craft =
          some { r with
            header := some h
            dropped :=
              if h.ethertype ≠ 0x88B5#16 then some .notAgent else if s.mga.craftStore ≠ none then some .storeBusy else none }
    (∀ r, s.reception .craft = some r → r.header = none → received r) ∧
    (s.reception .craft = none → s.fcl.staleHeader = true →
      exec (.craftHeader o) s = .next { s with fcl := { s.fcl with staleHeader := false } }) ∧
    (s.reception .craft = none → s.fcl.staleHeader = false → s.craftAlive = true → received ⟨none, none, none, none, none, []⟩) ∧
    (s.reception .craft = none → s.fcl.staleHeader = false → s.craftAlive = false → exec (.craftHeader o) s = .next s) ∧
    (s.reception .uplink = none → exec (.downstreamHeader o) s = .next s) ∧
    ∀ p, s.reception (.line p) = none → exec (.upstreamHeader p o) s = .next s

/-- FRAME_END of a frame that is too short, too long or has a wrong FCS (R25): its cells return, its reception is over, it is counted LENGTH before
FCS for its link alone, and nothing else follows; with no frame in reception there is no check and no count, as for one that a reset has discarded
(R62). The model's own: length and FCS are operands (log 9, log 10), an end that finds no frame (log 19), a header without its frame (log 23). -/
def Obligations.BadFramesAreCounted : Prop :=
  ∀ (p : Port) (length : Nat) (good : Bool) (payload : List Octet) (r : Reception) (s : State),
    let bad : Prop := length < 64 ∨ 1664 < length
    (s.reception (.line p) = some r → bad ∨ good = false → ∃ t, exec (.frameEnd (.line p) length good payload) s = .next t ∧
      t.cbm.upHeld = s.cbm.upHeld - r.cells.length ∧ HeldOnly .upstream s t ∧ OnlyIn [.fcl, .cbm] s t ∧
      (let d := s.fcl.lineDrops.get p
       (bad → t.fcl =
         { s.fcl with rxLine := s.fcl.rxLine.set p none, lineDrops := s.fcl.lineDrops.set p { d with length := plusOne d.length } }) ∧
       (¬bad → t.fcl =
         { s.fcl with rxLine := s.fcl.rxLine.set p none, lineDrops := s.fcl.lineDrops.set p { d with fcs := plusOne d.fcs } }))) ∧
    (s.reception .uplink = some r → bad ∨ good = false → ∃ t, exec (.frameEnd .uplink length good payload) s = .next t ∧
      t.cbm.downHeld = s.cbm.downHeld - r.cells.length ∧ HeldOnly .downstream s t ∧ OnlyIn [.fcl, .cbm] s t ∧
      (let d := s.fcl.uplinkDrops
       (bad → t.fcl = { s.fcl with rxUplink := none, uplinkDrops := { d with length := plusOne d.length } }) ∧
       (¬bad → t.fcl = { s.fcl with rxUplink := none, uplinkDrops := { d with fcs := plusOne d.fcs } }))) ∧
    (s.reception .craft = some r → bad ∨ good = false → ∃ t, exec (.frameEnd .craft length good payload) s = .next t ∧
      OnlyIn [.fcl] s t ∧
      (let d := s.fcl.craftDrops
       (bad → t.fcl = { s.fcl with rxCraft := none, craftDrops := { d with length := plusOne d.length } }) ∧
       (¬bad → t.fcl = { s.fcl with rxCraft := none, craftDrops := { d with fcs := plusOne d.fcs } }))) ∧
    (∀ src, src ≠ .craft → s.reception src = none → exec (.frameEnd src length good payload) s = .next s) ∧
    (s.reception .craft = none →
      exec (.frameEnd .craft length good payload) s = .next { s with fcl := { s.fcl with staleHeader := false } })

/-- FRAME_END of a good line frame (R17, R24, R25, R26, R31, R55, R56): it counts in the port's rx counters, restarts its idle timer in UP, and
counts at the entry it hit; one dropped on the way counts its reason; one with its queue is dropped NOT_UP by a port out of UP and QUEUE_FULL
without room, and otherwise joins the tail of its queue, its port is active, and the arbiter makes its choice (R87, R88). A good downstream frame is
counted, dropped and admitted in the same way, its line's transmitter making its choice (R94). The model's own: the clock (log 2), length and
payload are operands (log 10), which entry a frame hit (log 20). -/
def Obligations.GoodFramesAreAdmitted : Prop :=
  ∀ (p : Port) (express : Bool) (length : Nat) (payload : List Octet) (r : Reception) (h : FrameHeader) (res : Result) (s : State),
    64 ≤ length → length ≤ 1664 →
    let up : QueueId := if express then .ux p else .ub p
    let down : QueueId := if express then .dx p else .db p
    let cap : Nat := if express then (s.sub p).expressCap else (s.sub p).bulkCap
    let d (src : DescriptorSource) (q : QueueId) : Descriptor :=
      { length := length, cells := r.cells, source := src, result := some res, queue := q, image := ⟨h, payload, false⟩, agentKind := none }
    let full (q : QueueId) : Prop := cap < cellsOf (s.queue q) + r.cells.length
    let idleTimer : Option Nat :=
      if (s.port p).state = .up ∧ (s.sub p).idleDoze ≠ 0 then some (s.now + (s.sub p).idleDoze * 1000000) else (s.port p).idleTimer
    let counted (t : State) : Prop :=
      t.port p =
        { s.port p with
          idleTimer := idleTimer
          counters := { (s.port p).counters with
            rxFrames := (s.port p).counters.rxFrames + 1#32
            rxOctets := (s.port p).counters.rxOctets + BitVec.ofNat 32 length } } ∧
      OtherPorts p s t ∧ HitCounted r s t
    let joins (q : QueueId) (d : Descriptor) (u : State) : Prop :=
      u.queue q = s.queue q ++ [d] ∧ (∀ other, other ≠ q → u.queue other = s.queue other) ∧
        u.cbm = { s.cbm with queues := u.cbm.queues } ∧ u.txs = s.txs
    (∀ why, s.reception (.line p) = some r → r.dropped = some why → ∃ t, exec (.frameEnd (.line p) length true payload) s = .next t ∧
      t.reception (.line p) = none ∧ counted t ∧ t.cbm.upHeld = s.cbm.upHeld ∧ t.cbm.queues = s.cbm.queues ∧
      (why = .untagged → (t.fcl.lineDrops.get p).untagged = plusOne (s.fcl.lineDrops.get p).untagged) ∧
      (why = .noEntry → (t.fcl.lineDrops.get p).noEntry = plusOne (s.fcl.lineDrops.get p).noEntry) ∧
      (why = .actionDrop → (t.fcl.lineDrops.get p).actionDrop = plusOne (s.fcl.lineDrops.get p).actionDrop) ∧
      (why = .agentFromLine → (t.fcl.lineDrops.get p).agentFromLine = plusOne (s.fcl.lineDrops.get p).agentFromLine) ∧
      (why = .poolFull → (t.cbm.drops.get p).poolFullUp = plusOne (s.cbm.drops.get p).poolFullUp) ∧
      OnlyIn [.ports, .fcl, .cbm] s t) ∧
    (s.reception (.line p) = some r → r.header = some h → r.dropped = none → r.result = some res → r.queue = some up →
      ∃ t, exec (.frameEnd (.line p) length true payload) s = .next t ∧ t.reception (.line p) = none ∧ counted t ∧
        OnlyIn [.ports, .fcl, .cbm, .scu, .txs] s t ∧
        ((s.port p).state ≠ .up → t.cbm.upHeld = s.cbm.upHeld - r.cells.length ∧ t.cbm.queues = s.cbm.queues ∧
          (t.cbm.drops.get p).notUpUp = plusOne (s.cbm.drops.get p).notUpUp) ∧
        ((s.port p).state = .up → full up → t.cbm.upHeld = s.cbm.upHeld - r.cells.length ∧ t.cbm.queues = s.cbm.queues ∧
          (t.cbm.drops.get p).queueFullUp = plusOne (s.cbm.drops.get p).queueFullUp) ∧
        ((s.port p).state = .up → ¬full up →
          t.cbm.upHeld = s.cbm.upHeld ∧ t.scu.activity.get p = some (s.now + s.settings.activityWindow * 1000) ∧
            (s.scu.activity.get p = none → t.scu.computation.isSome) ∧ t.scu.linkUp = s.scu.linkUp ∧
            (s.uplinkMayStart = false → t.queue up = s.queue up ++ [d (.line p) up]) ∧
            ∃ u, joins up (d (.line p) up) u ∧ u.UplinkChosen t)) ∧
    (∀ why, s.reception .uplink = some r → r.dropped = some why → ∃ t, exec (.frameEnd .uplink length true payload) s = .next t ∧
      t.reception .uplink = none ∧ HitCounted r s t ∧ t.cbm.downHeld = s.cbm.downHeld ∧ t.cbm.queues = s.cbm.queues ∧
      (why = .untagged → t.fcl.uplinkDrops = { s.fcl.uplinkDrops with untagged := plusOne s.fcl.uplinkDrops.untagged }) ∧
      (why = .noEntry → t.fcl.uplinkDrops = { s.fcl.uplinkDrops with noEntry := plusOne s.fcl.uplinkDrops.noEntry }) ∧
      (why = .actionDrop → t.fcl.uplinkDrops = { s.fcl.uplinkDrops with actionDrop := plusOne s.fcl.uplinkDrops.actionDrop }) ∧
      (why = .poolFull → r.queue = none → t.cbm.uplinkPoolFull = plusOne s.cbm.uplinkPoolFull) ∧
      (why = .poolFull → r.queue = some down → (t.cbm.drops.get p).poolFullDown = plusOne (s.cbm.drops.get p).poolFullDown) ∧
      OnlyIn [.fcl, .cbm] s t) ∧
    (s.reception .uplink = some r → r.header = some h → r.dropped = none → r.result = some res → r.queue = some down →
      ∃ t, exec (.frameEnd .uplink length true payload) s = .next t ∧ t.reception .uplink = none ∧ OtherPorts p s t ∧ HitCounted r s t ∧
        OnlyIn [.ports, .fcl, .cbm, .txs] s t ∧
        ((s.port p).state ≠ .up → t.cbm.downHeld = s.cbm.downHeld - r.cells.length ∧ t.cbm.queues = s.cbm.queues ∧
          (t.cbm.drops.get p).notUpDown = plusOne (s.cbm.drops.get p).notUpDown ∧ t.ports = s.ports) ∧
        ((s.port p).state = .up → full down → t.cbm.downHeld = s.cbm.downHeld - r.cells.length ∧ t.cbm.queues = s.cbm.queues ∧
          (t.cbm.drops.get p).queueFullDown = plusOne (s.cbm.drops.get p).queueFullDown ∧ t.ports = s.ports) ∧
        ((s.port p).state = .up → ¬full down →
          t.cbm.downHeld = s.cbm.downHeld ∧ t.port p = { s.port p with idleTimer := idleTimer } ∧
            (s.txs.lineTx.get p ≠ none → t.queue down = s.queue down ++ [d .uplink down] ∧ t.txs = s.txs) ∧
            ∃ u, joins down (d .uplink down) u ∧ u.LineChosen p t))

/-- FRAME_END of a good frame for the agent (R29, R34, R176): from the uplink its cells return, a free store takes it, a full one rejects and counts
it; from the craft port its store takes it; a dropped craft frame counts its reason. A frame that enters a store is taken in at once while the agent
is IDLE and no reset waits. The model's own: the list of messages (log 1), length and payload are operands (log 10). -/
def Obligations.AgentFramesReachTheirStore : Prop :=
  ∀ (length : Nat) (payload : List Octet) (r : Reception) (h : FrameHeader) (s : State), 64 ≤ length → length ≤ 1664 →
    let idle : Prop := s.mga.exec = .idle ∧ s.mga.resetWait = .none
    (∀ res, s.reception .uplink = some r → r.header = some h → r.dropped = none → r.result = some res → r.queue = none →
      ∃ t, exec (.frameEnd .uplink length true payload) s = .next t ∧ t.reception .uplink = none ∧
        t.cbm.downHeld = s.cbm.downHeld - r.cells.length ∧ HeldOnly .downstream s t ∧ OnlyIn [.fcl, .cbm, .mga, .mail] s t ∧
        (s.mga.uplinkStore ≠ none → t.mga = { s.mga with rejected := plusOne s.mga.rejected } ∧ t.mail = s.mail) ∧
        (s.mga.uplinkStore = none →
          t.mga = { s.mga with uplinkStore := some ⟨.uplink, h.source, res.egressVid, h.ethertype, payload⟩ } ∧
            (idle → Instr.agentFrameTakeIn ∈ t.mail))) ∧
    (s.reception .craft = some r → r.header = some h → r.dropped = none →
      ∃ t, exec (.frameEnd .craft length true payload) s = .next t ∧ t.reception .craft = none ∧
        t.mga = { s.mga with craftStore := some ⟨.craft, h.source, 0, h.ethertype, payload⟩ } ∧
        (idle → Instr.agentFrameTakeIn ∈ t.mail) ∧ OnlyIn [.fcl, .mga, .mail] s t) ∧
    (∀ why, s.reception .craft = some r → r.dropped = some why →
      ∃ t, exec (.frameEnd .craft length true payload) s = .next t ∧ t.reception .craft = none ∧ OnlyIn [.fcl] s t ∧
        (why = .notAgent → t.fcl.craftDrops = { s.fcl.craftDrops with notAgent := plusOne s.fcl.craftDrops.notAgent }) ∧
        (why = .storeBusy → t.fcl.craftDrops = { s.fcl.craftDrops with storeBusy := plusOne s.fcl.craftDrops.storeBusy }))

/-! ## Shares (04) -/

/-- Stages 0 and 1 of a computation and its overcommitted case (R70, R71, R72): the usable capacity, the ceilings and floors, the test F ≥ C and F >
0, and every floor scaled by C / F, rounded down, with the spare what the rounding leaves. -/
def Obligations.FloorsAreScaledWhenOvercommitted : Prop :=
  ∀ n : Snapshot, n.Sound → n.cUp ≤ 1000000 → (∀ c ∈ n.claims, c.peak ≤ 1000000) →
    let usable : Nat := ((max 0 ((n.cUp : Int) - n.reserve)) * n.usablePercent / 100).toNat
    let ceiling (c : Claim) : Nat := min c.peak c.trained
    let floor (c : Claim) : Nat := min c.committed (ceiling c)
    let floors : Nat := (n.claims.map floor).sum
    let entry (c : Claim) : ShareEntry := n.compute.entryOf c.port
    let given : Nat := (n.claims.map fun c => (entry c).grant).sum
    n.usable = usable ∧ usable ≤ 1000000 ∧ (n.cUp ≤ n.reserve → usable = 0) ∧
      (n.cUp = 10000 → n.reserve = 256 → n.usablePercent = 95 → usable = 9256) ∧
      n.floors = floors ∧ floors ≤ 16000000 ∧
      (∀ c ∈ n.claims, (entry c).ceiling = ceiling c ∧ (entry c).floor = floor c ∧
        (c.peak = 0 → (entry c).ceiling = 0 ∧ (entry c).floor = 0 ∧ (entry c).grant = 0)) ∧
      (n.compute.outcome = .overcommitted ↔ usable ≤ floors ∧ 0 < floors) ∧
      (usable ≤ floors → 0 < floors →
        (∀ c ∈ n.claims, (entry c).grant = floor c * usable / floors ∧ floor c * usable ≤ 1000000000000 ∧ (entry c).grant ≤ floor c ∧
          (entry c).grant ≤ ceiling c ∧ (entry c).status = .scaled) ∧
        given ≤ usable ∧ n.compute.spare = usable - given ∧
        n.compute.spare ≤ (n.claims.filter fun c => floor c * usable % floors != 0).length - 1 ∧
        (usable = 0 → (∀ c ∈ n.claims, (entry c).grant = 0) ∧ n.compute.spare = 0))

/-- The shares of a computation that is not overcommitted, and every port's entry (R73, R74). The water-filling goes round by round: the remainder is
offered by weight, the ports whose offer reaches their headroom are filled and leave, and a round that fills none gives every offer and ends it, as
does an empty set. Every port gets at least its floor and at most its ceiling; the grants and the spare make up the usable capacity exactly; capacity
is spared only when no port wants more or less is left than the unsaturated ports' weights could share out; of two ports that end below their ceilings
the one of greater weight gains no less; sixteen rounds suffice. The statuses, floors and ceilings are those of every computation, and a departed port
gets none. -/
def Obligations.FilledSharesFit : Prop :=
  ∀ n : Snapshot, n.Sound →
    let entry (c : Claim) : ShareEntry := n.compute.entryOf c.port
    (∀ c ∈ n.claims, (entry c).floor = c.floor ∧ (entry c).ceiling = c.ceiling ∧
      (entry c).status = if n.overcommitted then .scaled else if (entry c).grant = c.ceiling then .saturated else .shared) ∧
    (∀ p, (∀ c ∈ n.claims, c.port ≠ p) → n.compute.entryOf p = ⟨0, 0, 0, .ineligible⟩) ∧
    (∀ (run : Computation) (table : ShareTable) (p : Port), run.snapshot = n →
      (run.install table).entries.get p = if run.departed.get p = true then ⟨0, 0, 0, .ineligible⟩ else n.compute.entryOf p) ∧
    (n.overcommitted = false →
      (∃ (rest : Nat → Nat) (left : Nat → List Claim) (given : Nat → Claim → Nat),
        let last : Nat := n.compute.rounds
        let head (c : Claim) : Nat := c.ceiling - c.floor
        let offer (k : Nat) (c : Claim) : Nat := rest k * c.weight / ((left k).map (·.weight)).sum
        let fills (k : Nat) (c : Claim) : Bool := decide (head c - given k c ≤ offer k c)
        rest 0 = n.usable - n.floors ∧ left 0 = n.claims.filter (fun c => decide (0 < head c)) ∧ (∀ c, given 0 c = 0) ∧
          (∀ k < last, left k ≠ [] ∧
            ((left k).filter (fills k) ≠ [] → left (k + 1) = (left k).filter (fun c => !fills k c) ∧
              rest (k + 1) = rest k - (((left k).filter (fills k)).map fun c => head c - given k c).sum ∧
              ∀ c ∈ n.claims, given (k + 1) c = if c ∈ (left k).filter (fills k) then head c else given k c) ∧
            ((left k).filter (fills k) = [] → k + 1 = last ∧ ((left k).map (offer k)).sum ≤ rest k ∧
              rest (k + 1) = rest k - ((left k).map (offer k)).sum ∧ rest (k + 1) < (left k).length ∧
              ∀ c ∈ n.claims, given (k + 1) c = if c ∈ left k then given k c + offer k c else given k c)) ∧
          (left last = [] ∨ ∃ k, k + 1 = last ∧ (left k).filter (fills k) = []) ∧
          n.compute.spare = rest last ∧ ∀ c ∈ n.claims, (entry c).grant = c.floor + given last c) ∧
      (∀ c ∈ n.claims, c.floor ≤ (entry c).grant ∧ (entry c).grant ≤ c.ceiling ∧
        ((entry c).status = .saturated ↔ (entry c).grant = c.ceiling) ∧ ((entry c).status = .shared ↔ (entry c).grant < c.ceiling)) ∧
      (n.claims.map fun c => (entry c).grant).sum + n.compute.spare = n.usable ∧
      (∀ c ∈ n.claims, (entry c).grant < c.ceiling → n.compute.spare < n.claims.length) ∧
      (∀ c ∈ n.claims, ∀ d ∈ n.claims, (entry c).grant < c.ceiling → (entry d).grant < d.ceiling → c.weight ≤ d.weight →
        (entry c).grant - c.floor ≤ (entry d).grant - d.floor) ∧
      n.compute.rounds ≤ 16 ∧
      (n.claims = [] ∨ n.usable = 0 →
        n.compute.rounds ≤ 1 ∧ (∀ c ∈ n.claims, (entry c).grant = c.floor) ∧ n.compute.spare = n.usable) ∧
      (n.compute.outcome = .shared ↔ ∃ c ∈ n.claims, c.floor < (entry c).grant) ∧
      (n.compute.outcome = .floorOnly ↔ ∀ c ∈ n.claims, (entry c).grant = c.floor))

/-- The events that trigger a computation at the Share Computation Unit (R63, R64, R67, R78): an activity timer's expiry with both queues empty, a
capacity report that counts and differs, and a change of the link state; with a computation running, the trigger is remembered. The model's own: the
clock (log 2), an expiry of a stopped timer (log 19). -/
def Obligations.ShareTriggers : Prop :=
  ∀ (p : Port) (capacity : Nat) (s : State),
    let triggered (t : State) : Prop :=
      match s.scu.computation with
      | none => t.scu.computation = some ⟨t.snapshot, false, Row.all false⟩
      | some c => t.scu.computation = some { c with recompute := true }
    let idle : Prop := s.queue (.ux p) = [] ∧ s.queue (.ub p) = []
    let v := min 1000000 capacity
    let counts : Prop := s.settings.capacitySource = .reported ∧ s.scu.linkUp = true ∧ v ≠ s.scu.latestReport.getD 0
    (s.scu.activity.get p = none → exec (.activityTimerExpiry p) s = .next s) ∧
    (∀ e, s.scu.activity.get p = some e → ∃ t, exec (.activityTimerExpiry p) s = .next t ∧ t.now = max s.now e ∧
      (∀ q, q ≠ p → t.scu.activity.get q = s.scu.activity.get q) ∧ t.scu.table = s.scu.table ∧ OnlyIn [.now, .scu] s t ∧
      (idle → t.scu.activity.get p = none ∧ triggered t) ∧
      (¬idle → t.scu.activity.get p = some (t.now + s.settings.activityWindow * 1000) ∧ t.scu.computation = s.scu.computation)) ∧
    (∃ t, exec (.capacityReport capacity) s = .next t ∧ t.scu.latestReport = some v ∧ OnlyIn [.scu] s t ∧
      t.scu.table = s.scu.table ∧ t.scu.activity = s.scu.activity ∧ (counts → triggered t) ∧
      (¬counts → t.scu.computation = s.scu.computation)) ∧
    exec (.uplinkLinkStateChange s.scu.linkUp) s = .next s ∧
    (s.scu.linkUp = true → ∃ t, exec (.uplinkLinkStateChange false) s = .next t ∧ t.scu.linkUp = false ∧ triggered t ∧
      t.mga.faults = (s.mga.raise .uplink .uplinkDown none s.uptime).1.faults ∧ OnlyIn [.scu, .mga, .cbm, .txs] s t) ∧
    (s.scu.linkUp = false → ∃ t, exec (.uplinkLinkStateChange true) s = .next t ∧ t.scu.linkUp = true ∧ triggered t ∧
      (∀ f ∈ t.mga.faults, f.source = .uplink → f.kind = .uplinkDown → f.active = false) ∧ OnlyIn [.scu, .mga, .cbm, .txs] s t)

/-- A fresh snapshot holds the capacity by the link state and the source, the reserve, the percent, and of each active port its rates and weight
(R64, R69). COMPUTATION_COMPLETE installs the results of its snapshot, a port that departed meanwhile getting none, and starts again from a fresh
snapshot when a trigger came meanwhile; in IDLE it has no effect (R76, R77, R79). An install that changes the OVERCOMMITTED flag raises OVERCOMMIT
with the flag, C, F and the sequence number, and no other install does (R80). SHARE_RECOMPUTE is a trigger: in IDLE a computation of a fresh
snapshot starts, in RUNNING recompute pending becomes yes; it reports the sequence number and which it was (R79, R82). The model's own: the list of
messages (log 1), a directive that comes alone (log 3), a completion in IDLE (log 19), the octet of a yes (log 24), 'started or set pending' as such
an octet (log 25). -/
def Obligations.ComputationsInstall : Prop :=
  (∀ s : State, s.scu.computation = none → exec .computationComplete s = .next s) ∧
  (∀ s : State,
    s.snapshot.cUp =
        (if s.scu.linkUp = true then
           match s.settings.capacitySource with | .reported => s.scu.latestReport.getD 0 | .fixed => s.settings.fixedCapacity
         else 0) ∧
      s.snapshot.reserve = s.settings.agentReserve ∧ s.snapshot.usablePercent = s.settings.usablePercent ∧
      (∀ p, (∃ c ∈ s.snapshot.claims, c.port = p) ↔ s.scu.activity.get p ≠ none) ∧ (s.snapshot.claims.map (·.port)).Pairwise (· < ·) ∧
      ∀ c ∈ s.snapshot.claims, c.committed = (s.sub c.port).committedUp ∧ c.peak = (s.sub c.port).upPeak ∧
        c.weight = max 1 (s.sub c.port).weight ∧ ∀ r, (s.port c.port).rates = some r → c.trained = r.up) ∧
  (∀ (s : State) (c : Computation), s.scu.computation = some c → ∃ t, exec .computationComplete s = .next t ∧
    (∀ p, t.scu.table.entries.get p = if c.departed.get p = true then ⟨0, 0, 0, .ineligible⟩ else c.snapshot.compute.entryOf p) ∧
    t.scu.table.cUp = c.snapshot.cUp ∧ t.scu.table.usable = c.snapshot.usable ∧ t.scu.table.floors = c.snapshot.floors ∧
    t.scu.table.spare = c.snapshot.compute.spare ∧ t.scu.table.outcome = c.snapshot.compute.outcome ∧
    (t.scu.table.overcommitted = true ↔ c.snapshot.compute.outcome = .overcommitted) ∧
    t.scu.table.rounds = c.snapshot.compute.rounds ∧ t.scu.table.sequence = s.scu.table.sequence + 1#16 ∧
    t.scu.computation = (if c.recompute = true then some ⟨s.snapshot, false, Row.all false⟩ else none) ∧
    (t.scu.table.overcommitted ≠ s.scu.table.overcommitted → s.noticeEnabled .overcommit = true → s.mga.destination = none →
      s.mga.notices.length < 32 →
      t.mga.notices =
        s.mga.notices ++
          [⟨.overcommit t.scu.table.overcommitted c.snapshot.usable c.snapshot.floors (s.scu.table.sequence + 1#16), s.uptime⟩]) ∧
    (t.scu.table.overcommitted = s.scu.table.overcommitted ∨ s.noticeEnabled .overcommit = false →
      t.mga = s.mga ∧ t.cbm = s.cbm ∧ t.txs = s.txs) ∧
    t.scu.activity = s.scu.activity ∧ Reported s t ∧ OnlyIn [.scu, .mga, .cbm, .txs] s t) ∧
  ∀ (o : Origin) (s : State), s.comesUp o 0x31#8 [] → ∃ t, exec (.shareRecompute o []) s = .next t ∧
    Answered 0x31#8 .done (num4 s.scu.table.sequence.toNat ++ [if s.scu.computation.isNone then 1 else 0]) s t ∧
    t.scu =
      { s.scu with
        computation :=
          match s.scu.computation with
          | none => some ⟨s.snapshot, false, Row.all false⟩
          | some c => some { c with recompute := true } } ∧
    OnlyIn [.scu, .mga, .mail] s t

/-! ## Scheduling (05) -/

/-- The refills (R83, R84, R93): a bucket gains its rate's bits, the depth cuts, the remainder carries, and the next refill is due a millisecond
later. Each is an event for a choice, made with the new tokens: an upstream refill for the arbiter's (R87, R88), a downstream refill for that of the
port's line transmitter (R94). The model's own: the clock (log 2), the next refill counted from the taking of this one (log 39). -/
def Obligations.BucketsRefill : Prop :=
  ∀ (p : Port) (s : State),
    let refilled (rate burst : Nat) (b : Bucket) : Nat × Nat := (min (max 1664 burst) (b.tokens + (b.remainder + rate) / 8), (b.remainder + rate) % 8)
    let up := s.txs.upBuckets.get p
    let down := s.txs.downBuckets.get p
    let upNew := refilled (s.scu.table.entries.get p).grant (s.sub p).upBurst up
    let downRate : Nat :=
      match (s.port p).state, (s.port p).rates with
      | .up, some r => min (s.sub p).downPeak r.down
      | _, _ => 0
    let downNew := refilled downRate (s.sub p).downBurst down
    (∃ t, exec (.upstreamRefill p) s = .next t ∧ t.now = max s.now up.due ∧ (t.txs.upBuckets.get p).due = t.now + 1000 ∧
      (t.txs.upBuckets.get p).remainder = upNew.2 ∧ (t.txs.upBuckets.get p).tokens ≤ upNew.1 ∧
      (s.uplinkMayStart = false → (t.txs.upBuckets.get p).tokens = upNew.1 ∧ t.cbm = s.cbm ∧
        ∀ q, q ≠ p → t.txs.upBuckets.get q = s.txs.upBuckets.get q) ∧
      t.txs.downBuckets = s.txs.downBuckets ∧ t.txs.lineTx = s.txs.lineTx ∧ OnlyIn [.now, .txs, .cbm] s t ∧
      (let now : Nat := max s.now up.due
       State.UplinkChosen
         { s with now := now, txs := { s.txs with upBuckets := s.txs.upBuckets.set p ⟨upNew.1, upNew.2, now + 1000⟩ } } t)) ∧
    ∃ t, exec (.downstreamRefill p) s = .next t ∧ t.now = max s.now down.due ∧ (t.txs.downBuckets.get p).due = t.now + 1000 ∧
      (t.txs.downBuckets.get p).remainder = downNew.2 ∧ (t.txs.downBuckets.get p).tokens ≤ downNew.1 ∧
      (s.txs.lineTx.get p ≠ none → (t.txs.downBuckets.get p).tokens = downNew.1 ∧ t.cbm = s.cbm) ∧
      (∀ q, q ≠ p → t.txs.downBuckets.get q = s.txs.downBuckets.get q) ∧ t.txs.upBuckets = s.txs.upBuckets ∧
      OnlyIn [.now, .txs, .cbm] s t ∧
      (let now : Nat := max s.now down.due
       State.LineChosen p
         { s with now := now, txs := { s.txs with downBuckets := s.txs.downBuckets.set p ⟨downNew.1, downNew.2, now + 1000⟩ } } t)

/-- The arbiter's choice (R86, R87, R88, R89), as the end of a pause and a link that comes up bring it (R63, R91): nothing while the uplink is busy,
its link down or the pause on; the head of AQ before all; else the first express head that fits its tokens from the express pointer on; else the
first bulk head from the bulk pointer on. A subscriber frame is charged its length and the pointer of its class moves past its port. With the link's
return the attempt of a notice frame comes first (R186). Turning the pause on only stops choices, and an indication that is held already changes
nothing. What leaves (R92, R95): a marked frame with its tag inserted, four octets longer; the egress VID and a new FCS on a RETAG and on a tag of
VID 0; any other frame, and a frame of the agent, unchanged. The model's own: the tag inserted but for its VID and priority (log 11), a RETAG to the
VID that is there (log 49). -/
def Obligations.TheArbiterChooses : Prop :=
  (∀ s : State, exec (.pauseChange s.txs.paused) s = .next s ∧
    ∃ t, exec (.pauseChange true) s = .next t ∧ t.txs = { s.txs with paused := true } ∧ OnlyIn [.txs] s t) ∧
  (∀ d : Descriptor, d.result = none → d.sent = ⟨d, d.image, d.length⟩) ∧
  (∀ (d : Descriptor) (res : Result), d.result = some res →
    let vid : BitVec 12 := BitVec.ofNat 12 res.egressVid
    d.sent.desc = d ∧
    (res.insertTag = true → d.sent.octets = d.length + 4 ∧ d.sent.sent.payload = d.image.payload ∧
      ∃ tag : Tag, tag.vid = vid ∧ tag.priority = 0#3 ∧
        d.sent.sent = { d.image with header := { d.image.header with tag := some tag }, newFcs := true }) ∧
    (∀ tag, res.insertTag = false → d.image.header.tag = some tag → d.sent.octets = d.length ∧
      (res.action = .retag ∨ tag.vid = 0#12 →
        d.sent.sent = { d.image with header := { d.image.header with tag := some { tag with vid := vid } }, newFcs := true }) ∧
      (res.action ≠ .retag → tag.vid ≠ 0#12 → d.sent.sent = d.image))) ∧
  (∀ s : State, s.txs.paused = true → ∃ t, exec (.pauseChange false) s = .next t ∧
    State.UplinkChosen { s with txs := { s.txs with paused := false } } t) ∧
  ∀ s : State, s.scu.linkUp = false → ∃ u t, exec (.uplinkLinkStateChange true) s = .next t ∧ u.UplinkChosen t ∧
    u.scu.linkUp = true ∧ u.txs = s.txs ∧ (∀ q, q ≠ .aq → u.queue q = s.queue q) ∧
    (u.cbm.aq = s.cbm.aq ∨ ∃ d, d.agentKind = some .notice ∧ u.cbm.aq = s.cbm.aq ++ [d]) ∧
    (s.mga.notices = [] ∨ s.mga.destination = none → u.cbm = s.cbm) ∧ OnlyIn [.scu, .mga, .cbm] s u

/-- The completions (R24, R57, R90, R94, R96, R97): the frame's cells return to their area, the transmitter's counters rise and it is free, and it
makes its choice, on the uplink the arbiter's (R87, R88); with no frame on the link the command has no effect. The craft port's link indication
(R96, R168): while it is down, or the craft port is unpowered, the frames in CQ are discarded and counted; when the port is alive again its
transmitter starts the head of CQ. The completion or discard of a frame of the agent frees its reserved cells, offers a waiting report again, and
ends the wait of a directed reset for it (R180, R191). The model's own: the list of messages (log 1), the craft link at reset (log 6), a completion
that finds no frame (log 19), what a completion sets off (log 35) and its order (log 58), when the wait for a reset ends (log 36). -/
def Obligations.CompletionsAndTheCraftLink : Prop :=
  (∀ (p : Port) (x : Transmission) (s : State),
    let calm : Prop := s.mga.notices = [] ∨ s.mga.destination = none
    let setsOff (t : State) : Prop :=
      (∀ r, s.mga.exec = .reporting r → r.offeredAt ≠ none → Instr.reportPlacement ∈ t.mail) ∧
        (x.desc.agentKind = some (.report true) → t.mga.resetWait = .over ∧ Instr.directedReset ∈ t.mail)
    (s.txs.uplinkTx = none → exec .uplinkCompletion s = .next s) ∧
    (s.txs.lineTx.get p = none → exec (.lineCompletion p) s = .next s) ∧
    (s.txs.craftTx = none → exec .craftCompletion s = .next s) ∧
    (s.txs.uplinkTx = some x → ∃ t, exec .uplinkCompletion s = .next t ∧
      t.txs.uplinkFrames = s.txs.uplinkFrames + 1#32 ∧ t.txs.uplinkOctets = s.txs.uplinkOctets + BitVec.ofNat 32 x.octets ∧
      t.txs.uplinkAgentFrames = (if x.desc.queue = .aq then s.txs.uplinkAgentFrames + 1#32 else s.txs.uplinkAgentFrames) ∧
      (x.desc.queue.area = .upstream → t.cbm.upHeld = s.cbm.upHeld - x.desc.cells.length ∧ t.mga = s.mga ∧ t.mail = s.mail) ∧
      (x.desc.queue = .aq → setsOff t ∧ (calm → t.cbm.reservedHeld = s.cbm.reservedHeld - x.desc.cells.length)) ∧
      (s.txs.paused = true ∨ s.scu.linkUp = false → t.txs.uplinkTx = none) ∧ t.txs.lineTx = s.txs.lineTx ∧
      OnlyIn [.txs, .cbm, .mga, .mail] s t ∧
      ∃ u : State, u.UplinkChosen t ∧
        u.txs =
          { s.txs with
            uplinkTx := none, uplinkFrames := t.txs.uplinkFrames, uplinkOctets := t.txs.uplinkOctets
            uplinkAgentFrames := t.txs.uplinkAgentFrames } ∧
        (∀ q, q ≠ .aq → u.queue q = s.queue q) ∧
        (u.cbm.aq = s.cbm.aq ∨ ∃ d, d.agentKind = some .notice ∧ u.cbm.aq = s.cbm.aq ++ [d]) ∧
        (calm ∨ x.desc.queue ≠ .aq → u.cbm.aq = s.cbm.aq) ∧ OnlyIn [.txs, .cbm, .mga, .mail] s u) ∧
    (s.txs.lineTx.get p = some x → x.desc.queue.area = .downstream → ∃ t, exec (.lineCompletion p) s = .next t ∧
      t.cbm.downHeld = s.cbm.downHeld - x.desc.cells.length ∧
      t.port p =
        { s.port p with
          counters := { (s.port p).counters with
            txFrames := (s.port p).counters.txFrames + 1#32
            txOctets := (s.port p).counters.txOctets + BitVec.ofNat 32 x.octets } } ∧
      State.LineChosen p
        { s with
          ports := t.ports, cbm := { s.cbm with downHeld := s.cbm.downHeld - x.desc.cells.length }
          txs := { s.txs with lineTx := s.txs.lineTx.set p none } } t ∧
      (s.queue (.dx p) = [] → s.queue (.db p) = [] → t.txs.lineTx.get p = none) ∧
      (∀ q, q ≠ p → t.txs.lineTx.get q = s.txs.lineTx.get q) ∧ OtherPorts p s t ∧ OnlyIn [.txs, .cbm, .ports] s t) ∧
    (s.txs.craftTx = some x → ∃ t, exec .craftCompletion s = .next t ∧ t.txs.craftFrames = s.txs.craftFrames + 1#32 ∧
      setsOff t ∧ (calm → t.cbm.reservedHeld = s.cbm.reservedHeld - x.desc.cells.length) ∧
      (s.cbm.cq = [] → t.txs.craftTx = none) ∧
      (∀ d rest, s.cbm.cq = d :: rest → s.craftAlive = true → t.txs.craftTx = some d.sent ∧ t.cbm.cq = rest) ∧
      OnlyIn [.txs, .cbm, .mga, .mail] s t)) ∧
  ∀ s : State,
    let discarded (t : State) : Prop :=
      t.cbm.cq = [] ∧ t.cbm.queues = s.cbm.queues ∧
        t.txs.craftDiscards = (if s.cbm.cq = [] then s.txs.craftDiscards else min 65535 (s.txs.craftDiscards + s.cbm.cq.length)) ∧
        (s.mga.notices = [] ∨ s.mga.destination = none → t.cbm.reservedHeld = s.cbm.reservedHeld - cellsOf s.cbm.cq) ∧
        (∀ r, s.cbm.cq ≠ [] → s.mga.exec = .reporting r → r.offeredAt ≠ none → Instr.reportPlacement ∈ t.mail) ∧
        ((∃ d ∈ s.cbm.cq, d.agentKind = some (.report true)) → t.mga.resetWait = .over ∧ Instr.directedReset ∈ t.mail) ∧
        (s.cbm.cq = [] → t.mga = s.mga ∧ t.mail = s.mail) ∧
        OnlyIn [.txs, .cbm, .mga, .mail] s t
    (∃ t, exec (.craftLinkChange false) s = .next t ∧ t.txs.craftLinkUp = false ∧ discarded t) ∧
    (s.csu.craftPowered = false → ∃ t, exec (.craftLinkChange true) s = .next t ∧ t.txs.craftLinkUp = true ∧ discarded t) ∧
    (s.csu.craftPowered = true → ∃ t, exec (.craftLinkChange true) s = .next t ∧ t.txs.craftLinkUp = true ∧
      (∀ d rest, s.txs.craftTx = none → s.cbm.cq = d :: rest → t.txs.craftTx = some d.sent ∧ t.cbm.cq = rest) ∧
      (s.txs.craftTx ≠ none ∨ s.cbm.cq = [] → t.txs = { s.txs with craftLinkUp := true } ∧ t.cbm = s.cbm) ∧ OnlyIn [.txs, .cbm] s t)

/-! ## The flow table (02) -/

/-- FT_CANDIDATE_CLEAR, FT_CANDIDATE_COPY and FT_WRITE (R37, R39, R40): BUSY during a trial; otherwise the candidate is emptied, becomes a copy of the
active table with hit counters at 0, or has one index written or emptied, DUPLICATE_KEY refused; an edit marks it OPEN and leaves the active table.
The model's own: the list of messages (log 1), a directive that comes alone (log 3), entry stamps (log 20). -/
def Obligations.CandidateEdits : Prop :=
  ∀ (o : Origin) (params : List Octet) (s : State), s.mayChange o → params.length = 11 →
    let edited (t : State) : Prop :=
      t.fcl.mark = .open ∧ t.fcl.active = s.fcl.active ∧ t.fcl.trial = none ∧ OnlyIn [.fcl, .mga, .mail] s t
    (s.fcl.trial ≠ none →
      (s.comesUp o 0x20#8 [] → ∃ t, exec (.ftCandidateClear o []) s = .next t ∧ Answered 0x20#8 .busy [] s t ∧
        t.besideDirective = s.besideDirective) ∧
      (s.comesUp o 0x21#8 [] → ∃ t, exec (.ftCandidateCopy o []) s = .next t ∧ Answered 0x21#8 .busy [] s t ∧
        t.besideDirective = s.besideDirective) ∧
      (s.comesUp o 0x22#8 params → ftForm params ≠ .bad → ∃ t, exec (.ftWrite o params) s = .next t ∧ Answered 0x22#8 .busy [] s t ∧
        t.besideDirective = s.besideDirective)) ∧
    (s.fcl.trial = none →
      (s.comesUp o 0x20#8 [] → ∃ t, exec (.ftCandidateClear o []) s = .next t ∧ Answered 0x20#8 .done [] s t ∧ edited t ∧
        t.fcl.candidate = [] ∧ t.fcl.candidate.check = 0) ∧
      (s.comesUp o 0x21#8 [] → ∃ t, exec (.ftCandidateCopy o []) s = .next t ∧ Answered 0x21#8 .done [] s t ∧ edited t ∧
        t.fcl.candidate.map (fun x => (x.1, { x.2 with stamp := 0 })) = s.fcl.active.map (fun x => (x.1, { x.2 with stamp := 0, hits := 0#32 })) ∧
        t.fcl.candidate.check = s.fcl.active.check) ∧
      (∀ index, s.comesUp o 0x22#8 params → ftForm params = .clear index → ∃ t, exec (.ftWrite o params) s = .next t ∧
        Answered 0x22#8 .done [] s t ∧ edited t ∧ t.fcl.candidate = s.fcl.candidate.filter fun x => x.1 != index) ∧
      (∀ index e, s.comesUp o 0x22#8 params → ftForm params = .write index e → s.fcl.candidate.holdsKey index e = true →
        ∃ t, exec (.ftWrite o params) s = .next t ∧ Answered 0x22#8 .duplicateKey [] s t ∧ t.besideDirective = s.besideDirective) ∧
      (∀ index e, s.comesUp o 0x22#8 params → ftForm params = .write index e → s.fcl.candidate.holdsKey index e = false →
        ∃ t, exec (.ftWrite o params) s = .next t ∧ Answered 0x22#8 .done [] s t ∧ edited t ∧
          (∃ stamp, t.fcl.candidate.entry index = some { e with stamp := stamp }) ∧
          ∀ other, other ≠ index → t.fcl.candidate.entry other = s.fcl.candidate.entry other)) ∧
    (s.comesUp o 0x22#8 params → ftForm params = .bad → ∃ t, exec (.ftWrite o params) s = .next t ∧ Answered 0x22#8 .badParam [] s t ∧
      t.besideDirective = s.besideDirective)

/-- FT_ACTIVATE by its conditions in order (R37, R38, R42): BAD_PARAM, BUSY, BAD_CHECK, NO_AGENT_PATH, or the banks swap and the trial starts with
its timer and soak time. SET_WRITE changes no trial and no bank's check value. The model's own: the list of messages (log 1), the clock (log 2), a
directive that comes alone (log 3), a window of 0xFFFF (log 50). -/
def Obligations.ActivationStartsATrial : Prop :=
  ∀ (o : Origin) (params : List Octet) (check window : Nat) (s : State), s.mayChange o → s.comesUp o 0x24#8 params →
    (params = num2 check ∧ check < 65536 ∧ window = s.settings.trialWindow) ∨
      (params = num2 check ++ num2 window ∧ check < 65536 ∧ window < 65536) →
    let carried : Prop := params.length = 4
    let bad : Prop := 65520 < check ∨ (carried ∧ (window < 5 ∨ 600 < window)) ∨ window ≤ s.settings.soakTime
    let refused (why : DirectiveOutcome) : Prop :=
      ∃ t, exec (.ftActivate o params) s = .next t ∧ Answered 0x24#8 why [] s t ∧ t.besideDirective = s.besideDirective
    (bad → refused .badParam) ∧
    (¬bad → s.fcl.trial ≠ none → refused .busy) ∧
    (¬bad → s.fcl.trial = none → s.fcl.candidate.check ≠ check → refused .badCheck) ∧
    (¬bad → s.fcl.trial = none → s.fcl.candidate.check = check → s.fcl.candidate.hasAgent = false → refused .noAgentPath) ∧
    (¬bad → s.fcl.trial = none → s.fcl.candidate.check = check → s.fcl.candidate.hasAgent = true →
      ∃ t, exec (.ftActivate o params) s = .next t ∧ Answered 0x24#8 .done [] s t ∧
        t.fcl =
          { s.fcl with
            active := s.fcl.candidate, candidate := s.fcl.active, mark := .fallback
            trial := some ⟨s.now + window * 1000000, s.settings.soakTime, s.now⟩ } ∧
        OnlyIn [.fcl, .mga, .mail] s t) ∧
    ∀ (other : Origin) (items : List Octet) (t : State), exec (.setWrite other items) s = .next t →
      t.fcl.trial = s.fcl.trial ∧ t.fcl.mark = s.fcl.mark ∧ t.fcl.active.check = s.fcl.active.check ∧
        t.fcl.candidate.check = s.fcl.candidate.check

/-- The ends of a trial (R43, R44, R45). FT_CONFIRM: NOT_IN_TRIAL outside a trial, TOO_EARLY before the soak time has passed, and DONE after it, with
the timer stopped, the fallback discarded, the candidate OPEN and no trial; never early with a soak time of 0. FT_REVERT: NOT_IN_TRIAL, or the timer
stops, the banks swap back, the candidate is REJECTED, and no notice is raised. TRIAL_TIMER_EXPIRY reverts in the same way, whatever the lock, and
raises TRIAL_REVERTED with the check value of the rejected table; outside a trial it has no effect. The model's own: the list of messages (log 1), the
clock (log 2), a directive that comes alone (log 3). -/
def Obligations.TheEndsOfATrial : Prop :=
  (∀ (o : Origin) (s : State), s.mayChange o → s.comesUp o 0x25#8 [] →
    (s.fcl.trial = none → ∃ t, exec (.ftConfirm o []) s = .next t ∧ Answered 0x25#8 .notInTrial [] s t ∧
      t.besideDirective = s.besideDirective) ∧
    (∀ tr, s.fcl.trial = some tr → s.now < tr.activatedAt + tr.soak * 1000000 → ∃ t, exec (.ftConfirm o []) s = .next t ∧
      Answered 0x25#8 .tooEarly [] s t ∧ t.besideDirective = s.besideDirective) ∧
    (∀ tr, s.fcl.trial = some tr → tr.activatedAt + tr.soak * 1000000 ≤ s.now → ∃ t, exec (.ftConfirm o []) s = .next t ∧
      Answered 0x25#8 .done [] s t ∧ t.fcl = { s.fcl with candidate := [], mark := .open, trial := none } ∧
      OnlyIn [.fcl, .mga, .mail] s t) ∧
    (∀ tr, s.fcl.trial = some tr → tr.soak = 0 → tr.activatedAt ≤ s.now → ∃ t, exec (.ftConfirm o []) s = .next t ∧
      Answered 0x25#8 .done [] s t)) ∧
  (∀ (o : Origin) (s : State), s.mayChange o → s.comesUp o 0x26#8 [] →
    (s.fcl.trial = none → ∃ t, exec (.ftRevert o []) s = .next t ∧ Answered 0x26#8 .notInTrial [] s t ∧
      t.besideDirective = s.besideDirective) ∧
    (s.fcl.trial ≠ none → ∃ t, exec (.ftRevert o []) s = .next t ∧ Answered 0x26#8 .done [] s t ∧
      t.fcl = { s.fcl with active := s.fcl.candidate, candidate := s.fcl.active, mark := .rejected, trial := none } ∧
      t.mga.notices = s.mga.notices ∧ OnlyIn [.fcl, .mga, .mail] s t)) ∧
  (∀ s : State, s.fcl.trial = none → exec .trialTimerExpiry s = .next s) ∧
    ∀ (s : State) (tr : Trial), s.fcl.trial = some tr → ∃ t, exec .trialTimerExpiry s = .next t ∧ t.now = max s.now tr.ends ∧
      t.fcl = { s.fcl with active := s.fcl.candidate, candidate := s.fcl.active, mark := .rejected, trial := none } ∧
      (s.noticeEnabled .trialReverted = true → s.mga.destination = none → s.mga.notices.length < 32 →
        t.mga.notices = s.mga.notices ++ [⟨.trialReverted s.fcl.active.check, t.uptime⟩]) ∧
      Reported s t ∧ OnlyIn [.now, .fcl, .mga, .cbm, .txs] s t


/-! ## Pair tests (06) -/

/-- TEST_REQUEST (R99, R100): refused BAD_PARAM for a port, kind, mode or urgency outside its list, then NOT_PERMITTED, QUEUE_FULL or DUPLICATE in
that order, and then nothing changes; otherwise the request is in the list with its fields and a fresh id. Outside IDLE it stands WAITING in its
place; on an empty list in IDLE with the bus free and its port free it runs at once and TAKE is sent (R104, R106). The model's own: the list of
messages (log 1), a directive that comes alone (log 3). -/
def Obligations.TestRequestsAreAccepted : Prop :=
  (∀ (o : Origin) (port kind mode urgency : Octet) (s : State),
    16 ≤ port.toNat ∨ 4 ≤ kind.toNat ∨ 2 ≤ mode.toNat ∨ 2 ≤ urgency.toNat → s.comesUp o 0x40#8 [port, kind, mode, urgency] →
    Refused (.testRequest o [port, kind, mode, urgency]) 0x40#8 .badParam s) ∧
  ∀ (o : Origin) (p : Port) (kind : TestKind) (mode : TestMode) (urgency : Urgency) (s : State),
    let params : List Octet := [portOctet p, octet kind.code, octet mode.code, octet urgency.code]
    s.comesUp o 0x40#8 params → s.ptc.Sound →
    let permitted : Prop := (s.sub p).policy = .any ∨ ((s.sub p).policy = .idleOnly ∧ mode = .waitIdle)
    let twin : Prop := ∃ r ∈ s.ptc.requests, r.port = p ∧ r.kind = kind
    let refused (why : DirectiveOutcome) : Prop :=
      ∃ t, exec (.testRequest o params) s = .next t ∧ Answered 0x40#8 why [] s t ∧ t.besideDirective = s.besideDirective
    let record (id : Nat) (st : RequestStatus) : Request :=
      { id := id, port := p, kind := kind, mode := mode, origin := o, urgency := urgency, accepted := s.sinceReset, status := st }
    let v := s.ptc.view.get p
    let free : Prop :=
      v.state ≠ .held ∧ ¬(v.state = .disabled ∧ v.held = true) ∧ v.phase = .none ∧ ¬(v.state = .up ∧ mode = .waitIdle)
    (¬permitted → refused .notPermitted) ∧
    (permitted → s.ptc.requests.length = 8 → refused .queueFull) ∧
    (permitted → s.ptc.requests.length < 8 → twin → refused .duplicate) ∧
    (permitted → s.ptc.requests.length < 8 → ¬twin → ∃ t id place, exec (.testRequest o params) s = .next t ∧
      Answered 0x40#8 .done (num4 id ++ num4 place) s t ∧
      1 ≤ id ∧ id ≤ 65535 ∧ (∀ r ∈ s.ptc.requests, r.id ≠ id) ∧ ((∀ r ∈ s.ptc.requests, r.id ≠ s.ptc.nextId) → id = s.ptc.nextId) ∧
      t.ptc.nextId = (if id = 65535 then 1 else id + 1) ∧ (∃ st, record id st ∈ t.ptc.requests) ∧
      (s.ptc.state ≠ .idle → t.ptc.log = s.ptc.log ∧
        t.ptc.requests =
          (match urgency with
           | .normal => s.ptc.requests ++ [record id .waiting]
           | .urgent =>
             (s.ptc.requests.takeWhile fun r => r.urgency == .urgent) ++ record id .waiting ::
               s.ptc.requests.dropWhile fun r => r.urgency == .urgent) ∧
        t.ptc.requests[place - 1]? = some (record id .waiting) ∧ 1 ≤ place) ∧
      (s.ptc.state = .idle → s.ptc.requests = [] → s.ptc.blocked = false → s.ptc.shedMark = false → free →
        t.ptc.state = .claim ∧ t.ptc.requests = [record id .running] ∧ Instr.take id p (mode == .intrude) ∈ t.mail) ∧
      OnlyIn [.ptc, .mga, .mail, .cbm, .txs] s t)

/-- The reports of the LPC, and those of the Measurement Unit, are taken in the order in which they were sent (R102): each that is the next of its
block leaves its line and the others stand as they were, and one commanded before its turn has no effect. A report of a port and the admission of the
bus bring a selection (R102, R104, R106): the view or the shed mark follows, and in IDLE, with the bus neither blocked nor shed, the first record,
when it is permitted and its port free, runs and TAKE is sent. Outside IDLE nothing is selected. The model's own: the list of messages (log 1), the
order of effects in one step (log 12), a MEASURE_DONE that OUT_DONE drops (log 48), the answers among the reports and a report before its turn (log
63). -/
def Obligations.ReportsBringASelection : Prop :=
  (∀ (b : Reporter) (m : Instr) (q : Port) (st : PortState) (held : Bool) (phase : TransferPhase) (id : Nat) (reason : HeldReason) (item : SentItem)
      (s : State),
    (b = .linePorts ∧ m ∈ [.portReport q st held phase, .granted id, .denied id, .outDone, .outFailed, .backDone, .released id,
      .portDisabledReport id, .portHeldReport id reason, .mismatchReport q held]) ∨ (b = .measurement ∧ m ∈ [.measurementItem item, .measureDone]) →
    (s.IsNext b m → ∃ t, exec m s = .next t ∧ t.reportsOf b = (s.reportsOf b).drop 1 ∧
      (m ≠ .outDone → ∀ other, other ≠ b → t.reportsOf other = s.reportsOf other)) ∧
    (¬s.IsNext b m → exec m s = .next s)) ∧
  ∀ (q : Port) (st : PortState) (held : Bool) (phase : TransferPhase) (s : State),
    let view' := s.ptc.view.set q ⟨st, held, phase⟩
    let takeable (view : Row 16 PortView) (r : Request) : Prop :=
      r.status = .waiting ∧ ((s.sub r.port).policy = .any ∨ ((s.sub r.port).policy = .idleOnly ∧ r.mode = .waitIdle)) ∧
        (view.get r.port).state ≠ .held ∧ ¬((view.get r.port).state = .disabled ∧ (view.get r.port).held = true) ∧
        (view.get r.port).phase = .none ∧ ¬((view.get r.port).state = .up ∧ r.mode = .waitIdle)
    let started (r : Request) (t : State) : Prop :=
      t.ptc.state = .claim ∧ t.ptc.course = some ⟨none, none, [], false⟩ ∧ t.ptc.log = s.ptc.log ∧
        Instr.take r.id r.port (r.mode == .intrude) ∈ t.mail ∧
        t.ptc.requests = s.ptc.requests.map (fun x => if x.id = r.id then { x with status := .running } else x)
    (s.IsNext .linePorts (.portReport q st held phase) → ∃ t, exec (.portReport q st held phase) s = .next t ∧ t.ptc.view = view' ∧
      OnlyIn [.ptc, .mga, .mail, .cbm, .txs] s t ∧
      (s.ptc.state ≠ .idle ∨ s.ptc.blocked = true ∨ s.ptc.shedMark = true →
        t.ptc.state = s.ptc.state ∧ t.ptc.requests = s.ptc.requests ∧ t.ptc.course = s.ptc.course ∧ t.mga = s.mga) ∧
      (∀ r rest, s.ptc.state = .idle → s.ptc.blocked = false → s.ptc.shedMark = false → s.ptc.requests = r :: rest → takeable view' r →
        started r t)) ∧
    ∃ t, exec .busAdmit s = .next t ∧ t.ptc.shedMark = false ∧ t.ptc.view = s.ptc.view ∧ OnlyIn [.ptc, .mga, .mail, .cbm, .txs] s t ∧
      (s.ptc.state ≠ .idle ∨ s.ptc.blocked = true →
        t.ptc.state = s.ptc.state ∧ t.ptc.requests = s.ptc.requests ∧ t.ptc.course = s.ptc.course ∧ t.mga = s.mga) ∧
      ∀ r rest, s.ptc.state = .idle → s.ptc.blocked = false → s.ptc.requests = r :: rest → takeable s.ptc.view r → started r t

/-- The course of a running request whose RELEASE is not yet sent, by the reports that are the next of their block (R102, R106, R107, R108, R109):
GRANTED moves the relays out, or releases the port when an ending came; OUT_DONE starts the measurement with the port's expected signature, or sends
the relays back; OUT_FAILED makes it a relay fault and releases; items are appended until the list holds 11; MEASURE_DONE in MEASURE with no outcome
pending makes it PASS when every verdict is OK, else FAIL, and sends the relays back; BACK_DONE releases. An item of a request that does not run has
no effect, nor has MEASURE_DONE when none runs; one still on its way when a request starts to measure is dropped (R115). The model's own: the list of
messages (log 1), the id that items carry and a MEASURE_DONE that comes late (log 48). -/
def Obligations.TheCourseOfARequest : Prop :=
  (∀ (r : Request) (k : Course) (s : State), s.ptc.running = some r → s.ptc.course = some k → k.releaseSent = false →
    let released (k' : Course) (c : Instr) (t : State) : Prop :=
      t.ptc.course = some { k' with releaseSent := true } ∧ t.ptc.state = s.ptc.state ∧ t.mail = s.mail.erase c ++ [.release r.port]
    let frame (t : State) : Prop := t.ptc.requests = s.ptc.requests ∧ t.ptc.log = s.ptc.log ∧ OnlyIn [.ptc, .mail] s t
    (s.ptc.state = .claim → s.IsNext .linePorts (.granted r.id) → ∃ t, exec (.granted r.id) s = .next t ∧ t.ptc.owner = some r.port ∧ frame t ∧
      (k.pending = none → t.ptc.state = .transferOut ∧ t.ptc.course = some k ∧ t.mail = s.mail.erase (.granted r.id) ++ [.transferOut r.port]) ∧
      (k.pending ≠ none → released k (.granted r.id) t)) ∧
    (s.ptc.state = .transferOut →
      (s.IsNext .linePorts .outDone → ∃ t, exec .outDone s = .next t ∧ t.ptc.course = some k ∧ frame t ∧
        (k.pending = none → t.ptc.state = .measure ∧
          t.mail = ((s.mail.erase .outDone).filter fun m => m != .measureDone) ++ [.measureStart ⟨r.id, r.port⟩ r.kind (s.sub r.port).expected]) ∧
        (k.pending ≠ none → t.ptc.state = .transferBack ∧ t.mail = s.mail.erase .outDone ++ [.transferBack r.port])) ∧
      (s.IsNext .linePorts .outFailed → ∃ t, exec .outFailed s = .next t ∧ frame t ∧
        released { k with pending := some .relayFault, cause := some .busOccupied } .outFailed t)) ∧
    (s.ptc.state = .transferBack → s.IsNext .linePorts .backDone → ∃ t, exec .backDone s = .next t ∧ frame t ∧ released k .backDone t)) ∧
  (∀ (r : Request) (k : Course) (i : Item) (s : State), s.ptc.running = some r → s.ptc.course = some k →
    (s.IsNext .measurement (.measurementItem ⟨r.id, i⟩) → ∃ t, exec (.measurementItem ⟨r.id, i⟩) s = .next t ∧
      OnlyIn [.ptc, .mail] s t ∧
      t.ptc = { s.ptc with course := some { k with items := if k.items.length < 11 then k.items ++ [i] else k.items } }) ∧
    (s.ptc.state = .measure → k.pending = none → s.IsNext .measurement .measureDone → ∃ t, exec .measureDone s = .next t ∧
      t.ptc =
        { s.ptc with
          state := .transferBack
          course := some { k with pending := some (if (∀ x ∈ k.items, x.verdict = .ok) then .pass else .fail) } } ∧
      t.mail = s.mail.erase .measureDone ++ [.transferBack r.port] ∧ OnlyIn [.ptc, .mail] s t) ∧
    (s.ptc.state ≠ .measure ∨ k.pending ≠ none → ∃ t, exec .measureDone s = .next t ∧ OnlyIn [.mail] s t)) ∧
  ∀ (id : Nat) (i : Item) (s : State),
    (s.ptc.course = none ∨ (∀ r, s.ptc.running = some r → r.id ≠ id) →
      ∃ t, exec (.measurementItem ⟨id, i⟩) s = .next t ∧ OnlyIn [.mail] s t) ∧
      (s.ptc.course = none ∨ s.ptc.running = none → ∃ t, exec .measureDone s = .next t ∧ OnlyIn [.mail] s t)

/-- A request ends by a report that is the next of the LPC's (R102, R106, R110, R115, R119): at RELEASED with its pending outcome, at DENIED with one,
and when its port is held; its result enters the log with its items, its record leaves the list, and the controller goes to SUSPENDED when that is
pending, else to IDLE, where it stays when nothing can be selected: the bus is shed or blocked, or no other request waits. DENIED with no ending lets
it wait again. The model's own: the list of messages (log 1). -/
def Obligations.RunningRequestsEnd : Prop :=
  ∀ (r : Request) (k : Course) (reason : HeldReason) (s : State),
    s.ptc.running = some r → s.ptc.course = some k →
    let halted : Prop := s.ptc.suspendPending = true ∨ s.ptc.shedMark = true ∨ s.ptc.blocked = true
    let alone : Prop := ∀ x ∈ s.ptc.requests, x.id = r.id
    let policy := (s.sub r.port).policy
    let permitted : Prop := policy = .any ∨ (policy = .idleOnly ∧ r.mode = .waitIdle)
    let away : Prop := (s.ptc.view.get r.port).state = .held ∨ (s.ptc.view.get r.port).phase ≠ .none
    let after : ControllerState := if s.ptc.suspendPending = true then .suspended else .idle
    let ended (o : TestOutcome) (c : Option TestCause) (t : State) : Prop :=
      t.ptc.log = (if s.ptc.log.length < 16 then s.ptc.log else s.ptc.log.drop 1) ++ [⟨r, o, c, k.items, s.sinceReset⟩] ∧
        t.ptc.requests = (s.ptc.requests.filter fun x => x.id != r.id) ∧ t.ptc.course = none ∧ t.ptc.owner = none ∧
        t.ptc.state = after ∧ t.ptc.suspendPending = false ∧ t.ptc.view = s.ptc.view ∧ Reported s t ∧ OnlyIn [.ptc, .mga, .mail, .cbm, .txs] s t
    (∀ o, halted ∨ alone → k.pending = some o → s.IsNext .linePorts (.released r.id) → ∃ t, exec (.released r.id) s = .next t ∧ ended o k.cause t) ∧
    (∀ o, halted ∨ alone → s.ptc.state = .claim → k.releaseSent = false → k.pending = some o →
      s.IsNext .linePorts (.denied r.id) → ∃ t, exec (.denied r.id) s = .next t ∧ ended o k.cause t) ∧
    (halted ∨ (s.ptc.requests = [r] ∧ permitted ∧ away) → s.ptc.state = .claim → k.releaseSent = false → k.pending = none →
      s.IsNext .linePorts (.denied r.id) → ∃ t, exec (.denied r.id) s = .next t ∧
      t.ptc.requests = s.ptc.requests.map (fun x => if x.id = r.id then { x with status := .waiting } else x) ∧ t.ptc.log = s.ptc.log ∧
      t.ptc.course = none ∧ t.ptc.state = after ∧ t.ptc.suspendPending = false ∧ OnlyIn [.ptc, .mail] s t) ∧
    (halted ∨ alone → s.IsNext .linePorts (.portHeldReport r.id reason) → ∃ t, exec (.portHeldReport r.id reason) s = .next t ∧
      (match reason with
       | .hazard => ended .hazard none t
       | .relayMismatch => ended .relayFault (some .mismatch) t) ∧
      (s.ptc.state = .measure → Instr.measureStop ∈ t.mail))

/-- The early endings of the running request (R111, R112, R113, R114, R116), those that the LPC reports when they are the next of its reports (R102),
by what they may replace and by the controller state: in MEASURE the steps are stopped and the relays sent back. The shed of the bus also sets the
mark; a test relay closed on another pair also blocks the bus. The model's own: the list of messages (log 1), a directive that comes alone (log 3),
the codes of a pending outcome (log 25). -/
def Obligations.EarlyEndings : Prop :=
  ∀ (r : Request) (k : Course) (p : Port) (s : State), s.ptc.running = some r → s.ptc.course = some k → r.port ≠ p →
    let replaceable : Prop := k.pending = none ∨ k.pending = some .pass ∨ k.pending = some .fail
    let acted (t : State) : Prop :=
      (s.ptc.state = .measure → t.ptc.state = .transferBack ∧ Instr.measureStop ∈ t.mail ∧ Instr.transferBack r.port ∈ t.mail) ∧
        (s.ptc.state ≠ .measure → t.ptc.state = s.ptc.state) ∧ t.ptc.requests = s.ptc.requests ∧ t.ptc.log = s.ptc.log
    let marked (o : TestOutcome) (c : Option TestCause) (t : State) : Prop :=
      (replaceable → t.ptc.course = some { k with pending := some o, cause := c }) ∧ (¬replaceable → t.ptc.course = some k)
    (s.IsNext .linePorts (.portDisabledReport r.id) → ∃ t, exec (.portDisabledReport r.id) s = .next t ∧
      marked .aborted (some .portDisabled) t ∧
      acted t ∧ OnlyIn [.ptc, .mail] s t) ∧
    (∃ t, exec .busShed s = .next t ∧ marked .powerShed none t ∧ acted t ∧ t.ptc.shedMark = true ∧ OnlyIn [.ptc, .mail] s t) ∧
    (s.IsNext .linePorts (.mismatchReport p true) → ∃ t, exec (.mismatchReport p true) s = .next t ∧
      t.ptc.course = some { k with pending := some .relayFault, cause := some .busBlocked } ∧ acted t ∧ t.ptc.blocked = true ∧ t.ptc.blocking = s.ptc.blocking.set p true ∧ Reported s t ∧
      OnlyIn [.ptc, .mail, .mga, .cbm, .txs] s t) ∧
    (∃ t, exec (.mismatchReport p false) s = .next t ∧ OnlyIn [.mail] s t) ∧
    ∀ (o : Origin) (id : Nat), r.id = id → 1 ≤ id → id ≤ 65535 → s.ptc.record id = some r → s.comesUp o 0x41#8 (num2 id) →
      ∃ t, exec (.testAbort o (num2 id)) s = .next t ∧ marked .aborted (some .directive) t ∧ acted t ∧
        Answered 0x41#8 .done
          (num1 1 ++ num1 t.ptc.state.code ++ opt1 ((t.ptc.course.bind (·.pending)).map (·.pendingCode))) s t ∧
        OnlyIn [.ptc, .mail, .mga] s t

/-- A WAITING request leaves the list at its wait deadline with EXPIRED, or by TEST_ABORT with ABORTED, cause DIRECTIVE, and no items; TEST_ABORT is
refused BAD_PARAM for the id 0 and WRONG_STATE for an id that is not in the list (R105, R110, R112). The model's own: the list of messages (log 1),
the clock (log 2), a directive that comes alone (log 3). -/
def Obligations.WaitingRequestsEnd : Prop :=
  ∀ (r : Request) (id : Nat) (o : Origin) (s : State),
    let ended (out : TestOutcome) (c : Option TestCause) (t : State) : Prop :=
      t.ptc.log = (if s.ptc.log.length < 16 then s.ptc.log else s.ptc.log.drop 1) ++ [⟨r, out, c, [], t.sinceReset⟩] ∧
        t.ptc.requests = (s.ptc.requests.filter fun x => x.id != r.id) ∧ t.ptc.course = s.ptc.course ∧ t.ptc.state = s.ptc.state ∧
        OnlyIn [.now, .ptc, .mga, .mail, .cbm, .txs] s t
    (s.ptc.record id = some r → r.status = .waiting → ∃ t, exec (.waitDeadlineExpiry id) s = .next t ∧ ended .expired none t ∧
      t.now = max s.now (s.resetAt + (r.accepted + s.settings.testWaitLimit) * 1000000)) ∧
    (s.ptc.record id = none ∨ s.ptc.record id = some { r with status := .running } → exec (.waitDeadlineExpiry id) s = .next s) ∧
    (id ≤ 65535 → s.comesUp o 0x41#8 (num2 id) →
      (id ≠ 0 → s.ptc.record id = some r → r.status = .waiting → ∃ t, exec (.testAbort o (num2 id)) s = .next t ∧
        ended .aborted (some .directive) t ∧ Answered 0x41#8 .done (num1 0) s t ∧ t.now = s.now) ∧
      (id ≠ 0 → s.ptc.record id = none → Refused (.testAbort o (num2 id)) 0x41#8 .wrongState s) ∧
      (id = 0 → Refused (.testAbort o (num2 id)) 0x41#8 .badParam s))

/-- TEST_SUSPEND and TEST_RESUME by the controller state (R118), and TESTBUS_CLEAR: WRONG_STATE, STILL_PRESENT while any test relay reads closed, or
the bus cleared with its fault record inactive (R117). The model's own: the list of messages (log 1), a directive that comes alone (log 3). -/
def Obligations.SuspendResumeAndClear : Prop :=
  ∀ (o : Origin) (s : State), s.mayChange o →
    let quiet (t : State) : Prop := t.ptc.requests = s.ptc.requests ∧ t.ptc.log = s.ptc.log ∧ t.ptc.course = s.ptc.course
    (s.comesUp o 0x44#8 [] → ∃ t, exec (.testSuspend o []) s = .next t ∧ Answered 0x44#8 .done [] s t ∧ quiet t ∧
      OnlyIn [.ptc, .mail, .mga] s t ∧
      t.ptc.state = (if s.ptc.state = .idle then .suspended else s.ptc.state) ∧
      t.ptc.suspendPending = (if s.ptc.state.busy = true then true else s.ptc.suspendPending)) ∧
    (s.comesUp o 0x45#8 [] → s.ptc.state ≠ .suspended → ∃ t, exec (.testResume o []) s = .next t ∧ Answered 0x45#8 .done [] s t ∧ quiet t ∧
      t.ptc.state = s.ptc.state ∧ t.ptc.suspendPending = false ∧ OnlyIn [.ptc, .mail, .mga] s t) ∧
    (s.comesUp o 0x45#8 [] → s.ptc.state = .suspended → s.ptc.requests = [] ∨ s.ptc.blocked = true ∨ s.ptc.shedMark = true →
      ∃ t, exec (.testResume o []) s = .next t ∧ Answered 0x45#8 .done [] s t ∧ quiet t ∧ t.ptc.state = .idle ∧
        OnlyIn [.ptc, .mail, .mga] s t) ∧
    (s.comesUp o 0x46#8 [] →
      (s.ptc.blocked = false → ∃ t, exec (.testbusClear o []) s = .next t ∧ Answered 0x46#8 .wrongState [] s t ∧
        t.besideDirective = s.besideDirective) ∧
      (s.ptc.blocked = true → (∃ p, (s.port p).testClosedSense = true) → ∃ t, exec (.testbusClear o []) s = .next t ∧
        Answered 0x46#8 .stillPresent [] s t ∧ t.besideDirective = s.besideDirective) ∧
      (s.ptc.blocked = true → (∀ p, (s.port p).testClosedSense = false) → ∃ t, exec (.testbusClear o []) s = .next t ∧
        Answered 0x46#8 .done [] s t ∧ t.ptc.blocked = false ∧ (∀ p, t.ptc.blocking.get p = false) ∧
        (∀ f ∈ t.mga.faults, f.source = .testbus → f.kind = .relayMismatch → f.active = false) ∧ t.ports = s.ports))

/-! ## Measurement (07) -/

/-- How a run starts, stops and goes on (R122, R124, R125, R126, R127): MEASURE_START in IDLE starts the first step of its kind, while DISCHARGING it
is kept, while RUNNING it has no effect; MEASURE_STOP outside GAP discharges for 10 ms with the source off and the path deselected, and in GAP lets
the gap run; the gap's end starts the next step or sends MEASURE_DONE; the discharge's end leaves IDLE or takes the kept start. A step keeps the
configuration it starts with (R143). The model's own: the list of messages (log 1), the clock (log 2), the newest kept start stands (log 29), the
request's id (log 48). -/
def Obligations.RunsStartStopAndEnd : Prop :=
  ∀ (id : Nat) (p : Port) (kind : TestKind) (expected : Option Nat) (s : State),
    let first : StepSort × SensePath :=
      match kind with
      | .foreignVoltage | .full => (.fv, .tg)
      | .insulation => (.ins, .tg)
      | .signature => (.sig, .tr)
    let source : StepSort → Option SourceSetting
      | .fv => none
      | .ins => some ⟨s.msu.config.insCode, s.msu.config.insPolarity⟩
      | .sig => some ⟨s.msu.config.sigBias, .positive⟩
    let wait : StepSort → Nat
      | .fv => s.msu.config.fvAcquisition
      | .ins => s.msu.config.insCharge
      | .sig => s.msu.config.sigSettle
    let started (t : State) : Prop :=
      (∃ r, t.msu.run = .running r ∧ r.id = id ∧ r.config = s.msu.config ∧ r.pair = p ∧ r.kind = kind ∧ r.expected = expected ∧ r.step = 0 ∧
        r.phase = (if first.1 = .sig then .settle else .acquire) ∧ r.due = t.now + wait first.1 * 1000 ∧ r.stopped = false) ∧
        t.msu.source = source first.1 ∧ t.msu.path = some first.2
    let discharging (t : State) : Prop := t.msu.run = .discharging (s.now + 10000) ∧ t.msu.source = none ∧ t.msu.path = none
    (s.msu.run = .idle → ∃ t, exec (.measureStart ⟨id, p⟩ kind expected) s = .next t ∧ started t ∧ OnlyIn [.msu, .mail] s t) ∧
    (∀ e, s.msu.run = .discharging e → ∃ t, exec (.measureStart ⟨id, p⟩ kind expected) s = .next t ∧
      t.msu = { s.msu with kept := some ⟨id, p, kind, expected⟩ } ∧ OnlyIn [.msu, .mail] s t) ∧
    (∀ r, s.msu.run = .running r → ∃ t, exec (.measureStart ⟨id, p⟩ kind expected) s = .next t ∧ OnlyIn [.mail] s t) ∧
    (∀ r, s.msu.run = .running r → r.phase ≠ .gap → ∃ t, exec .measureStop s = .next t ∧ discharging t ∧ OnlyIn [.msu, .mail] s t) ∧
    (∀ r, s.msu.run = .running r → r.phase = .gap → ∃ t, exec .measureStop s = .next t ∧
      t.msu = { s.msu with run := .running { r with stopped := true } } ∧ OnlyIn [.msu, .mail] s t) ∧
    ((∀ r, s.msu.run ≠ .running r) → ∃ t, exec .measureStop s = .next t ∧ OnlyIn [.mail] s t) ∧
    (∀ r, s.msu.run = .running r → r.phase = .gap → ∃ t, exec .dischargeGapEnd s = .next t ∧ t.now = max s.now r.due ∧
      (r.stopped = true → t.msu = { s.msu with run := .idle }) ∧
      (∀ sort path, r.stopped = false → (TestKind.steps r.kind)[r.step + 1]? = some (sort, path) →
        t.msu.source = source sort ∧ t.msu.path = some path ∧ t.mail = s.mail ∧
          ∃ r', t.msu.run = .running r' ∧ r'.id = r.id ∧ r'.config = s.msu.config ∧ r'.pair = r.pair ∧
            r'.step = r.step + 1 ∧ r'.due = t.now + wait sort * 1000) ∧
      (r.stopped = false → (TestKind.steps r.kind)[r.step + 1]? = none →
        t.msu.run = .idle ∧ t.msu.source = none ∧ t.msu.path = none ∧ t.mail = s.mail ++ [.measureDone]) ∧
      OnlyIn [.now, .msu, .mail] s t) ∧
    (∀ e, s.msu.run = .discharging e → ∃ t, exec .dischargeEnd s = .next t ∧ t.now = max s.now e ∧
      (s.msu.kept = none → t.msu = { s.msu with run := .idle }) ∧
      (s.msu.kept = some ⟨id, p, kind, expected⟩ → started t ∧ t.msu.kept = none) ∧ OnlyIn [.now, .msu, .mail] s t)

/-- The acquisition's end starts the conversions of its step (R124, R133). A converter code (R123, R126, R129, R131, R133): a voltage code at or
beyond the hazard code ends the run and holds the pair through a HAZARD report; any other joins the phase's samples. The last sample completes an FV
step with its items, and the next step's acquisition follows with no gap, or MEASURE_DONE after the last step; it completes an INS step with its
items, ends GUARD into BASE, and ends BASE into LISTEN when the base current is good, else completes the SIG step with SIG_BASE alone. All of it
goes by the configuration the step started with (R143). The model's own: the list of messages (log 1), the clock (log 2), the path of the next
conversion (log 46), the request's id (log 48). -/
def Obligations.SamplesAreTaken : Prop :=
  ∀ (code : BitVec 12) (limit : Bool) (sort : StepSort) (path : SensePath) (r : RunRecord) (s : State),
    s.msu.run = .running r → (TestKind.steps r.kind)[r.step]? = some (sort, path) →
    let cfg := r.config
    let amps : Bool := r.phase == .base || (r.phase == .convert && sort == .ins && r.acc.taken % 2 == 1)
    let converting : Prop := r.phase = .convert ∨ r.phase = .guard ∨ r.phase = .base
    let beyond : Prop := amps = false ∧ cfg.hazardCode ≤ code.toInt.natAbs
    let needed : Nat :=
      match r.phase with
      | .guard => 4
      | .base => 20 * cfg.baseWindow
      | _ => if sort = .ins then 32 else 80
    let frame (t : State) : Prop := t.now = max s.now r.due ∧ OnlyIn [.now, .msu, .mail] s t
    let entered (ph : MeasPhase) (t : State) : Prop :=
      ∃ r', t.msu.run = .running r' ∧ r'.phase = ph ∧ r'.acc = .zero ∧ r'.step = r.step ∧ r'.pair = r.pair
    (r.phase = .acquire → ∃ t, exec .acquisitionEnd s = .next t ∧ entered .convert t ∧ t.msu.source = s.msu.source ∧
      t.msu.path = some path ∧ t.mail = s.mail ∧ frame t) ∧
    (r.phase = .settle → ∃ t, exec .acquisitionEnd s = .next t ∧ entered .guard t ∧ t.msu.source = s.msu.source ∧
      t.msu.path = some path ∧ t.mail = s.mail ∧ frame t) ∧
    (converting → beyond → ∃ t, exec (.conversionSample code limit) s = .next t ∧
      t.msu.run = .discharging (t.now + 10000) ∧ t.msu.source = none ∧ t.msu.path = none ∧
      t.mail = s.mail ++ [.hazardReport r.pair path code] ∧ frame t) ∧
    (converting → ¬beyond → r.acc.taken + 1 < needed → ∃ t, exec (.conversionSample code limit) s = .next t ∧ t.mail = s.mail ∧
      (∃ r', t.msu.run = .running r' ∧ r'.phase = r.phase ∧ r'.step = r.step ∧ r'.acc.taken = r.acc.taken + 1 ∧
        r'.acc.sum = (if amps then r.acc.sum else r.acc.sum + code.toInt) ∧
        r'.acc.ampSum = (if amps then r.acc.ampSum + code.toInt else r.acc.ampSum) ∧
        r'.acc.limited = (r.acc.limited || limit) ∧
        r'.acc.saturated = (r.acc.saturated || decide (code.toInt = -2048 ∨ code.toInt = 2047))) ∧
      frame t) ∧
    (r.phase = .convert → sort = .fv → ¬beyond → r.acc.taken = 79 → s.msu.source = none →
      ∃ t, exec (.conversionSample code limit) s = .next t ∧ frame t ∧
        ∃ dc ac : Item, dc.name = .fvDc ∧ ac.name = .fvAc ∧ dc.path = path ∧ ac.path = path ∧
          dc.value = some (roundedMean (r.acc.sum + code.toInt) 80) ∧
          (dc.verdict = .high ↔ cfg.dcLimit < (roundedMean (r.acc.sum + code.toInt) 80).natAbs) ∧
          ac.value = some ((max r.acc.high code.toInt - min r.acc.low code.toInt).toNat / 2 : Nat) ∧
          (ac.verdict = .high ↔ cfg.acLimit < (max r.acc.high code.toInt - min r.acc.low code.toInt).toNat / 2) ∧
          (∀ sort' path', (TestKind.steps r.kind)[r.step + 1]? = some (sort', path') →
            let now := s.msu.config
            t.mail = s.mail ++ [.measurementItem ⟨r.id, dc⟩, .measurementItem ⟨r.id, ac⟩] ∧ t.msu.path = some path' ∧
              t.msu.source =
                (match sort' with
                 | .fv => none
                 | .ins => some ⟨now.insCode, now.insPolarity⟩
                 | .sig => some ⟨now.sigBias, .positive⟩) ∧
              ∃ r', t.msu.run = .running r' ∧ r'.id = r.id ∧ r'.config = now ∧ r'.pair = r.pair ∧ r'.kind = r.kind ∧
                r'.expected = r.expected ∧ r'.step = r.step + 1 ∧ r'.phase = (if sort' = .sig then .settle else .acquire) ∧
                r'.acc = .zero ∧ r'.stopped = r.stopped ∧
                r'.due = t.now +
                  (match sort' with | .fv => now.fvAcquisition | .ins => now.insCharge | .sig => now.sigSettle) * 1000) ∧
          ((TestKind.steps r.kind)[r.step + 1]? = none →
            t.mail = s.mail ++ [.measurementItem ⟨r.id, dc⟩, .measurementItem ⟨r.id, ac⟩, .measureDone] ∧
              t.msu = { s.msu with run := .idle, source := none, path := none })) ∧
    (r.phase = .convert → sort = .ins → r.acc.taken = 31 → s.msu.source ≠ none →
      ∃ t, exec (.conversionSample code limit) s = .next t ∧ frame t ∧ entered .gap t ∧ t.msu.source = none ∧ t.msu.path = none ∧
        ∃ item : Item, t.mail = s.mail ++ [.measurementItem ⟨r.id, item⟩] ∧ item.name = .insR ∧ item.path = path ∧
          (let turn (x : Int) : Int := if cfg.insPolarity = .negative then -x else x
           let v := turn (roundedMean r.acc.sum 16)
           let i := turn (roundedMean (r.acc.ampSum + code.toInt) 16)
           item.volts = some v ∧ item.amps = some i ∧
             item.value = some (if i ≤ 0 then 20470 else if v < 0 then 0 else 10 * v / i) ∧
             item.flags.atOrAbove = decide (i ≤ 0) ∧
             (item.verdict = .low ↔ 0 < i ∧ (if v < 0 then 0 else 10 * v / i) < cfg.insMinimum))) ∧
    (r.phase = .guard → ¬beyond → r.acc.taken = 3 → ∃ t, exec (.conversionSample code limit) s = .next t ∧ entered .base t ∧
      t.msu.source = s.msu.source ∧ t.msu.path = some .isrc ∧ t.mail = s.mail ∧ frame t) ∧
    (r.phase = .base → r.acc.taken + 1 = 20 * cfg.baseWindow → s.msu.source ≠ none →
      let ib0 : Int := roundedMean (r.acc.ampSum + code.toInt) (20 * cfg.baseWindow)
      ∃ t, exec (.conversionSample code limit) s = .next t ∧ frame t ∧
        ((cfg.baseMinimum : Int) ≤ ib0 → ib0 ≤ cfg.baseMaximum → entered .listen t ∧ t.msu.path = some .isrc ∧ t.mail = s.mail ∧
          ∃ r', t.msu.run = .running r' ∧ r'.ib0 = ib0 ∧ r'.decoder = .start ∧
            (cfg.thresholdMode = .adaptive → r'.thresholds.rise1 = ib0 + (cfg.delta1 / 2 : Nat) ∧
              r'.thresholds.rise2 = ib0 + cfg.delta1 + (cfg.delta2 / 2 : Nat)) ∧
            (cfg.thresholdMode = .fixed → r'.thresholds.rise1 = 40 + 4 * cfg.first ∧
              r'.thresholds.rise2 = 80 + 4 * cfg.first + 4 * cfg.offset) ∧
            r'.thresholds.fall1 = ib0 + (r'.thresholds.rise1 - ib0) * 3 / 4 ∧
            r'.thresholds.fall2 = ib0 + (r'.thresholds.rise2 - ib0) * 3 / 4) ∧
        (ib0 < cfg.baseMinimum ∨ cfg.baseMaximum < ib0 → entered .gap t ∧ t.msu.source = none ∧ t.msu.path = none ∧
          ∃ item : Item, t.mail = s.mail ++ [.measurementItem ⟨r.id, item⟩] ∧ item.name = .sigBase ∧ item.value = some ib0 ∧
            item.verdict = (if ib0 < cfg.baseMinimum then .noNtu else .leaky)))

/-- SIG_WORD (R141): its bit count, its data from the first eight bits with the first least significant, its odd parity over nine bits, the alarm,
the end reason, and the first verdict that applies. A listen sample (R136 to R140): the counter of samples, the sum and the flags follow, the
decoder takes the sample, and the frame's end completes the SIG step with SIG_BASE and SIG_WORD and starts the discharge gap; when the window runs
out a frame that is under way ends with WINDOW, and none with NONE. The decoder: each sample counts at the present level, and a change is accepted
at the deglitch count, from 0 to 1, from 1 to 2 or 0, from 2 to 0 when the whole run was below fall 1 and else to 1, with every counter then at 0; a
start pulse has 32 to 64 samples, bits are pulses of 4 to 24 samples, a one from 12 on, nine bits complete the frame, another pulse ends it with
BAD_PULSE, a gap of 41 samples with GAP, a pulse at its 65th sample with STUCK in any stage, and the alarm, once set by level 2, stays. The model's
own: the list of messages (log 1), the clock (log 2), the first of two rows at level 1 (log 45), a gap of 41 samples before a rise (log 28), the
request's id (log 48), whose samples flag which item (log 51). -/
def Obligations.ListenSamplesAreDecoded : Prop :=
  (∀ (d : Decoder) (expected : Option Nat) (flags : ItemFlags),
    let n := d.bits.length
    let bit (k : Nat) : Nat := if d.bits[k]? = some true then 1 else 0
    let data : Nat := bit 0 + 2 * bit 1 + 4 * bit 2 + 8 * bit 3 + 16 * bit 4 + 32 * bit 5 + 64 * bit 6 + 128 * bit 7
    let odd : Bool := d.bits.count true % 2 == 1
    let reason : EndReason := d.endReason.getD .none
    sigWordItem d expected flags =
      { name := .sigWord, path := .tr, value := none, volts := none, amps := none, flags := flags
        word := some
          { bitCount := n, data := if 8 ≤ n then some data else none, parityGood := if n = 9 then some odd else none, alarm := d.alarm
            endReason := reason }
        verdict := (sigWordItem d expected flags).verdict } ∧
      (n ≤ 9 → (sigWordItem d expected flags).verdict =
        if reason = .stuck then .stuck
        else if reason = .none then .noFrame
        else if n < 9 then .truncated
        else if odd = false then .invalid
        else if expected = none ∨ expected = some data then .ok
        else .wrongNtu)) ∧
  (∀ (code : BitVec 12) (limit : Bool) (r : RunRecord) (s : State), s.msu.run = .running r → r.phase = .listen → s.msu.source ≠ none →
    let d := r.decoder.sample r.thresholds r.config.deglitch code.toInt
    let completed (e : Decoder) (flags : ItemFlags) (t : State) : Prop :=
      t.mail = s.mail ++ [.measurementItem ⟨r.id, sigBaseItem r.config r.ib0 r.baseFlags⟩, .measurementItem ⟨r.id, sigWordItem e r.expected flags⟩] ∧
        t.msu.source = none ∧ t.msu.path = none ∧
        ∃ r', t.msu.run = .running r' ∧ r'.phase = .gap ∧ r'.due = t.now + 10000 ∧ r'.step = r.step
    (r.acc.taken < 20 * r.config.listenWindow →
      ∃ t, exec (.listenSample code limit) s = .next t ∧ t.now = max s.now r.due ∧ OnlyIn [.now, .msu, .mail] s t ∧
        (d.stage ≠ .ended → t.mail = s.mail ∧ ∃ r', t.msu.run = .running r' ∧ r'.decoder = d ∧ r'.acc.taken = r.acc.taken + 1 ∧ r'.phase = .listen) ∧
        (d.stage = .ended → completed d (r.acc.add true code.toInt limit).flags t)) ∧
    ∃ t, exec .listenWindowEnd s = .next t ∧ OnlyIn [.now, .msu, .mail] s t ∧
      completed
        { r.decoder with
          stage := .ended
          endReason :=
            match r.decoder.stage with
            | .waiting => some .none
            | .inFrame => some .window
            | .ended => r.decoder.endReason } r.acc.flags t) ∧
  ∀ (n : Nat) (d : Decoder) (t : Thresholds) (deglitch : Nat) (code : Int), 1 ≤ deglitch →
    (65 ≤ n → (d.pulse n).stage = .ended ∧ (d.pulse n).endReason = some .stuck ∧ (d.pulse n).bits = d.bits) ∧
    (d.stage = .waiting → n < 65 → (d.pulse n).bits = d.bits ∧ ((d.pulse n).stage = .inFrame ↔ 32 ≤ n)) ∧
    (d.stage = .inFrame → n < 65 → (n < 4 ∨ 24 < n) → (d.pulse n).stage = .ended ∧ (d.pulse n).endReason = some .badPulse ∧ (d.pulse n).bits = d.bits) ∧
    (d.stage = .inFrame → 4 ≤ n → n ≤ 24 → (d.pulse n).bits = d.bits ++ [decide (12 ≤ n)] ∧
      ((d.pulse n).stage = .ended ↔ d.bits.length = 8) ∧ (d.bits.length = 8 → (d.pulse n).endReason = some .complete)) ∧
    (d.alarm = true → (d.sample t deglitch code).alarm = true) ∧
    ((d.sample t deglitch code).level = .two → (d.sample t deglitch code).alarm = true) ∧
    (let e := d.sample t deglitch code
     e.samples = d.samples + 1 ∧
     (e.level ≠ d.level → e.rise = 0 ∧ e.up = 0 ∧ e.fall = 0 ∧ e.drop = 0) ∧
     (d.level = .zero → t.rise1 ≤ code →
       (deglitch ≤ d.rise + 1 → e.level = .one) ∧ (d.rise + 1 < deglitch → e.level = .zero ∧ e.rise = d.rise + 1)) ∧
     (d.level = .zero → code < t.rise1 → e.level = .zero ∧ e.rise = 0) ∧
     (d.level = .one → t.rise2 ≤ code →
       (deglitch ≤ d.up + 1 → e.level = .two) ∧ (d.up + 1 < deglitch → e.level = .one ∧ e.up = d.up + 1 ∧ e.fall = 0)) ∧
     (d.level = .one → code < t.rise2 → code < t.fall1 →
       (deglitch ≤ d.fall + 1 → e.level = .zero) ∧ (d.fall + 1 < deglitch → e.level = .one ∧ e.fall = d.fall + 1 ∧ e.up = 0)) ∧
     (d.level = .one → code < t.rise2 → t.fall1 ≤ code → e.level = .one ∧ e.up = 0 ∧ e.fall = 0) ∧
     (d.level = .two → code < t.fall2 →
       let below : Prop := (d.drop = 0 ∨ d.dropBelowFall1 = true) ∧ code < t.fall1
       (deglitch ≤ d.drop + 1 → (below → e.level = .zero) ∧ (¬below → e.level = .one)) ∧
         (d.drop + 1 < deglitch → e.level = .two ∧ e.drop = d.drop + 1 ∧ (e.dropBelowFall1 = true ↔ below))) ∧
     (d.level = .two → t.fall2 ≤ code → e.level = .two ∧ e.drop = 0) ∧
     (∀ start, d.level ≠ .zero → e.level ≠ .zero → d.pulseStart = some start →
       (start + 65 ≤ d.samples + 1 → e.stage = .ended ∧ e.endReason = some .stuck ∧ e.bits = d.bits) ∧
         (d.samples + 1 < start + 65 → e.stage = d.stage ∧ e.bits = d.bits ∧ e.endReason = d.endReason)) ∧
     (∀ start, d.level ≠ .zero → e.level = .zero → d.pulseStart = some start →
       e.bits = (d.pulse (d.samples + 1 - start)).bits ∧ e.stage = (d.pulse (d.samples + 1 - start)).stage ∧
         e.endReason = (d.pulse (d.samples + 1 - start)).endReason ∧ e.gapStart = some (d.samples + 1)) ∧
     (d.level = .zero → e.level ≠ .zero → (∀ start, d.stage = .inFrame → d.gapStart = some start → d.samples + 1 < start + 41) →
       e.pulseStart = some (d.samples + 1) ∧ e.stage = d.stage) ∧
     ∀ start, d.stage = .inFrame → d.level = .zero → d.gapStart = some start →
       (start + 41 ≤ d.samples + 1 → e.stage = .ended ∧ e.endReason = some .gap ∧ e.bits = d.bits) ∧
         (d.samples + 1 < start + 41 → e.stage = .inFrame ∧ e.bits = d.bits))


/-! ## Line watch (08) -/

/-- A sweep (R145 to R153), at the sweep timer's expiry, and none while it is stopped. The counts rise to the persistence while the largest magnitude
stands at or beyond a level and fall otherwise, and a level is declared at the full count and withdrawn at 0. With no wake that completes in the
sweep: a hazard newly declared holds its port, every other record is as computed with the level reported, and a level that goes takes its fault record
to inactive, one that comes is raised. A wake that completes in DOZE with a cause besides IDLE left makes wake pending yes. The timer restarts while
any pair is watched. The model's own: the list of messages (log 1), the clock (log 2), the order in a sweep, a last sample of what is not watched (log
30), the unit of a voltage (log 41). -/
def Obligations.SweepsJudgeThePairs : Prop :=
  ∀ (samples : Row 16 PairSample) (s : State),
    let g := s.settings
    let old (p : Port) : WatchRecord := s.lwu.records.get p
    let x (p : Port) : PairSample := samples.get p
    let size (p : Port) : Nat := max (x p).tipGround.natAbs (max (x p).ringGround.natAbs (x p).tipRing.natAbs)
    let volts (l : LevelSetting) : Nat := if l.highRange then 20 + 8 * l.code else 2 + 2 * l.code
    let warn (p : Port) : Bool := decide (10 * volts g.warnLevel ≤ size p)
    let hazard (p : Port) : Bool := decide (10 * max (volts g.warnLevel) (volts g.hazardLevel) ≤ size p)
    let count (found : Bool) (n : Nat) : Nat := if found then min g.persistence (n + 1) else n - 1
    let declared (n : Nat) (before : Bool) : Bool := if n = g.persistence then true else if n = 0 then false else before
    let counted (p : Port) : WatchRecord :=
      if (old p).fvWatched then
        { old p with
          warnCount := count (warn p) (old p).warnCount, hazardCount := count (hazard p) (old p).hazardCount
          warnDeclared := declared (count (warn p) (old p).warnCount) (old p).warnDeclared
          hazardDeclared := declared (count (hazard p) (old p).hazardCount) (old p).hazardDeclared }
      else old p
    let energy (p : Port) : Bool := (old p).wakeWatched && (x p).wakeEnergy
    let after (p : Port) : WatchRecord :=
      if (old p).fvWatched || (old p).wakeWatched then
        { counted p with
          wakeSeen := energy p && !(old p).wakeSeen
          lastSample := some ⟨(old p).fvWatched && warn p, (old p).fvWatched && hazard p, energy p⟩
          lastReported := if (old p).fvWatched then (counted p).level else (old p).lastReported }
      else old p
    let newHazard (p : Port) : Prop := (old p).hazardDeclared = false ∧ (counted p).hazardDeclared = true
    let wakes (p : Port) : Prop := energy p = true ∧ (old p).wakeSeen = true
    (s.lwu.timer = none → exec (.sweep samples) s = .next s) ∧
    (∀ timer, s.lwu.timer = some timer → ∃ t, exec (.sweep samples) s = .next t ∧ t.now = max s.now timer.ends ∧
      (let interval := pollInterval (if s.csu.stage = some .mains ∨ s.csu.stage = some .normal then g.watchPoll else g.economyPoll)
       t.lwu.timer = if t.lwu.anyWatched = true then some ⟨interval, t.now + interval * 1000⟩ else none) ∧
      ((∀ p, ¬wakes p) →
        (∀ p, ¬newHazard p → t.port p = s.port p ∧ t.lwu.records.get p = after p) ∧
        (∀ p, newHazard p → (t.port p).held.hazard = true ∧ (t.port p).counters.hazardHolds = plusOne (s.port p).counters.hazardHolds ∧
          ((s.port p).state ≠ .disabled → (t.port p).state = .held)) ∧
        (∀ p, (old p).level ≠ .none → (counted p).level = .none →
          ∀ f ∈ t.mga.faults, f.source = .line p → f.kind = .foreignVoltage → f.active = false) ∧
        ((∀ q, ¬newHazard q) → s.mga.faults.length ≤ 8 → ∀ p, (old p).level = .none → (counted p).level ≠ .none →
          ∃ f ∈ t.mga.faults, f.source = .line p ∧ f.kind = .foreignVoltage ∧ f.active = true) ∧
        Reported s t ∧ OnlyIn [.now, .ports, .mail, .scu, .txs, .cbm, .lwu, .mga] s t) ∧
      ∀ p, (∀ q, ¬newHazard q) → wakes p → (∀ q, q ≠ p → ¬wakes q) → (s.port p).state = .doze →
        (s.port p).causes.shed = true ∨ (s.port p).causes.thermal = true →
        (t.port p).state = .doze ∧ (t.port p).wakePending = true ∧
          (t.port p).causes = { (s.port p).causes with idle := false } ∧ OtherPorts p s t)

/-! ## Cabinet and power (09) -/

/-- A contact poll (R157, R158, R159) debounces every contact: two equal samples decide a contact that had no level, and two equal samples that differ
from its level change it, which is reported when its notice is enabled and starts the craft hold when it is a craft wake. The craft hold timer's
expiry (R168) judges the craft port's power without it, and a craft port that loses power loses the frames in CQ; a craft frame in reception ends
there and is judged by its length and FCS, which are counted, or handed on (R25), and a header of it that is still to come is to be discarded. The model's own: the list of messages (log 1), the clock (log 2), an
expiry of a stopped timer (log 19), a header without its frame (log 23), what has arrived of the frame that is cut off (log 47). -/
def Obligations.ContactsAreDebounced : Prop :=
  (∀ (conducts : BitVec 8) (s : State), ∃ t, exec (.contactPoll conducts) s = .next t ∧ t.now = max s.now s.csu.contactDue ∧
    (let old (k : Contact) : ContactRecord := s.csu.contacts.get k
     let level (k : Contact) : Bool := conducts.getLsbD k.val != (old k).inverted
     let agreed (k : Contact) : Prop := (old k).lastSample = some (level k)
     let changes (k : Contact) : Prop := (∃ d, (old k).debounced = some d ∧ d ≠ level k) ∧ agreed k
     (∀ k, ¬agreed k ∨ (old k).debounced = some (level k) →
       t.csu.contacts.get k = { old k with lastSample := some (level k) }) ∧
     (∀ k, agreed k → (old k).debounced = none →
       t.csu.contacts.get k = { old k with debounced := some (level k), lastReported := some (level k) }) ∧
     (∀ k, changes k →
       t.csu.contacts.get k =
         { old k with
           debounced := some (level k), lastReported := if (old k).noticeEnable then some (level k) else (old k).lastReported } ∧
       ((old k).noticeEnable = true → s.noticeEnabled .contactChange = true → s.mga.destination = none → s.mga.notices.length ≤ 24 →
         ∃ n ∈ t.mga.notices, n.notice = .contactChange k (level k) (old k).lastReported)) ∧
     ((∃ k, changes k ∧ (old k).craftWake = true) → t.csu.craftHold = some (t.now + s.settings.craftHoldTime * 60000000)) ∧
     ((∀ k, changes k → (old k).craftWake = false) → t.csu.craftHold = s.csu.craftHold)) ∧
    t.csu.contactDue = t.now + pollInterval s.settings.contactPoll * 1000 ∧
    OnlyIn [.now, .csu, .mga, .cbm, .txs, .mail, .fcl] s t) ∧
  (∀ s : State, s.csu.craftHold = none → exec .craftHoldExpiry s = .next s) ∧
  ∀ (s : State) (e : Nat), s.csu.craftHold = some e → ∃ t, exec .craftHoldExpiry s = .next t ∧ t.now = max s.now e ∧
    (let powered : Bool := s.csu.stage != some .conserve || s.doorOpen
     t.csu = { s.csu with craftHold := none, craftPowered := powered } ∧
       (s.csu.craftPowered = true → powered = false → t.cbm.cq = [] ∧ t.reception .craft = none) ∧
       (∀ r, s.csu.craftPowered = true → powered = false → s.reception .craft = some r →
         let length := Config.cutLength s.fcl.cuts
         let bad : Prop := length < 64 ∨ 1664 < length
         let good : Bool := Config.cutFcsGood s.fcl.cuts
         t.fcl.cuts = s.fcl.cuts + 1 ∧ t.fcl.staleHeader = (r.header == none) ∧
           (bad → t.fcl.craftDrops = { s.fcl.craftDrops with length := plusOne s.fcl.craftDrops.length }) ∧
           (¬bad → good = false → t.fcl.craftDrops = { s.fcl.craftDrops with fcs := plusOne s.fcl.craftDrops.fcs }) ∧
           (bad ∨ good = false → t.mga.craftStore = s.mga.craftStore) ∧
           (∀ h, ¬bad → good = true → r.dropped = none → r.header = some h →
             t.mga.craftStore = some ⟨.craft, h.source, 0, h.ethertype, Config.cutPayload s.fcl.cuts⟩ ∧ t.fcl.craftDrops = s.fcl.craftDrops)) ∧
       (s.csu.craftPowered = powered → t.cbm = s.cbm ∧ t.txs = s.txs ∧ t.mga = s.mga ∧ t.mail = s.mail ∧ t.fcl = s.fcl)) ∧
    OnlyIn [.now, .csu, .mga, .cbm, .txs, .mail, .fcl] s t

/-- A temperature reading (R160 to R164), clamped to -40..125: the two conditions by their thresholds with a hysteresis of 5, their fault records, the
thermal latch, which puts THERMAL in the causes of every port in service, dozing or lent from service, and the heater demand. THERMAL_CLEAR (R163):
WRONG_STATE, STILL_PRESENT, or the latch cleared and THERMAL out of every port's causes. The model's own: the list of messages (log 1), the clock (log
2), a directive that comes alone (log 3), the order of effects in one step (log 12), the next reading counted from the taking of this one (log 39). -/
def Obligations.TemperatureAndTheLatch : Prop :=
  (∀ (raw : Int) (s : State), ∃ t, exec (.temperatureReading raw) s = .next t ∧ t.now = max s.now s.csu.temperatureDue ∧
    (let v : Int := max (-40) (min 125 raw)
     let g := s.settings
     let condition (threshold : Int) (before : Bool) : Bool :=
       if g.thermalMode = .off then false else if threshold ≤ v then true else if v ≤ threshold - 5 then false else before
     let warn := condition g.warnThreshold s.csu.warnCondition
     let shutdown := condition g.shutdownThreshold s.csu.shutdownCondition
     let latch : Bool := s.csu.thermalLatch || (g.thermalMode == .shutdown && shutdown)
     let heater : Bool := if s.csu.heaterDemand then decide (v ≤ g.heaterOff) else decide (v < g.heaterOn)
     t.csu =
       { s.csu with
         temperature := some v, temperatureDue := t.now + 1000000, warnCondition := warn, shutdownCondition := shutdown
         thermalLatch := latch, heaterDemand := heater } ∧
     (latch = s.csu.thermalLatch → t.ports = s.ports) ∧
     (s.csu.thermalLatch = false → latch = true → ∀ p,
       ((s.port p).state = .down ∨ (s.port p).state = .training ∨ (s.port p).state = .up →
         t.port p =
           { s.port p with
             state := .doze, causes := ⟨false, true, false⟩, orderOn := false, rates := none, idleTimer := none
             counters := { (s.port p).counters with dozes := plusOne (s.port p).counters.dozes } }) ∧
       ((s.port p).state = .doze ∨ ((s.port p).state = .test ∧ (s.port p).returnTarget = some .down) →
         (t.port p).causes = { (s.port p).causes with thermal := true } ∧ (t.port p).state = (s.port p).state) ∧
       ((s.port p).state = .disabled ∨ (s.port p).state = .held → t.port p = s.port p)) ∧
     (heater ≠ s.csu.heaterDemand → Instr.evaluation ∈ t.mail) ∧
     (s.csu.warnCondition = true → warn = false → ∀ f ∈ t.mga.faults, f.source = .cabinet → f.kind = .thermalWarn → f.active = false) ∧
     (s.csu.warnCondition = false → warn = true → s.mga.faults.length ≤ 22 →
       ∃ f ∈ t.mga.faults, f.source = .cabinet ∧ f.kind = .thermalWarn ∧ f.active = true) ∧
     (s.csu.shutdownCondition = false → shutdown = true → s.mga.faults.length ≤ 22 →
       ∃ f ∈ t.mga.faults, f.source = .cabinet ∧ f.kind = .thermalShutdown ∧ f.active = true) ∧
     (s.csu.shutdownCondition = true → shutdown = false → s.csu.thermalLatch = false →
       ∀ f ∈ t.mga.faults, f.source = .cabinet → f.kind = .thermalShutdown → f.active = false)) ∧
    Reported s t ∧ OnlyIn [.now, .csu, .ports, .mail, .scu, .txs, .cbm, .lwu, .mga] s t) ∧
  ∀ (o : Origin) (s : State), s.mayChange o → s.comesUp o 0x63#8 [] →
    let hot : Prop := ∃ v, s.csu.temperature = some v ∧ s.settings.shutdownThreshold - 5 < v
    (s.csu.thermalLatch = false → ∃ t, exec (.thermalClear o []) s = .next t ∧ Answered 0x63#8 .wrongState [] s t ∧
      t.besideDirective = s.besideDirective) ∧
    (s.csu.thermalLatch = true → hot → ∃ t, exec (.thermalClear o []) s = .next t ∧ Answered 0x63#8 .stillPresent [] s t ∧
      t.besideDirective = s.besideDirective) ∧
    (s.csu.thermalLatch = true → ¬hot → (∀ p, (s.port p).Sound) → ∃ t, exec (.thermalClear o []) s = .next t ∧
      Answered 0x63#8 .done [] s t ∧ t.csu = { s.csu with thermalLatch := false } ∧ (∀ p, (t.port p).causes.thermal = false) ∧
      (s.csu.shutdownCondition = false → ∀ f ∈ t.mga.faults, f.source = .cabinet → f.kind = .thermalShutdown → f.active = false) ∧
      OnlyIn [.csu, .ports, .mail, .scu, .txs, .cbm, .lwu, .mga, .pbu] s t)

/-- A supply sample (R165 to R168): the stage by mains, battery voltage and the stage before, with a hysteresis of 20 upward; a change asks for an
evaluation, raises or clears SUPPLY_CONSERVE, and switches the craft port's power; without a change only the readings follow. The model's own: the
list of messages (log 1), the clock (log 2), the next sample counted from the taking of this one (log 39). -/
def Obligations.SupplySamplesDecideTheStage : Prop :=
  ∀ (mains : Bool) (battery : Nat) (s : State), ∃ t, exec (.supplySample mains battery) s = .next t ∧
    t.now = max s.now s.csu.supplyDue ∧
    (let v := min 9999 battery
     let e := s.settings.economyThreshold
     let c := s.settings.conserveThreshold
     let economyUp : Nat := if s.csu.stage = some .economy ∨ s.csu.stage = some .conserve then e + 20 else e
     let conserveUp : Nat := if s.csu.stage = some .conserve then c + 20 else c
     let stage : Stage := if mains = true then .mains else if economyUp ≤ v then .normal else if conserveUp ≤ v then .economy else .conserve
     let powered : Bool := stage != .conserve || s.doorOpen || s.csu.craftHold.isSome
     let read : Supervisor := { s.csu with mainsPresent := some mains, battery := some v, supplyDue := t.now + 1000000 }
     (s.csu.stage = some stage → t.csu = read ∧ OnlyIn [.now, .csu] s t) ∧
     (s.csu.stage ≠ some stage → t.csu = { read with stage := some stage, craftPowered := powered } ∧ Instr.evaluation ∈ t.mail ∧
       (s.csu.craftPowered = true → powered = false → t.cbm.cq = [] ∧ t.reception .craft = none) ∧
       (powered = true ∨ s.reception .craft = none → t.fcl = s.fcl) ∧
       (s.noticeEnabled .stageChange = true → s.mga.destination = none → s.mga.notices.length ≤ 30 →
         ∃ n ∈ t.mga.notices, n.notice = .stageChange s.csu.stage stage mains v) ∧
       (stage = .conserve → s.mga.faults.length < 24 →
         ∃ f ∈ t.mga.faults, f.source = .cabinet ∧ f.kind = .supplyConserve ∧ f.active = true) ∧
       (s.csu.stage = some .conserve → ∀ f ∈ t.mga.faults, f.source = .cabinet → f.kind = .supplyConserve → f.active = false))) ∧
    OnlyIn [.now, .csu, .mga, .cbm, .txs, .mail, .fcl] s t

/-- EVALUATION (R170 to R173): every load that wants power stands once in keep order; loads are admitted from the front while the available power
lasts, and from the first that misses on every load is shed; the admitted powers fit the available power. A decision that differs from the last one
sent is handed on: SHED dozes a port in service, ADMITTED brings a port that only SHED keeps in DOZE to DOWN, the test bus is told. The model's own:
the list of messages (log 1), one evaluation for one change (log 33), the available power of 0 while the stage is undecided, for which R171 gives no
figure (log 54). -/
def Obligations.EvaluationAdmitsWhatFits : Prop :=
  ∀ s : State, s.ParametersLegal → ∃ (t : State) (e : Evaluation), exec .evaluation s = .next t ∧ t.pbu.last = some e ∧
    (let place : LoadId → Nat := fun l => match l with | .heater => 0 | .testBus => 1 | .port p => 2 + p.val
     let wants (l : LoadId) (reserved : Bool) (power rank : Nat) : Prop :=
       match l with
       | .heater => s.csu.heaterDemand = true ∧ reserved = false ∧ power = s.settings.heaterPower ∧ rank = s.settings.heaterRank
       | .testBus => s.ptc.demand = true ∧ reserved = false ∧ power = s.settings.busPower ∧ rank = s.settings.busRank
       | .port p =>
         power = (s.sub p).portPower ∧ rank = (s.sub p).shedRank ∧
           (let c := (s.port p).causes
            let only : Prop := c.thermal = false ∧ c.idle = false
            (reserved = false ∧
              ((s.port p).state = .down ∨ (s.port p).state = .training ∨ (s.port p).state = .up ∨
                ((s.port p).state = .doze ∧ c.shed = true ∧ only))) ∨
            (reserved = true ∧ (s.port p).state = .test ∧ (s.port p).returnTarget = some .down ∧ only))
     let budget : Option Nat := s.csu.stage.map fun st => match st with
       | .mains => s.settings.budgetMains
       | .normal => s.settings.budgetNormal
       | .economy => s.settings.budgetEconomy
       | .conserve => s.settings.budgetConserve
     (∀ l reserved power rank, wants l reserved power rank ↔
       ∃ x ∈ e.entries, x.load = l ∧ x.reserved = reserved ∧ x.power = power ∧ x.rank = rank) ∧
     (e.entries.Pairwise fun x y => y.rank < x.rank ∨ (y.rank = x.rank ∧ place x.load < place y.load)) ∧
     e.available = (match budget with | some b => b - s.settings.baseLoad | none => 0) ∧
     (∀ front x rest, e.entries = front ++ x :: rest →
       (x.decision = .admitted ↔
         (∃ b, budget = some b ∧ s.settings.baseLoad ≤ b) ∧ (front.map (·.power)).sum + x.power ≤ e.available ∧
           ∀ y ∈ front, y.decision = .admitted)) ∧
     ((e.entries.filter fun x => x.decision == .admitted).map (·.power)).sum ≤ e.available ∧
     (∀ x ∈ e.entries, t.pbu.sent x.load = some x.decision) ∧
     (∀ l, (∀ x ∈ e.entries, x.load ≠ l) → t.pbu.sent l = none) ∧
     (∀ x ∈ e.entries, ∀ p, x.load = .port p →
       (s.pbu.sent x.load = some x.decision → t.port p = s.port p) ∧
       (s.pbu.sent x.load ≠ some .shed → x.decision = .shed →
         (s.port p).state = .down ∨ (s.port p).state = .training ∨ (s.port p).state = .up →
         t.port p =
           { s.port p with
             state := .doze, causes := ⟨true, false, false⟩, orderOn := false, rates := none, idleTimer := none
             counters := { (s.port p).counters with dozes := plusOne (s.port p).counters.dozes } }) ∧
       (s.pbu.sent x.load ≠ some .admitted → x.decision = .admitted → (s.port p).state = .doze →
         (t.port p).state = .down ∧ (t.port p).causes = ⟨false, false, false⟩ ∧ (t.port p).wakePending = false)) ∧
     (∀ x ∈ e.entries, x.load = .testBus → s.pbu.busSent ≠ some x.decision →
       (match x.decision with | .shed => Instr.busShed ∈ t.mail | .admitted => Instr.busAdmit ∈ t.mail)) ∧
     (∀ p, (∀ x ∈ e.entries, x.load ≠ .port p) → t.port p = s.port p)) ∧
    Reported s t ∧ OnlyIn [.ports, .mail, .scu, .txs, .cbm, .lwu, .mga, .pbu] s t

/-! ## The management agent (10) -/

/-- AGENT_FRAME_TAKE_IN (R34, R176, R177): in IDLE, with no reset waiting, the store not served last is served, or the only one that holds a frame;
a frame in the form of R177 is accepted, counted, and executed from its first directive on, an uplink frame teaching the notice destination; a frame
that fails a check is rejected and counted. REPORT_PLACEMENT (R59, R179, R180, R191): with room the report takes its cells, goes to the tail of its
queue, the arbiter then making its choice (R87, R88), or on when its link is free, and clears the marks it carries; without room it is kept.
REPORT_ABANDON: 2 s after its first offer it is lost. A directive answered lets the next one come up, and after the last, once it is complete with
its effects on every block, the report is built (R178): its header with the five flags and its entries (R193), addressed and tagged as R179 says.
The model's own: the list of messages (log 1), the clock (log 2), the frame's other fields (log 11), completion of a directive (log 55). -/
def Obligations.FramesAreTakenInAndAnswered : Prop :=
  (∀ (o : Origin) (f : AgentFrame) (s : State), s.mga.exec = .idle → s.mga.resetWait = .none →
    (o = .uplink ∧ s.mga.uplinkStore = some f ∧ (s.mga.craftStore = none ∨ s.mga.servedLast = .craft)) ∨
      (o = .craft ∧ s.mga.craftStore = some f ∧ (s.mga.uplinkStore = none ∨ s.mga.servedLast = .uplink)) → f.origin = o →
    let served (t : State) : Prop :=
      t.mga.servedLast = o ∧ (o = .uplink → t.mga.uplinkStore = none ∧ t.mga.craftStore = s.mga.craftStore) ∧
        (o = .craft → t.mga.craftStore = none ∧ t.mga.uplinkStore = s.mga.uplinkStore) ∧ t.mga.subscribers = s.mga.subscribers ∧
        t.mga.faults = s.mga.faults ∧ t.mga.locked = s.mga.locked ∧ OnlyIn [.mga, .mail, .cbm, .txs] s t
    (∀ (kind : Octet) (cabinet sequence : Nat) (d : Directive) (ds : List Directive) (rest : List Octet) (a b c : Octet),
      f.ethertype = 0x88B5#16 → cabinet = s.mga.cabinet.toNat ∨ cabinet = 65535 → sequence < 65536 → (d :: ds).length ≤ 16 →
      (∀ x ∈ d :: ds, x.params.length < 65536) →
      f.payload =
        [1#8, kind] ++ num2 cabinet ++ num2 sequence ++ [octet (d :: ds).length, a, b, c] ++
          ((d :: ds).flatMap fun x => x.code :: num2 x.params.length ++ x.params) ++ rest →
      ∃ t, exec .agentFrameTakeIn s = .next t ∧ served t ∧
        t.mga.exec = .executing { frame := f, sequence := sequence, directives := d :: ds, index := 0, entries := [], cut := 0 } ∧
        t.mga.accepted = s.mga.accepted + 1#32 ∧ t.mga.rejected = s.mga.rejected ∧
        t.mga.destination = (if o = .uplink then some ⟨f.source, f.vid⟩ else s.mga.destination) ∧ directiveCommand o d ∈ t.mail) ∧
    (f.ethertype ≠ 0x88B5#16 ∨ f.payload.length < 10 ∨ f.payload[0]? ≠ some 1#8 ∨ f.payload[6]? = some 0#8 ∨
        (∃ n, f.payload[6]? = some n ∧ 16 < n.toNat) ∨
        (∃ x y, f.payload[2]? = some x ∧ f.payload[3]? = some y ∧ x.toNat * 256 + y.toNat ≠ s.mga.cabinet.toNat ∧
          x.toNat * 256 + y.toNat ≠ 65535) ∨
        (∃ (a b c d e g h i j : Octet) (n : Nat) (done : List Directive) (short : List Octet),
          f.payload = [a, b, c, d, e, g, octet n, h, i, j] ++ (done.flatMap fun x => x.code :: num2 x.params.length ++ x.params) ++ short ∧
            done.length < n ∧ n ≤ 16 ∧ (∀ x ∈ done, x.params.length < 65536) ∧
            (short.length < 3 ∨ ∃ code x y tail, short = code :: x :: y :: tail ∧ tail.length < x.toNat * 256 + y.toNat)) →
      ∃ t, exec .agentFrameTakeIn s = .next t ∧ served t ∧ t.mga.exec = .idle ∧ t.mga.rejected = plusOne s.mga.rejected ∧
        t.mga.accepted = s.mga.accepted ∧ t.mga.destination = s.mga.destination)) ∧
  (∀ s : State, s.mga.exec ≠ .idle ∨ s.mga.resetWait ≠ .none → ∃ t, exec .agentFrameTakeIn s = .next t ∧ OnlyIn [.mail] s t) ∧
  (∀ (o : Origin) (d : Directive) (e : Execution) (s t : State),
    s.mga.exec = .executing e → e.frame.origin = o → e.directives[e.index]? = some d → e.index = 0 ∨ s.quiet = true →
    exec (directiveCommand o d) s = .next t →
    ∃ (x : OutcomeEntry) (cut : Nat), t.mga.lastEntry = some x ∧ x.code = d.code ∧ (cut = e.cut ∨ (cut = e.cut + 1 ∧ x.data = [])) ∧
      let after : Execution := { e with entries := e.entries ++ [x], index := e.index + 1, cut := cut }
      (∀ next, e.directives[e.index + 1]? = some next → d.code ≠ 0x79#8 →
        t.mga.exec = .executing after ∧ directiveCommand o next ∈ t.mail) ∧
      (e.directives[e.index + 1]? = none → Instr.reportPlacement ∈ t.mail ∧
        t.mga.exec = if t.quiet then .reporting (t.reportOf after) else .executing after)) ∧
  (∀ (e : Execution) (s : State),
    let r := s.reportOf e
    let mga := s.mga
    let octets : List Octet :=
      [1#8, 2#8] ++ num2 mga.cabinet.toNat ++ num2 e.sequence ++
        [octet e.entries.length, octet e.cut,
          octet ((if mga.faults = [] then 0 else 1) + (if mga.changeMark then 2 else 0) + (if mga.locked then 4 else 0) +
            (if mga.lostMark then 8 else 0) + (if e.frame.origin = .craft then 16 else 0)), 0#8] ++
        e.entries.flatMap fun x => [x.code, octet x.outcome.code] ++ num2 x.data.length ++ x.data
    r.origin = e.frame.origin ∧ r.offeredAt = none ∧ r.carriesChange = mga.changeMark ∧ r.carriesLost = mga.lostMark ∧
      r.image.header.destination = e.frame.source ∧ r.image.header.ethertype = 0x88B5#16 ∧
      r.image.header.tag.map (·.vid) = (match e.frame.origin with | .uplink => some (BitVec.ofNat 12 e.frame.vid) | .craft => none) ∧
      r.image.payload = octets ++ List.replicate (r.length - ((if e.frame.origin = .uplink then 22 else 18) + octets.length)) 0#8 ∧
      r.length = max 64 ((if e.frame.origin = .uplink then 22 else 18) + octets.length)) ∧
  (∀ (e : Execution) (s : State), s.mga.exec = .executing e → e.directives.length ≤ e.index →
    (s.quiet = false → exec .reportPlacement s = .next s) ∧
      (s.quiet = true → exec .reportPlacement s = exec .reportPlacement (s.buildReport e))) ∧
  ∀ (r : Report) (s : State), s.mga.exec = .reporting r →
    let cells := (r.length + 127) / 128
    let d (held : List Nat) : Descriptor :=
      { length := r.length, cells := held, source := .agent, result := none, queue := match r.origin with | .uplink => .aq | .craft => .cq
        image := r.image, agentKind := some (.report r.answersReset) }
    (cells ≤ 64 - s.cbm.reservedHeld → ∃ t, exec .reportPlacement s = .next t ∧ t.mga.exec = .idle ∧
      t.mga.changeMark = (s.mga.changeMark && !r.carriesChange) ∧ t.mga.lostMark = (s.mga.lostMark && !r.carriesLost) ∧
      (r.origin = .uplink → t.cbm.reservedHeld = s.cbm.reservedHeld + cells ∧
        (s.uplinkMayStart = false → ∃ held, held.length = cells ∧ t.cbm.aq = s.cbm.aq ++ [d held] ∧ t.txs = s.txs) ∧
        (s.uplinkMayStart = true → s.cbm.aq = [] → ∃ held, held.length = cells ∧ t.cbm.aq = [] ∧ t.txs.uplinkTx = some (d held).sent) ∧
        ∃ (held : List Nat) (u : State), held.length = cells ∧ u.cbm.aq = s.cbm.aq ++ [d held] ∧ (∀ q, q ≠ .aq → u.queue q = s.queue q) ∧
          u.txs = s.txs ∧ u.scu = s.scu ∧ u.UplinkChosen t) ∧
      (r.origin = .craft → s.craftAlive = true → t.cbm.reservedHeld = s.cbm.reservedHeld + cells ∧
        (s.txs.craftTx ≠ none → ∃ held, held.length = cells ∧ t.cbm.cq = s.cbm.cq ++ [d held]) ∧
        (s.txs.craftTx = none → s.cbm.cq = [] → ∃ held, held.length = cells ∧ t.cbm.cq = [] ∧ t.txs.craftTx = some (d held).sent)) ∧
      (r.origin = .craft → s.craftAlive = false → t.cbm.cq = []) ∧
      (r.answersReset = true → r.origin = .uplink → t.mga.resetWait = .placed (s.now + 2000000)) ∧
      (r.answersReset = false → r.origin = .uplink → s.mga.resetWait = .none → s.mga.uplinkStore ≠ none → Instr.agentFrameTakeIn ∈ t.mail) ∧
      OnlyIn [.mga, .mail, .cbm, .txs] s t) ∧
    (64 - s.cbm.reservedHeld < cells → ∃ t, exec .reportPlacement s = .next t ∧
      t.mga = { s.mga with exec := .reporting { r with offeredAt := some (r.offeredAt.getD s.now) } } ∧ OnlyIn [.mga, .mail] s t) ∧
    (∀ first, r.offeredAt = some first → ∃ t, exec .reportAbandon s = .next t ∧ t.now = max s.now (first + 2000000) ∧
      t.mga =
        { s.mga with
          exec := .idle, reportsLost := plusOne s.mga.reportsLost
          resetWait := if r.answersReset then .over else s.mga.resetWait } ∧
      (r.answersReset = true → Instr.directedReset ∈ t.mail) ∧ OnlyIn [.now, .mga, .mail] s t) ∧
    (r.offeredAt = none → exec .reportAbandon s = .next s)

/-- The reads (R181, R193): each runs whatever the lock and the origin, is refused BAD_PARAM for a port, bank, range, id or group outside its list,
else answers DONE with the data of its rule, and changes nothing, but that FAULT_READ takes the inactive records out of the log, not from the craft
port without permission and not when its entry is cut, and COUNTERS_READ clears its group when asked to and not cut. The layouts are those of R193
and R194: the entry of FT_READ, the subscriber record, a measurement item, a result record, and the answer of TEST_RESULT by where the id is found
(R23, R41, R81, R120, R144, R154, R159, R169, R174, R184, R187, R188, R189). SET_READ begins with the agent's own settings (R188), and TEST_LIST
carries the wait time of a RUNNING record as absent (R120, R192). The model's own: the list of messages (log 1), a directive that comes alone (log
3), the octets of yes, on and a clear asked for, 1 (log 24), the layouts of result data that the spec names by content alone (log 25), counters that
were cut (log 27), when an entry is cut (log 44), the octet of the craft write policy (log 61), the phase octet of MEAS_READ (log 62). -/
def Obligations.ReadsAnswerAndChangeNothing : Prop :=
  (∀ n : Nat, num1 n = [octet n] ∧ num2 n = [octet (n / 256), octet n] ∧
    num4 n = [octet (n / 16777216), octet (n / 65536), octet (n / 256), octet n] ∧ (octet n).toNat = n % 256) ∧
  (∀ (index : Nat) (e : FlowEntry),
    flowItemOctets index (some e) =
      [octet index, 1#8, octet e.direction.code, octet (match e.port with | some p => p.val | none => 255)] ++ num2 e.vid ++
        [octet e.action.code, octet e.classMode.code, octet (match e.target with | some p => p.val | none => 255)] ++
        num2 (match e.retagVid with | some v => v | none => 0) ++ num4 e.hits.toNat ∧
      (flowItemOctets index (some e)).length = 15 ∧ flowItemOctets index none = octet index :: List.replicate 14 0#8) ∧
  (∀ (p : Port) (u : Subscriber),
    Subscriber.octets p u =
      [octet p.val] ++ num4 u.committedUp ++ num4 u.upPeak ++ num4 u.downPeak ++ [octet u.weight] ++ num4 u.upBurst ++ num4 u.downBurst ++
        num2 u.expressCap ++ num2 u.bulkCap ++ [octet u.shedRank] ++ num2 u.portPower ++ num2 u.idleDoze ++
        [if u.wake then 1#8 else 0#8, if u.watch then 1#8 else 0#8] ++
        (match u.expected with | some x => num2 x | none => [255#8, 255#8]) ++ [octet u.policy.code] ++
        (match u.defaultVid with | some v => num2 v | none => [0#8, 0#8]) ++ [octet u.classThreshold] ∧
      (Subscriber.octets p u).length = 39) ∧
  (∀ i : Item,
    let signed (v : Option Int) : List Octet := num2 ((v.getD 0) % 65536).toNat
    itemOctets i =
      [octet i.name.code, octet i.path.code,
        octet ((if i.flags.saturated then 1 else 0) + (if i.flags.limited then 2 else 0) + (if i.flags.atOrAbove then 4 else 0)),
        octet i.verdict.code] ++ signed i.value ++ signed i.volts ++ signed i.amps ++
        (match i.word with
         | some w =>
           [octet w.bitCount] ++ (match w.data with | some x => num2 x | none => [255#8, 255#8]) ++
             [match w.parityGood with | some true => 0#8 | some false => 1#8 | none => 255#8, if w.alarm then 1#8 else 0#8,
               octet w.endReason.code]
         | none => List.replicate 6 0#8) ∧
      (itemOctets i).length = 16) ∧
  (∀ x : ResultRecord,
    let q := x.request
    x.octets =
      num2 q.id ++ [octet q.port.val, octet q.kind.code, octet q.mode.code, octet q.origin.code, octet q.urgency.code, octet x.outcome.code,
        octet (match x.cause with | some c => c.code | none => 255), octet x.items.length] ++ num4 q.accepted ++ num4 x.ended ++
        x.items.flatMap itemOctets ∧
      x.octets.length = 18 + 16 * x.items.length) ∧
  (∀ (id : Nat) (s : State),
    (∀ front x back, s.ptc.log = front ++ x :: back → x.request.id = id → (∀ y ∈ front, y.request.id ≠ id) →
      s.resultOctets id = 0#8 :: x.octets) ∧
    ((∀ x ∈ s.ptc.log, x.request.id ≠ id) → (∀ r ∈ s.ptc.requests, r.id ≠ id) → s.resultOctets id = [3#8]) ∧
    (∀ front r back, (∀ x ∈ s.ptc.log, x.request.id ≠ id) → s.ptc.requests = front ++ r :: back → r.id = id → (∀ y ∈ front, y.id ≠ id) →
      r.status = .waiting →
      s.resultOctets id =
        2#8 :: num4 (front.length + 1) ++
          num4 ((s.resetAt + (r.accepted + s.settings.testWaitLimit) * 1000000 - s.now + 999999) / 1000000))) ∧
  (∀ (g : Settings) (s : State) (r : Request),
    g.octets.take 10 = octet g.craftPolicy.code :: g.noticeEnables.toList.map (fun b => if b then 1#8 else 0#8) ∧
      (r.status = .running → s.requestOctets r =
        num4 r.id ++ [octet r.port.val, octet r.kind.code, octet r.mode.code, octet r.origin.code, octet r.urgency.code] ++ num4 r.accepted ++
          [1#8, 128#8, 0#8, 0#8, 0#8])) ∧
  ∀ (o : Origin) (s : State),
    let read (c : Instr) (code : Octet) (params data : List Octet) : Prop :=
      s.comesUp o code params → ∃ t, exec c s = .next t ∧ Answered code .done data s t ∧ t.besideDirective = s.besideDirective
    (∀ p : Port,
      read (.portStatus o [portOctet p]) 0x14#8 [portOctet p] (s.statusOctets p) ∧
      read (.subRead o [portOctet p]) 0x71#8 [portOctet p] ((s.sub p).octets p)) ∧
    (∀ bank first count : Octet, bank.toNat ≤ 1 → count.toNat ≤ 16 → first.toNat + count.toNat ≤ 256 →
      read (.ftRead o [bank, first, count]) 0x23#8 [bank, first, count]
        (s.ftSummary ++ Bank.items first.toNat (if bank = 0#8 then s.fcl.active else s.fcl.candidate) count.toNat)) ∧
    (∀ x : Octet, 16 ≤ x.toNat →
      (s.comesUp o 0x14#8 [x] → Refused (.portStatus o [x]) 0x14#8 .badParam s) ∧
        (s.comesUp o 0x71#8 [x] → Refused (.subRead o [x]) 0x71#8 .badParam s)) ∧
    (∀ bank first count : Octet, 1 < bank.toNat ∨ 16 < count.toNat ∨ 256 < first.toNat + count.toNat →
      s.comesUp o 0x23#8 [bank, first, count] → Refused (.ftRead o [bank, first, count]) 0x23#8 .badParam s) ∧
    (s.comesUp o 0x43#8 [0#8, 0#8] → Refused (.testResult o [0#8, 0#8]) 0x43#8 .badParam s) ∧
    (∀ group clear : Octet, 4 < group.toNat ∨ 1 < clear.toNat → (clear = 1#8 → o = .craft → s.craftPermitted = true) →
      s.comesUp o 0x74#8 [group, clear] → Refused (.countersRead o [group, clear]) 0x74#8 .badParam s) ∧
    (∀ id : Nat, 1 ≤ id → id ≤ 65535 → read (.testResult o (num2 id)) 0x43#8 (num2 id) (s.resultOctets id)) ∧
    read (.shareRead o []) 0x30#8 [] s.shareOctets ∧ read (.testList o []) 0x42#8 [] s.listOctets ∧
    read (.measRead o []) 0x51#8 [] s.measOctets ∧ read (.watchRead o []) 0x58#8 [] s.watchOctets ∧
    read (.contactRead o []) 0x61#8 [] s.contactOctets ∧ read (.supplyRead o []) 0x62#8 [] s.supplyOctets ∧
    read (.budgetRead o []) 0x64#8 [] s.budgetOctets ∧ read (.setRead o []) 0x73#8 [] s.settings.octets ∧
    (s.comesUp o 0x75#8 [] →
      let data := s.mga.faults.flatMap FaultRecord.octets ++ num4 s.mga.faultsLost
      ∃ t, exec (.faultRead o []) s = .next t ∧ Answered 0x75#8 .done data s t ∧
        t.mga.faults =
          (if (o = .uplink ∨ s.craftPermitted = true) ∧ s.dataFits data.length = true then s.mga.faults.filter (·.active)
           else s.mga.faults) ∧
        t.mga.faultsLost = s.mga.faultsLost ∧ OnlyIn [.mga, .mail] s t) ∧
    ∀ (group : Nat) (which : CounterGroup) (clear : Bool), counterGroupOf group = some which → group < 256 →
      (clear = true → o = .craft → s.craftPermitted = true) →
      s.comesUp o 0x74#8 [octet group, if clear then 1#8 else 0#8] →
      ∃ t, exec (.countersRead o [octet group, if clear then 1#8 else 0#8]) s = .next t ∧
        Answered 0x74#8 .done (s.groupOctets which) s t ∧
        t.besideDirective =
          (if clear = true ∧ s.dataFits (s.groupOctets which).length = true then s.clearGroup which else s).besideDirective

/-- The writes of parameters by field items (R143, R159, R187, R188, R195), with one item: a field that is unknown or a value out of its range is
BAD_PARAM and changes nothing, as is a field named twice and a port or contact outside its list; a good one changes that parameter alone, with what
its rule brings at once. SUB_WRITE of wake or watch works both watches of the pair out again (R146, R148, R151), and each SUB_WRITE brings a
selection (R104): the first record runs when it is permitted and its port free, and a lone one no longer permitted ends ABORTED, POLICY. SET_WRITE
keeps the orderings of R169, and a lowered wait limit leaves no request behind its deadline (R105); MEAS_CONFIG keeps its own and is taken only in
SUSPENDED. The model's own: the list of messages (log 1), the clock (log 2), a directive that comes alone (log 3), the forms of yes and no (log 24),
an absent default VID (log 26), the octet of the craft write policy (log 61). -/
def Obligations.FieldWritesTakeEffect : Prop :=
  ∀ (o : Origin) (n : Nat) (v : Int) (s : State), s.mayChange o → n < 256 → -2147483648 ≤ v → v < 2147483648 →
    let item : List Octet := octet n :: int4 v
    let refused (c : Instr) (code : Octet) (why : DirectiveOutcome) : Prop :=
      ∃ t, exec c s = .next t ∧ Answered code why [] s t ∧ t.besideDirective = s.besideDirective
    (s.comesUp o 0x72#8 item →
      (Settings.write n v s.settings = none → refused (.setWrite o item) 0x72#8 .badParam) ∧
      (∀ g, Settings.write n v s.settings = some g → g.ordered = false → refused (.setWrite o item) 0x72#8 .badParam) ∧
      (∀ g, Settings.write n v s.settings = some g → g.ordered = true → ∃ t, exec (.setWrite o item) s = .next t ∧
        Answered 0x72#8 .done [] s t ∧ t.settings = g ∧ (97 ≤ n → n ≤ 101 → t.scu.computation.isSome = true) ∧
        (203 ≤ n → n ≤ 211 → Instr.evaluation ∈ t.mail) ∧
        (n = 163 → ∀ p, (t.lwu.records.get p).warnCount ≤ g.persistence ∧ (t.lwu.records.get p).hazardCount ≤ g.persistence) ∧
        (n = 129 → g.testWaitLimit < s.settings.testWaitLimit →
          ∀ r ∈ t.ptc.requests, r.status = .waiting → s.now < s.resetAt + (r.accepted + g.testWaitLimit) * 1000000) ∧
        (n = 194 → t.CraftJudged) ∧ (n ≠ 194 → t.fcl = s.fcl) ∧
        OnlyIn [.settings, .scu, .ptc, .lwu, .csu, .fcl, .mga, .cbm, .txs, .mail] s t ∧ t.mga.subscribers = s.mga.subscribers)) ∧
    (s.comesUp o 0x72#8 (item ++ item) → refused (.setWrite o (item ++ item)) 0x72#8 .badParam) ∧
    (∀ x : Octet,
      (16 ≤ x.toNat → s.comesUp o 0x70#8 (x :: item) → refused (.subWrite o (x :: item)) 0x70#8 .badParam) ∧
      (8 ≤ x.toNat → s.comesUp o 0x60#8 (x :: item) → refused (.contactConfig o (x :: item)) 0x60#8 .badParam)) ∧
    (∀ p : Port, s.comesUp o 0x70#8 (portOctet p :: item) →
      (Subscriber.write n v (s.sub p) = none → refused (.subWrite o (portOctet p :: item)) 0x70#8 .badParam) ∧
      (∀ u, Subscriber.write n v (s.sub p) = some u → ∃ t, exec (.subWrite o (portOctet p :: item)) s = .next t ∧
        Answered 0x70#8 .done [] s t ∧ t.sub p = u ∧ (∀ q, q ≠ p → t.sub q = s.sub q) ∧ OtherPorts p s t ∧
        (t.port p).state = (s.port p).state ∧ t.scu.computation.isSome = true ∧ (n = 9 ∨ n = 10 → Instr.evaluation ∈ t.mail) ∧
        (u.upBurst ≠ (s.sub p).upBurst → (t.txs.upBuckets.get p).tokens ≤ max 1664 u.upBurst) ∧
        (u.downBurst ≠ (s.sub p).downBurst → (t.txs.downBuckets.get p).tokens ≤ max 1664 u.downBurst) ∧
        ((s.port p).state = .up → u.idleDoze ≠ (s.sub p).idleDoze →
          (t.port p).idleTimer = if u.idleDoze = 0 then none else some (s.now + u.idleDoze * 1000000)) ∧
        (n ≠ 12 → n ≠ 13 → t.lwu = s.lwu) ∧
        (n = 12 ∨ n = 13 →
          let w := s.lwu.records.get p
          let fv : Bool := s.lwu.armed && u.watch && (s.port p).state != .test
          let wake : Bool := s.lwu.armed && u.wake && (s.port p).state == .doze
          let ends : Bool := w.fvWatched && !fv
          t.lwu.armed = s.lwu.armed ∧ (∀ q, q ≠ p → t.lwu.records.get q = s.lwu.records.get q) ∧
            t.lwu.records.get p =
              { fvWatched := fv, wakeWatched := wake
                warnCount := if fv = w.fvWatched then w.warnCount else 0
                hazardCount := if fv = w.fvWatched then w.hazardCount else 0
                warnDeclared := fv == w.fvWatched && w.warnDeclared, hazardDeclared := fv == w.fvWatched && w.hazardDeclared
                lastReported := if ends then .none else w.lastReported
                wakeSeen := wake == w.wakeWatched && w.wakeSeen, lastSample := if ends then none else w.lastSample } ∧
            (t.lwu.timer ≠ none ↔ ∃ q, (t.lwu.records.get q).fvWatched = true ∨ (t.lwu.records.get q).wakeWatched = true) ∧
            (∀ x, s.lwu.timer = some x → t.lwu.timer ≠ none → t.lwu.timer = some x) ∧
            (ends = true → w.warnDeclared = true ∨ w.hazardDeclared = true →
              ∀ f ∈ t.mga.faults, f.source = .line p → f.kind = .foreignVoltage → f.active = false)) ∧
        (let selects : Prop := s.ptc.state = .idle ∧ s.ptc.blocked = false ∧ s.ptc.shedMark = false
         let permitted (r : Request) : Prop := (t.sub r.port).policy = .any ∨ ((t.sub r.port).policy = .idleOnly ∧ r.mode = .waitIdle)
         let view (r : Request) : PortView := s.ptc.view.get r.port
         let free (r : Request) : Prop :=
           (view r).state ≠ .held ∧ ¬((view r).state = .disabled ∧ (view r).held = true) ∧ (view r).phase = .none ∧
             ¬((view r).state = .up ∧ r.mode = .waitIdle)
         t.ptc.view = s.ptc.view ∧
           (¬selects → t.ptc = { s.ptc with demand := t.ptc.demand }) ∧
           (∀ r rest, selects → s.ptc.requests = r :: rest → r.status = .waiting → permitted r → free r →
             t.ptc.state = .claim ∧ t.ptc.course = some ⟨none, none, [], false⟩ ∧ t.ptc.log = s.ptc.log ∧
               Instr.take r.id r.port (r.mode == .intrude) ∈ t.mail ∧
               t.ptc.requests = s.ptc.requests.map (fun x => if x.id = r.id then { x with status := .running } else x)) ∧
           (∀ r, selects → s.ptc.requests = [r] → r.status = .waiting → ¬permitted r →
             t.ptc.state = .idle ∧ t.ptc.requests = [] ∧
               t.ptc.log =
                 (if s.ptc.log.length < 16 then s.ptc.log else s.ptc.log.drop 1) ++ [⟨r, .aborted, some .policy, [], s.sinceReset⟩])) ∧
        OnlyIn [.ports, .scu, .lwu, .ptc, .mga, .cbm, .txs, .mail] s t)) ∧
    (s.comesUp o 0x50#8 item →
      (MeasConfig.write n v s.msu.config = none → refused (.measConfig o item) 0x50#8 .badParam) ∧
      (∀ c, MeasConfig.write n v s.msu.config = some c → c.consistent = false → refused (.measConfig o item) 0x50#8 .badParam) ∧
      (∀ c, MeasConfig.write n v s.msu.config = some c → c.consistent = true → s.ptc.state ≠ .suspended →
        refused (.measConfig o item) 0x50#8 .notSuspended) ∧
      (∀ c, MeasConfig.write n v s.msu.config = some c → c.consistent = true → s.ptc.state = .suspended →
        ∃ t, exec (.measConfig o item) s = .next t ∧ Answered 0x50#8 .done [] s t ∧ t.msu = { s.msu with config := c } ∧
          OnlyIn [.msu, .mga, .mail] s t)) ∧
    ∀ k : Contact, s.comesUp o 0x60#8 (octet k.val :: item) →
      let old := s.csu.contacts.get k
      (ContactRecord.write n v old = none → refused (.contactConfig o (octet k.val :: item)) 0x60#8 .badParam) ∧
      (∀ new, ContactRecord.write n v old = some new → ∃ t, exec (.contactConfig o (octet k.val :: item)) s = .next t ∧
        Answered 0x60#8 .done [] s t ∧
        (let tells : Bool := !old.noticeEnable && new.noticeEnable && old.debounced.isSome && old.debounced != old.lastReported
         t.csu.contacts.get k = { new with lastReported := if tells then old.debounced else old.lastReported }) ∧
        (∀ j, j ≠ k → t.csu.contacts.get j = s.csu.contacts.get j) ∧ OnlyIn [.csu, .mga, .cbm, .txs, .mail] s t)

/-- The checks of R178 in their order, by the tables of R196 and R181: an unknown code, a wrong length, a changing directive while locked, and a
directive from the craft port without write permission are refused and change nothing. LOCK and UNLOCK set and clear the lock (R181), NOTICE_TEST
raises its notice (R185), which with the destination known, the link up and no notice frame out leaves in a notice frame with the 15 oldest others at
most (R186, R193), and RESET ends its frame and makes the directed reset wait for the report (R178, R191). A directive behind another in its
frame has no effect before that one is complete with its effects on every block (R178). The model's own: the list of messages (log 1), a directive
that comes alone (log 3), a directive out of its turn (log 4), an UNKNOWN_DIRECTIVE command with a known code (log 19), the octet of a yes (log 24),
when RESET takes place (log 36), completion of a directive (log 55), the own address and tag of a built frame (log 11). -/
def Obligations.RefusalsAndTheLock : Prop :=
  (∀ (o : Origin) (d : Directive) (s : State), s.comesUp o d.code d.params →
    let n := d.code.toNat
    let len := d.params.length
    let refused (why : DirectiveOutcome) : Prop :=
      ∃ t, exec (directiveCommand o d) s = .next t ∧ Answered d.code why [] s t ∧ t.besideDirective = s.besideDirective
    let bare : List Nat :=
      [0x20, 0x21, 0x25, 0x26, 0x30, 0x31, 0x42, 0x44, 0x45, 0x46, 0x51, 0x58, 0x61, 0x62, 0x63, 0x64, 0x73, 0x75, 0x76, 0x77, 0x78, 0x79]
    let onePort : List Nat := [0x10, 0x11, 0x12, 0x13, 0x14, 0x71]
    let known : Prop := n ∈ bare ++ onePort ++ [0x22, 0x23, 0x24, 0x40, 0x41, 0x43, 0x50, 0x60, 0x70, 0x72, 0x74]
    let good : Prop :=
      (n ∈ bare ∧ len = 0) ∨ (n ∈ onePort ∧ len = 1) ∨ (n = 0x22 ∧ len = 11) ∨ (n = 0x23 ∧ len = 3) ∨
        (n = 0x24 ∧ (len = 2 ∨ len = 4)) ∨ (n = 0x40 ∧ len = 4) ∨ (n ∈ [0x41, 0x43, 0x74] ∧ len = 2) ∨
        (n ∈ [0x50, 0x72] ∧ 0 < len ∧ len % 5 = 0) ∨ (n ∈ [0x60, 0x70] ∧ 1 < len ∧ len % 5 = 1)
    let changing : Prop :=
      n ∈ [0x10, 0x11, 0x12, 0x13, 0x20, 0x21, 0x22, 0x24, 0x25, 0x26, 0x44, 0x45, 0x46, 0x50, 0x60, 0x63, 0x70, 0x72, 0x79]
    (¬known → refused .unknownDirective) ∧
    (known → ¬good → refused .badLength) ∧
    (good → changing → s.mga.locked = true → refused .locked) ∧
    (good → (changing ∧ s.mga.locked = false) ∨ n = 0x76 ∨ n = 0x77 ∨ (n = 0x74 ∧ d.params[1]? = some 1#8) → o = .craft →
      s.craftPermitted = false → refused .notPermitted)) ∧
  (∀ (o : Origin) (s : State), (o = .craft → s.craftPermitted = true) →
    (s.comesUp o 0x76#8 [] → ∃ t, exec (.lock o []) s = .next t ∧ Answered 0x76#8 .done [] s t ∧ t.mga.locked = true ∧
      t.besideDirective = { s.besideDirective with mga := { s.besideDirective.mga with locked := true } }) ∧
    (s.comesUp o 0x77#8 [] → ∃ t, exec (.unlock o []) s = .next t ∧ Answered 0x77#8 .done [] s t ∧ t.mga.locked = false ∧
      t.besideDirective = { s.besideDirective with mga := { s.besideDirective.mga with locked := false } })) ∧
  (∀ (o : Origin) (s : State), s.comesUp o 0x78#8 [] →
    let enabled : Bool := s.noticeEnabled .noticeTest
    ∃ t, exec (.noticeTest o []) s = .next t ∧ Answered 0x78#8 .done [if enabled then 1 else 0] s t ∧
      OnlyIn [.mga, .mail, .cbm, .txs] s t ∧
      (enabled = false → t.besideDirective = s.besideDirective) ∧
      (enabled = true → s.mga.destination = none → t.mga.changeMark = true ∧
        (s.mga.notices.length < 32 → t.mga.notices = s.mga.notices ++ [⟨.noticeTest, s.uptime⟩] ∧ t.mga.lostMark = s.mga.lostMark) ∧
        (s.mga.notices.length = 32 → t.mga.notices = s.mga.notices.drop 1 ++ [⟨.noticeTest, s.uptime⟩] ∧ t.mga.lostMark = true ∧
          t.mga.noticesDropped = plusOne s.mga.noticesDropped)) ∧
      ∀ dst, enabled = true → s.mga.destination = some dst →
        let full : Bool := decide (32 ≤ s.mga.notices.length)
        let queue : List NoticeItem := (if full then s.mga.notices.drop 1 else s.mga.notices) ++ [⟨.noticeTest, s.uptime⟩]
        let items := queue.take 16
        let octets : List Octet :=
          [1#8, 3#8] ++ num2 s.mga.cabinet.toNat ++
            [0#8, 0#8, octet items.length, 0#8, octet ((if s.mga.faults = [] then 0 else 1) + (if s.mga.locked then 4 else 0)), 0#8] ++
            items.flatMap NoticeItem.octets
        let length : Nat := max 64 (22 + octets.length)
        let cells : Nat := (length + 127) / 128
        let out : Prop := (∃ d ∈ s.cbm.aq, d.agentKind = some .notice) ∨ ∃ x, s.txs.uplinkTx = some x ∧ x.desc.agentKind = some .notice
        t.mga.changeMark = true ∧ t.mga.lostMark = (s.mga.lostMark || full) ∧
          (s.scu.linkUp = false ∨ out ∨ 64 - s.cbm.reservedHeld < cells → t.mga.notices = queue ∧ t.cbm = s.cbm ∧ t.txs = s.txs) ∧
          (s.scu.linkUp = true → ¬out → cells ≤ 64 - s.cbm.reservedHeld → t.mga.notices = queue.drop 16 ∧
            t.cbm.reservedHeld = s.cbm.reservedHeld + cells ∧ t.cbm.cq = s.cbm.cq ∧
            ∃ d : Descriptor, d.length = length ∧ d.cells.length = cells ∧ d.source = .agent ∧ d.queue = .aq ∧ d.agentKind = some .notice ∧
              d.image.header.destination = dst.address ∧ d.image.header.ethertype = 0x88B5#16 ∧
              d.image.header.tag.map (·.vid) = some (BitVec.ofNat 12 dst.vid) ∧
              d.image.payload = octets ++ List.replicate (length - (22 + octets.length)) 0#8 ∧
              (s.uplinkMayStart = false → t.cbm.aq = s.cbm.aq ++ [d] ∧ t.txs = s.txs) ∧
              (s.uplinkMayStart = true → s.cbm.aq = [] → t.cbm.aq = [] ∧ t.txs.uplinkTx = some d.sent))) ∧
  (∀ (o : Origin) (d : Directive) (e : Execution) (s : State), s.mga.exec = .executing e → 0 < e.index → s.quiet = false →
    exec (directiveCommand o d) s = .next s) ∧
  ∀ (o : Origin) (s : State), s.mayChange o →
    (∀ e : Execution, s.mga.exec = .executing e → e.frame.origin = o → e.directives[e.index]? = some ⟨0x79#8, []⟩ →
      e.index = 0 ∨ s.quiet = true →
      ∃ t, exec (.resetDirective o []) s = .next t ∧ Answered 0x79#8 .done [] s t ∧ t.mga.resetWait = .unplaced ∧
        (s.quiet = true → ∃ r, t.mga.exec = .reporting r ∧ r.answersReset = true ∧ r.origin = o ∧ r.offeredAt = none) ∧
        (s.quiet = false → ∃ after, t.mga.exec = .executing after ∧ after.directives.length = after.index ∧ after.index = e.index + 1) ∧
        Instr.reportPlacement ∈ t.mail ∧ OnlyIn [.mga, .mail] s t) ∧
    (s.mga.exec = .idle → s.mga.resetWait = .none → ∃ t, exec (.resetDirective o []) s = .next t ∧
      t.mga.resetWait = .over ∧ Instr.directedReset ∈ t.mail ∧ OnlyIn [.mga, .mail] s t)
end

