-- ==== Sys2Proof/Laws/Rows.lean ====
section
/-! SUPPORT. The laws of the per-index tables, and of an outcome. -/

namespace Sys2Proof

variable {n : Nat} {α β : Type}

@[simp] theorem Row.get_set_self (v : Row n α) (i : Fin n) (x : α) : (v.set i x).get i = x := by
  simp [Row.get, Row.set]

theorem Row.get_set_ne (v : Row n α) {i j : Fin n} (x : α) (h : j ≠ i) : (v.set i x).get j = v.get j := by
  have : i.val ≠ j.val := fun e => h (Fin.ext e.symm)
  simp [Row.get, Row.set, Vector.getElem_set_ne _ _ this]

theorem Row.get_set (v : Row n α) (i j : Fin n) (x : α) : (v.set i x).get j = if j = i then x else v.get j := by
  by_cases h : j = i
  · subst h; simp
  · simp [h, Row.get_set_ne]

@[simp] theorem Row.get_modify_self (v : Row n α) (i : Fin n) (f : α → α) : (v.modify i f).get i = f (v.get i) := by
  simp [Row.modify]

theorem Row.get_modify_ne (v : Row n α) {i j : Fin n} (f : α → α) (h : j ≠ i) : (v.modify i f).get j = v.get j := by
  simp [Row.modify, Row.get_set_ne _ _ h]

theorem Row.get_modify (v : Row n α) (i j : Fin n) (f : α → α) : (v.modify i f).get j = if j = i then f (v.get j) else v.get j := by
  by_cases h : j = i
  · subst h; simp
  · simp [h, Row.get_modify_ne]

@[simp] theorem Row.get_make (f : Fin n → α) (i : Fin n) : (Row.make f).get i = f i := by
  simp [Row.get, Row.make]

@[simp] theorem Row.get_all (x : α) (i : Fin n) : (Row.all x : Row n α).get i = x := by
  simp [Row.get, Row.all]

@[simp] theorem Row.get_mapEach (f : Fin n → α → β) (v : Row n α) (i : Fin n) : (v.mapEach f).get i = f i (v.get i) := by
  simp [Row.mapEach]

/-- Two rows with the same entries are one. -/
theorem Row.ext {v w : Row n α} (h : ∀ i, v.get i = w.get i) : v = w := by
  apply Vector.ext
  intro i hi
  simpa [Row.get] using h ⟨i, hi⟩

@[simp] theorem Row.set_get (v : Row n α) (i : Fin n) : v.set i (v.get i) = v :=
  Row.ext fun j => by
    by_cases h : j = i
    · subst h; simp
    · rw [Row.get_set_ne _ _ h]

@[simp] theorem mem_allPorts (p : Port) : p ∈ allPorts := List.mem_finRange p

end Sys2Proof
end

