-- ==== Sys2Proof/Laws/State.lean ====
section
/-! SUPPORT. What each named update of the state does to each field: one lemma for each, by `rfl`. -/

namespace Sys2Proof.Machine

variable (s : State)

@[simp] theorem State.reach_pending (t : Nat) : (s.reach t).pending = s.pending := rfl
@[simp] theorem State.reach_mail (t : Nat) : (s.reach t).mail = s.mail := rfl
@[simp] theorem State.reach_now (t : Nat) : (s.reach t).now = max s.now t := rfl
@[simp] theorem State.reach_resetAt (t : Nat) : (s.reach t).resetAt = s.resetAt := rfl
@[simp] theorem State.reach_ports (t : Nat) : (s.reach t).ports = s.ports := rfl
@[simp] theorem State.reach_fcl (t : Nat) : (s.reach t).fcl = s.fcl := rfl
@[simp] theorem State.reach_cbm (t : Nat) : (s.reach t).cbm = s.cbm := rfl
@[simp] theorem State.reach_scu (t : Nat) : (s.reach t).scu = s.scu := rfl
@[simp] theorem State.reach_txs (t : Nat) : (s.reach t).txs = s.txs := rfl
@[simp] theorem State.reach_ptc (t : Nat) : (s.reach t).ptc = s.ptc := rfl
@[simp] theorem State.reach_msu (t : Nat) : (s.reach t).msu = s.msu := rfl
@[simp] theorem State.reach_lwu (t : Nat) : (s.reach t).lwu = s.lwu := rfl
@[simp] theorem State.reach_csu (t : Nat) : (s.reach t).csu = s.csu := rfl
@[simp] theorem State.reach_pbu (t : Nat) : (s.reach t).pbu = s.pbu := rfl
@[simp] theorem State.reach_mga (t : Nat) : (s.reach t).mga = s.mga := rfl
@[simp] theorem State.reach_settings (t : Nat) : (s.reach t).settings = s.settings := rfl

@[simp] theorem State.post_pending (m : Instr) : (s.post m).pending = s.pending := rfl
@[simp] theorem State.post_mail (m : Instr) : (s.post m).mail = s.mail ++ [m] := rfl
@[simp] theorem State.post_now (m : Instr) : (s.post m).now = s.now := rfl
@[simp] theorem State.post_resetAt (m : Instr) : (s.post m).resetAt = s.resetAt := rfl
@[simp] theorem State.post_ports (m : Instr) : (s.post m).ports = s.ports := rfl
@[simp] theorem State.post_fcl (m : Instr) : (s.post m).fcl = s.fcl := rfl
@[simp] theorem State.post_cbm (m : Instr) : (s.post m).cbm = s.cbm := rfl
@[simp] theorem State.post_scu (m : Instr) : (s.post m).scu = s.scu := rfl
@[simp] theorem State.post_txs (m : Instr) : (s.post m).txs = s.txs := rfl
@[simp] theorem State.post_ptc (m : Instr) : (s.post m).ptc = s.ptc := rfl
@[simp] theorem State.post_msu (m : Instr) : (s.post m).msu = s.msu := rfl
@[simp] theorem State.post_lwu (m : Instr) : (s.post m).lwu = s.lwu := rfl
@[simp] theorem State.post_csu (m : Instr) : (s.post m).csu = s.csu := rfl
@[simp] theorem State.post_pbu (m : Instr) : (s.post m).pbu = s.pbu := rfl
@[simp] theorem State.post_mga (m : Instr) : (s.post m).mga = s.mga := rfl
@[simp] theorem State.post_settings (m : Instr) : (s.post m).settings = s.settings := rfl

@[simp] theorem State.taken_pending (m : Instr) : (s.taken m).pending = s.pending := rfl
@[simp] theorem State.taken_mail (m : Instr) : (s.taken m).mail = s.mail.erase m := rfl
@[simp] theorem State.taken_now (m : Instr) : (s.taken m).now = s.now := rfl
@[simp] theorem State.taken_resetAt (m : Instr) : (s.taken m).resetAt = s.resetAt := rfl
@[simp] theorem State.taken_ports (m : Instr) : (s.taken m).ports = s.ports := rfl
@[simp] theorem State.taken_fcl (m : Instr) : (s.taken m).fcl = s.fcl := rfl
@[simp] theorem State.taken_cbm (m : Instr) : (s.taken m).cbm = s.cbm := rfl
@[simp] theorem State.taken_scu (m : Instr) : (s.taken m).scu = s.scu := rfl
@[simp] theorem State.taken_txs (m : Instr) : (s.taken m).txs = s.txs := rfl
@[simp] theorem State.taken_ptc (m : Instr) : (s.taken m).ptc = s.ptc := rfl
@[simp] theorem State.taken_msu (m : Instr) : (s.taken m).msu = s.msu := rfl
@[simp] theorem State.taken_lwu (m : Instr) : (s.taken m).lwu = s.lwu := rfl
@[simp] theorem State.taken_csu (m : Instr) : (s.taken m).csu = s.csu := rfl
@[simp] theorem State.taken_pbu (m : Instr) : (s.taken m).pbu = s.pbu := rfl
@[simp] theorem State.taken_mga (m : Instr) : (s.taken m).mga = s.mga := rfl
@[simp] theorem State.taken_settings (m : Instr) : (s.taken m).settings = s.settings := rfl

@[simp] theorem State.takeCells_pending (a : Area) (n : Nat) : (s.takeCells a n).pending = s.pending := rfl
@[simp] theorem State.takeCells_mail (a : Area) (n : Nat) : (s.takeCells a n).mail = s.mail := rfl
@[simp] theorem State.takeCells_now (a : Area) (n : Nat) : (s.takeCells a n).now = s.now := rfl
@[simp] theorem State.takeCells_resetAt (a : Area) (n : Nat) : (s.takeCells a n).resetAt = s.resetAt := rfl
@[simp] theorem State.takeCells_ports (a : Area) (n : Nat) : (s.takeCells a n).ports = s.ports := rfl
@[simp] theorem State.takeCells_fcl (a : Area) (n : Nat) : (s.takeCells a n).fcl = s.fcl := rfl
@[simp] theorem State.takeCells_cbm (a : Area) (n : Nat) : (s.takeCells a n).cbm = { s.cbm.setHeld a (· + n) with picks := s.cbm.picks + n } := rfl
@[simp] theorem State.takeCells_scu (a : Area) (n : Nat) : (s.takeCells a n).scu = s.scu := rfl
@[simp] theorem State.takeCells_txs (a : Area) (n : Nat) : (s.takeCells a n).txs = s.txs := rfl
@[simp] theorem State.takeCells_ptc (a : Area) (n : Nat) : (s.takeCells a n).ptc = s.ptc := rfl
@[simp] theorem State.takeCells_msu (a : Area) (n : Nat) : (s.takeCells a n).msu = s.msu := rfl
@[simp] theorem State.takeCells_lwu (a : Area) (n : Nat) : (s.takeCells a n).lwu = s.lwu := rfl
@[simp] theorem State.takeCells_csu (a : Area) (n : Nat) : (s.takeCells a n).csu = s.csu := rfl
@[simp] theorem State.takeCells_pbu (a : Area) (n : Nat) : (s.takeCells a n).pbu = s.pbu := rfl
@[simp] theorem State.takeCells_mga (a : Area) (n : Nat) : (s.takeCells a n).mga = s.mga := rfl
@[simp] theorem State.takeCells_settings (a : Area) (n : Nat) : (s.takeCells a n).settings = s.settings := rfl

@[simp] theorem State.freeCells_pending (a : Area) (n : Nat) : (s.freeCells a n).pending = s.pending := rfl
@[simp] theorem State.freeCells_mail (a : Area) (n : Nat) : (s.freeCells a n).mail = s.mail := rfl
@[simp] theorem State.freeCells_now (a : Area) (n : Nat) : (s.freeCells a n).now = s.now := rfl
@[simp] theorem State.freeCells_resetAt (a : Area) (n : Nat) : (s.freeCells a n).resetAt = s.resetAt := rfl
@[simp] theorem State.freeCells_ports (a : Area) (n : Nat) : (s.freeCells a n).ports = s.ports := rfl
@[simp] theorem State.freeCells_fcl (a : Area) (n : Nat) : (s.freeCells a n).fcl = s.fcl := rfl
@[simp] theorem State.freeCells_cbm (a : Area) (n : Nat) : (s.freeCells a n).cbm = s.cbm.setHeld a (· - n) := rfl
@[simp] theorem State.freeCells_scu (a : Area) (n : Nat) : (s.freeCells a n).scu = s.scu := rfl
@[simp] theorem State.freeCells_txs (a : Area) (n : Nat) : (s.freeCells a n).txs = s.txs := rfl
@[simp] theorem State.freeCells_ptc (a : Area) (n : Nat) : (s.freeCells a n).ptc = s.ptc := rfl
@[simp] theorem State.freeCells_msu (a : Area) (n : Nat) : (s.freeCells a n).msu = s.msu := rfl
@[simp] theorem State.freeCells_lwu (a : Area) (n : Nat) : (s.freeCells a n).lwu = s.lwu := rfl
@[simp] theorem State.freeCells_csu (a : Area) (n : Nat) : (s.freeCells a n).csu = s.csu := rfl
@[simp] theorem State.freeCells_pbu (a : Area) (n : Nat) : (s.freeCells a n).pbu = s.pbu := rfl
@[simp] theorem State.freeCells_mga (a : Area) (n : Nat) : (s.freeCells a n).mga = s.mga := rfl
@[simp] theorem State.freeCells_settings (a : Area) (n : Nat) : (s.freeCells a n).settings = s.settings := rfl

@[simp] theorem State.modifyPort_pending (p : Port) (f : PortRecord → PortRecord) : (s.modifyPort p f).pending = s.pending := rfl
@[simp] theorem State.modifyPort_mail (p : Port) (f : PortRecord → PortRecord) : (s.modifyPort p f).mail = s.mail := rfl
@[simp] theorem State.modifyPort_now (p : Port) (f : PortRecord → PortRecord) : (s.modifyPort p f).now = s.now := rfl
@[simp] theorem State.modifyPort_resetAt (p : Port) (f : PortRecord → PortRecord) : (s.modifyPort p f).resetAt = s.resetAt := rfl
@[simp] theorem State.modifyPort_ports (p : Port) (f : PortRecord → PortRecord) : (s.modifyPort p f).ports = s.ports.modify p f := rfl
@[simp] theorem State.modifyPort_fcl (p : Port) (f : PortRecord → PortRecord) : (s.modifyPort p f).fcl = s.fcl := rfl
@[simp] theorem State.modifyPort_cbm (p : Port) (f : PortRecord → PortRecord) : (s.modifyPort p f).cbm = s.cbm := rfl
@[simp] theorem State.modifyPort_scu (p : Port) (f : PortRecord → PortRecord) : (s.modifyPort p f).scu = s.scu := rfl
@[simp] theorem State.modifyPort_txs (p : Port) (f : PortRecord → PortRecord) : (s.modifyPort p f).txs = s.txs := rfl
@[simp] theorem State.modifyPort_ptc (p : Port) (f : PortRecord → PortRecord) : (s.modifyPort p f).ptc = s.ptc := rfl
@[simp] theorem State.modifyPort_msu (p : Port) (f : PortRecord → PortRecord) : (s.modifyPort p f).msu = s.msu := rfl
@[simp] theorem State.modifyPort_lwu (p : Port) (f : PortRecord → PortRecord) : (s.modifyPort p f).lwu = s.lwu := rfl
@[simp] theorem State.modifyPort_csu (p : Port) (f : PortRecord → PortRecord) : (s.modifyPort p f).csu = s.csu := rfl
@[simp] theorem State.modifyPort_pbu (p : Port) (f : PortRecord → PortRecord) : (s.modifyPort p f).pbu = s.pbu := rfl
@[simp] theorem State.modifyPort_mga (p : Port) (f : PortRecord → PortRecord) : (s.modifyPort p f).mga = s.mga := rfl
@[simp] theorem State.modifyPort_settings (p : Port) (f : PortRecord → PortRecord) : (s.modifyPort p f).settings = s.settings := rfl

@[simp] theorem State.countPort_pending (p : Port) (f : PortCounters → PortCounters) : (s.countPort p f).pending = s.pending := rfl
@[simp] theorem State.countPort_mail (p : Port) (f : PortCounters → PortCounters) : (s.countPort p f).mail = s.mail := rfl
@[simp] theorem State.countPort_now (p : Port) (f : PortCounters → PortCounters) : (s.countPort p f).now = s.now := rfl
@[simp] theorem State.countPort_resetAt (p : Port) (f : PortCounters → PortCounters) : (s.countPort p f).resetAt = s.resetAt := rfl
@[simp] theorem State.countPort_ports (p : Port) (f : PortCounters → PortCounters) : (s.countPort p f).ports = s.ports.modify p fun r => { r with counters := f r.counters } := rfl
@[simp] theorem State.countPort_fcl (p : Port) (f : PortCounters → PortCounters) : (s.countPort p f).fcl = s.fcl := rfl
@[simp] theorem State.countPort_cbm (p : Port) (f : PortCounters → PortCounters) : (s.countPort p f).cbm = s.cbm := rfl
@[simp] theorem State.countPort_scu (p : Port) (f : PortCounters → PortCounters) : (s.countPort p f).scu = s.scu := rfl
@[simp] theorem State.countPort_txs (p : Port) (f : PortCounters → PortCounters) : (s.countPort p f).txs = s.txs := rfl
@[simp] theorem State.countPort_ptc (p : Port) (f : PortCounters → PortCounters) : (s.countPort p f).ptc = s.ptc := rfl
@[simp] theorem State.countPort_msu (p : Port) (f : PortCounters → PortCounters) : (s.countPort p f).msu = s.msu := rfl
@[simp] theorem State.countPort_lwu (p : Port) (f : PortCounters → PortCounters) : (s.countPort p f).lwu = s.lwu := rfl
@[simp] theorem State.countPort_csu (p : Port) (f : PortCounters → PortCounters) : (s.countPort p f).csu = s.csu := rfl
@[simp] theorem State.countPort_pbu (p : Port) (f : PortCounters → PortCounters) : (s.countPort p f).pbu = s.pbu := rfl
@[simp] theorem State.countPort_mga (p : Port) (f : PortCounters → PortCounters) : (s.countPort p f).mga = s.mga := rfl
@[simp] theorem State.countPort_settings (p : Port) (f : PortCounters → PortCounters) : (s.countPort p f).settings = s.settings := rfl

@[simp] theorem State.chargeUp_pending (p : Port) (n : Nat) : (s.chargeUp p n).pending = s.pending := rfl
@[simp] theorem State.chargeUp_mail (p : Port) (n : Nat) : (s.chargeUp p n).mail = s.mail := rfl
@[simp] theorem State.chargeUp_now (p : Port) (n : Nat) : (s.chargeUp p n).now = s.now := rfl
@[simp] theorem State.chargeUp_resetAt (p : Port) (n : Nat) : (s.chargeUp p n).resetAt = s.resetAt := rfl
@[simp] theorem State.chargeUp_ports (p : Port) (n : Nat) : (s.chargeUp p n).ports = s.ports := rfl
@[simp] theorem State.chargeUp_fcl (p : Port) (n : Nat) : (s.chargeUp p n).fcl = s.fcl := rfl
@[simp] theorem State.chargeUp_cbm (p : Port) (n : Nat) : (s.chargeUp p n).cbm = s.cbm := rfl
@[simp] theorem State.chargeUp_scu (p : Port) (n : Nat) : (s.chargeUp p n).scu = s.scu := rfl
@[simp] theorem State.chargeUp_ptc (p : Port) (n : Nat) : (s.chargeUp p n).ptc = s.ptc := rfl
@[simp] theorem State.chargeUp_msu (p : Port) (n : Nat) : (s.chargeUp p n).msu = s.msu := rfl
@[simp] theorem State.chargeUp_lwu (p : Port) (n : Nat) : (s.chargeUp p n).lwu = s.lwu := rfl
@[simp] theorem State.chargeUp_csu (p : Port) (n : Nat) : (s.chargeUp p n).csu = s.csu := rfl
@[simp] theorem State.chargeUp_pbu (p : Port) (n : Nat) : (s.chargeUp p n).pbu = s.pbu := rfl
@[simp] theorem State.chargeUp_mga (p : Port) (n : Nat) : (s.chargeUp p n).mga = s.mga := rfl
@[simp] theorem State.chargeUp_settings (p : Port) (n : Nat) : (s.chargeUp p n).settings = s.settings := rfl

@[simp] theorem State.clearFault_pending (src : FaultSource) (kind : FaultKind) : (s.clearFault src kind).pending = s.pending := rfl
@[simp] theorem State.clearFault_mail (src : FaultSource) (kind : FaultKind) : (s.clearFault src kind).mail = s.mail := rfl
@[simp] theorem State.clearFault_now (src : FaultSource) (kind : FaultKind) : (s.clearFault src kind).now = s.now := rfl
@[simp] theorem State.clearFault_resetAt (src : FaultSource) (kind : FaultKind) : (s.clearFault src kind).resetAt = s.resetAt := rfl
@[simp] theorem State.clearFault_ports (src : FaultSource) (kind : FaultKind) : (s.clearFault src kind).ports = s.ports := rfl
@[simp] theorem State.clearFault_fcl (src : FaultSource) (kind : FaultKind) : (s.clearFault src kind).fcl = s.fcl := rfl
@[simp] theorem State.clearFault_cbm (src : FaultSource) (kind : FaultKind) : (s.clearFault src kind).cbm = s.cbm := rfl
@[simp] theorem State.clearFault_scu (src : FaultSource) (kind : FaultKind) : (s.clearFault src kind).scu = s.scu := rfl
@[simp] theorem State.clearFault_txs (src : FaultSource) (kind : FaultKind) : (s.clearFault src kind).txs = s.txs := rfl
@[simp] theorem State.clearFault_ptc (src : FaultSource) (kind : FaultKind) : (s.clearFault src kind).ptc = s.ptc := rfl
@[simp] theorem State.clearFault_msu (src : FaultSource) (kind : FaultKind) : (s.clearFault src kind).msu = s.msu := rfl
@[simp] theorem State.clearFault_lwu (src : FaultSource) (kind : FaultKind) : (s.clearFault src kind).lwu = s.lwu := rfl
@[simp] theorem State.clearFault_csu (src : FaultSource) (kind : FaultKind) : (s.clearFault src kind).csu = s.csu := rfl
@[simp] theorem State.clearFault_pbu (src : FaultSource) (kind : FaultKind) : (s.clearFault src kind).pbu = s.pbu := rfl
@[simp] theorem State.clearFault_settings (src : FaultSource) (kind : FaultKind) : (s.clearFault src kind).settings = s.settings := rfl

@[simp] theorem State.noteEntry_pending (x : OutcomeEntry) : (s.noteEntry x).pending = s.pending := rfl
@[simp] theorem State.noteEntry_mail (x : OutcomeEntry) : (s.noteEntry x).mail = s.mail := rfl
@[simp] theorem State.noteEntry_now (x : OutcomeEntry) : (s.noteEntry x).now = s.now := rfl
@[simp] theorem State.noteEntry_resetAt (x : OutcomeEntry) : (s.noteEntry x).resetAt = s.resetAt := rfl
@[simp] theorem State.noteEntry_ports (x : OutcomeEntry) : (s.noteEntry x).ports = s.ports := rfl
@[simp] theorem State.noteEntry_fcl (x : OutcomeEntry) : (s.noteEntry x).fcl = s.fcl := rfl
@[simp] theorem State.noteEntry_cbm (x : OutcomeEntry) : (s.noteEntry x).cbm = s.cbm := rfl
@[simp] theorem State.noteEntry_scu (x : OutcomeEntry) : (s.noteEntry x).scu = s.scu := rfl
@[simp] theorem State.noteEntry_txs (x : OutcomeEntry) : (s.noteEntry x).txs = s.txs := rfl
@[simp] theorem State.noteEntry_ptc (x : OutcomeEntry) : (s.noteEntry x).ptc = s.ptc := rfl
@[simp] theorem State.noteEntry_msu (x : OutcomeEntry) : (s.noteEntry x).msu = s.msu := rfl
@[simp] theorem State.noteEntry_lwu (x : OutcomeEntry) : (s.noteEntry x).lwu = s.lwu := rfl
@[simp] theorem State.noteEntry_csu (x : OutcomeEntry) : (s.noteEntry x).csu = s.csu := rfl
@[simp] theorem State.noteEntry_pbu (x : OutcomeEntry) : (s.noteEntry x).pbu = s.pbu := rfl
@[simp] theorem State.noteEntry_settings (x : OutcomeEntry) : (s.noteEntry x).settings = s.settings := rfl

@[simp] theorem State.endResetWait_pending : (s.endResetWait).pending = s.pending := rfl
@[simp] theorem State.endResetWait_mail : (s.endResetWait).mail = s.mail ++ [.directedReset] := rfl
@[simp] theorem State.endResetWait_now : (s.endResetWait).now = s.now := rfl
@[simp] theorem State.endResetWait_resetAt : (s.endResetWait).resetAt = s.resetAt := rfl
@[simp] theorem State.endResetWait_ports : (s.endResetWait).ports = s.ports := rfl
@[simp] theorem State.endResetWait_fcl : (s.endResetWait).fcl = s.fcl := rfl
@[simp] theorem State.endResetWait_cbm : (s.endResetWait).cbm = s.cbm := rfl
@[simp] theorem State.endResetWait_scu : (s.endResetWait).scu = s.scu := rfl
@[simp] theorem State.endResetWait_txs : (s.endResetWait).txs = s.txs := rfl
@[simp] theorem State.endResetWait_ptc : (s.endResetWait).ptc = s.ptc := rfl
@[simp] theorem State.endResetWait_msu : (s.endResetWait).msu = s.msu := rfl
@[simp] theorem State.endResetWait_lwu : (s.endResetWait).lwu = s.lwu := rfl
@[simp] theorem State.endResetWait_csu : (s.endResetWait).csu = s.csu := rfl
@[simp] theorem State.endResetWait_pbu : (s.endResetWait).pbu = s.pbu := rfl
@[simp] theorem State.endResetWait_settings : (s.endResetWait).settings = s.settings := rfl

@[simp] theorem State.startComputation_pending : (s.startComputation).pending = s.pending := rfl
@[simp] theorem State.startComputation_mail : (s.startComputation).mail = s.mail := rfl
@[simp] theorem State.startComputation_now : (s.startComputation).now = s.now := rfl
@[simp] theorem State.startComputation_resetAt : (s.startComputation).resetAt = s.resetAt := rfl
@[simp] theorem State.startComputation_ports : (s.startComputation).ports = s.ports := rfl
@[simp] theorem State.startComputation_fcl : (s.startComputation).fcl = s.fcl := rfl
@[simp] theorem State.startComputation_cbm : (s.startComputation).cbm = s.cbm := rfl
@[simp] theorem State.startComputation_txs : (s.startComputation).txs = s.txs := rfl
@[simp] theorem State.startComputation_ptc : (s.startComputation).ptc = s.ptc := rfl
@[simp] theorem State.startComputation_msu : (s.startComputation).msu = s.msu := rfl
@[simp] theorem State.startComputation_lwu : (s.startComputation).lwu = s.lwu := rfl
@[simp] theorem State.startComputation_csu : (s.startComputation).csu = s.csu := rfl
@[simp] theorem State.startComputation_pbu : (s.startComputation).pbu = s.pbu := rfl
@[simp] theorem State.startComputation_mga : (s.startComputation).mga = s.mga := rfl
@[simp] theorem State.startComputation_settings : (s.startComputation).settings = s.settings := rfl

@[simp] theorem State.flush_pending (p : Port) : (s.flush p).pending = s.pending := rfl
@[simp] theorem State.flush_mail (p : Port) : (s.flush p).mail = s.mail := rfl
@[simp] theorem State.flush_now (p : Port) : (s.flush p).now = s.now := rfl
@[simp] theorem State.flush_resetAt (p : Port) : (s.flush p).resetAt = s.resetAt := rfl
@[simp] theorem State.flush_ports (p : Port) : (s.flush p).ports = s.ports := rfl
@[simp] theorem State.flush_fcl (p : Port) : (s.flush p).fcl = s.fcl := rfl
@[simp] theorem State.flush_scu (p : Port) : (s.flush p).scu = s.scu := rfl
@[simp] theorem State.flush_txs (p : Port) : (s.flush p).txs = s.txs := rfl
@[simp] theorem State.flush_ptc (p : Port) : (s.flush p).ptc = s.ptc := rfl
@[simp] theorem State.flush_msu (p : Port) : (s.flush p).msu = s.msu := rfl
@[simp] theorem State.flush_lwu (p : Port) : (s.flush p).lwu = s.lwu := rfl
@[simp] theorem State.flush_csu (p : Port) : (s.flush p).csu = s.csu := rfl
@[simp] theorem State.flush_pbu (p : Port) : (s.flush p).pbu = s.pbu := rfl
@[simp] theorem State.flush_mga (p : Port) : (s.flush p).mga = s.mga := rfl
@[simp] theorem State.flush_settings (p : Port) : (s.flush p).settings = s.settings := rfl

@[simp] theorem State.emptyBuckets_pending (p : Port) : (s.emptyBuckets p).pending = s.pending := rfl
@[simp] theorem State.emptyBuckets_mail (p : Port) : (s.emptyBuckets p).mail = s.mail := rfl
@[simp] theorem State.emptyBuckets_now (p : Port) : (s.emptyBuckets p).now = s.now := rfl
@[simp] theorem State.emptyBuckets_resetAt (p : Port) : (s.emptyBuckets p).resetAt = s.resetAt := rfl
@[simp] theorem State.emptyBuckets_ports (p : Port) : (s.emptyBuckets p).ports = s.ports := rfl
@[simp] theorem State.emptyBuckets_fcl (p : Port) : (s.emptyBuckets p).fcl = s.fcl := rfl
@[simp] theorem State.emptyBuckets_cbm (p : Port) : (s.emptyBuckets p).cbm = s.cbm := rfl
@[simp] theorem State.emptyBuckets_scu (p : Port) : (s.emptyBuckets p).scu = s.scu := rfl
@[simp] theorem State.emptyBuckets_ptc (p : Port) : (s.emptyBuckets p).ptc = s.ptc := rfl
@[simp] theorem State.emptyBuckets_msu (p : Port) : (s.emptyBuckets p).msu = s.msu := rfl
@[simp] theorem State.emptyBuckets_lwu (p : Port) : (s.emptyBuckets p).lwu = s.lwu := rfl
@[simp] theorem State.emptyBuckets_csu (p : Port) : (s.emptyBuckets p).csu = s.csu := rfl
@[simp] theorem State.emptyBuckets_pbu (p : Port) : (s.emptyBuckets p).pbu = s.pbu := rfl
@[simp] theorem State.emptyBuckets_mga (p : Port) : (s.emptyBuckets p).mga = s.mga := rfl
@[simp] theorem State.emptyBuckets_settings (p : Port) : (s.emptyBuckets p).settings = s.settings := rfl

@[simp] theorem State.startSweepTimer_pending : (s.startSweepTimer).pending = s.pending := rfl
@[simp] theorem State.startSweepTimer_mail : (s.startSweepTimer).mail = s.mail := rfl
@[simp] theorem State.startSweepTimer_now : (s.startSweepTimer).now = s.now := rfl
@[simp] theorem State.startSweepTimer_resetAt : (s.startSweepTimer).resetAt = s.resetAt := rfl
@[simp] theorem State.startSweepTimer_ports : (s.startSweepTimer).ports = s.ports := rfl
@[simp] theorem State.startSweepTimer_fcl : (s.startSweepTimer).fcl = s.fcl := rfl
@[simp] theorem State.startSweepTimer_cbm : (s.startSweepTimer).cbm = s.cbm := rfl
@[simp] theorem State.startSweepTimer_scu : (s.startSweepTimer).scu = s.scu := rfl
@[simp] theorem State.startSweepTimer_txs : (s.startSweepTimer).txs = s.txs := rfl
@[simp] theorem State.startSweepTimer_ptc : (s.startSweepTimer).ptc = s.ptc := rfl
@[simp] theorem State.startSweepTimer_msu : (s.startSweepTimer).msu = s.msu := rfl
@[simp] theorem State.startSweepTimer_csu : (s.startSweepTimer).csu = s.csu := rfl
@[simp] theorem State.startSweepTimer_pbu : (s.startSweepTimer).pbu = s.pbu := rfl
@[simp] theorem State.startSweepTimer_mga : (s.startSweepTimer).mga = s.mga := rfl
@[simp] theorem State.startSweepTimer_settings : (s.startSweepTimer).settings = s.settings := rfl

@[simp] theorem State.setCourse_pending (k : Course) : (s.setCourse k).pending = s.pending := rfl
@[simp] theorem State.setCourse_mail (k : Course) : (s.setCourse k).mail = s.mail := rfl
@[simp] theorem State.setCourse_now (k : Course) : (s.setCourse k).now = s.now := rfl
@[simp] theorem State.setCourse_resetAt (k : Course) : (s.setCourse k).resetAt = s.resetAt := rfl
@[simp] theorem State.setCourse_ports (k : Course) : (s.setCourse k).ports = s.ports := rfl
@[simp] theorem State.setCourse_fcl (k : Course) : (s.setCourse k).fcl = s.fcl := rfl
@[simp] theorem State.setCourse_cbm (k : Course) : (s.setCourse k).cbm = s.cbm := rfl
@[simp] theorem State.setCourse_scu (k : Course) : (s.setCourse k).scu = s.scu := rfl
@[simp] theorem State.setCourse_txs (k : Course) : (s.setCourse k).txs = s.txs := rfl
@[simp] theorem State.setCourse_ptc (k : Course) : (s.setCourse k).ptc = { s.ptc with course := some k } := rfl
@[simp] theorem State.setCourse_msu (k : Course) : (s.setCourse k).msu = s.msu := rfl
@[simp] theorem State.setCourse_lwu (k : Course) : (s.setCourse k).lwu = s.lwu := rfl
@[simp] theorem State.setCourse_csu (k : Course) : (s.setCourse k).csu = s.csu := rfl
@[simp] theorem State.setCourse_pbu (k : Course) : (s.setCourse k).pbu = s.pbu := rfl
@[simp] theorem State.setCourse_mga (k : Course) : (s.setCourse k).mga = s.mga := rfl
@[simp] theorem State.setCourse_settings (k : Course) : (s.setCourse k).settings = s.settings := rfl

@[simp] theorem State.dropStaleDone_pending : s.dropStaleDone.pending = s.pending := rfl
@[simp] theorem State.dropStaleDone_mail : s.dropStaleDone.mail = s.mail.filter (fun m => m != .measureDone) := rfl
@[simp] theorem State.dropStaleDone_now : s.dropStaleDone.now = s.now := rfl
@[simp] theorem State.dropStaleDone_resetAt : s.dropStaleDone.resetAt = s.resetAt := rfl
@[simp] theorem State.dropStaleDone_ports : s.dropStaleDone.ports = s.ports := rfl
@[simp] theorem State.dropStaleDone_fcl : s.dropStaleDone.fcl = s.fcl := rfl
@[simp] theorem State.dropStaleDone_cbm : s.dropStaleDone.cbm = s.cbm := rfl
@[simp] theorem State.dropStaleDone_scu : s.dropStaleDone.scu = s.scu := rfl
@[simp] theorem State.dropStaleDone_txs : s.dropStaleDone.txs = s.txs := rfl
@[simp] theorem State.dropStaleDone_ptc : s.dropStaleDone.ptc = s.ptc := rfl
@[simp] theorem State.dropStaleDone_msu : s.dropStaleDone.msu = s.msu := rfl
@[simp] theorem State.dropStaleDone_lwu : s.dropStaleDone.lwu = s.lwu := rfl
@[simp] theorem State.dropStaleDone_csu : s.dropStaleDone.csu = s.csu := rfl
@[simp] theorem State.dropStaleDone_pbu : s.dropStaleDone.pbu = s.pbu := rfl
@[simp] theorem State.dropStaleDone_mga : s.dropStaleDone.mga = s.mga := rfl
@[simp] theorem State.dropStaleDone_settings : s.dropStaleDone.settings = s.settings := rfl

@[simp] theorem State.enterPtc_pending (st : ControllerState) : (s.enterPtc st).pending = s.pending := rfl
@[simp] theorem State.enterPtc_mail (st : ControllerState) : (s.enterPtc st).mail = s.mail := rfl
@[simp] theorem State.enterPtc_now (st : ControllerState) : (s.enterPtc st).now = s.now := rfl
@[simp] theorem State.enterPtc_resetAt (st : ControllerState) : (s.enterPtc st).resetAt = s.resetAt := rfl
@[simp] theorem State.enterPtc_ports (st : ControllerState) : (s.enterPtc st).ports = s.ports := rfl
@[simp] theorem State.enterPtc_fcl (st : ControllerState) : (s.enterPtc st).fcl = s.fcl := rfl
@[simp] theorem State.enterPtc_cbm (st : ControllerState) : (s.enterPtc st).cbm = s.cbm := rfl
@[simp] theorem State.enterPtc_scu (st : ControllerState) : (s.enterPtc st).scu = s.scu := rfl
@[simp] theorem State.enterPtc_txs (st : ControllerState) : (s.enterPtc st).txs = s.txs := rfl
@[simp] theorem State.enterPtc_ptc (st : ControllerState) : (s.enterPtc st).ptc = { s.ptc with state := st } := rfl
@[simp] theorem State.enterPtc_msu (st : ControllerState) : (s.enterPtc st).msu = s.msu := rfl
@[simp] theorem State.enterPtc_lwu (st : ControllerState) : (s.enterPtc st).lwu = s.lwu := rfl
@[simp] theorem State.enterPtc_csu (st : ControllerState) : (s.enterPtc st).csu = s.csu := rfl
@[simp] theorem State.enterPtc_pbu (st : ControllerState) : (s.enterPtc st).pbu = s.pbu := rfl
@[simp] theorem State.enterPtc_mga (st : ControllerState) : (s.enterPtc st).mga = s.mga := rfl
@[simp] theorem State.enterPtc_settings (st : ControllerState) : (s.enterPtc st).settings = s.settings := rfl

@[simp] theorem State.setRun_pending (r : RunRecord) : (s.setRun r).pending = s.pending := rfl
@[simp] theorem State.setRun_mail (r : RunRecord) : (s.setRun r).mail = s.mail := rfl
@[simp] theorem State.setRun_now (r : RunRecord) : (s.setRun r).now = s.now := rfl
@[simp] theorem State.setRun_resetAt (r : RunRecord) : (s.setRun r).resetAt = s.resetAt := rfl
@[simp] theorem State.setRun_ports (r : RunRecord) : (s.setRun r).ports = s.ports := rfl
@[simp] theorem State.setRun_fcl (r : RunRecord) : (s.setRun r).fcl = s.fcl := rfl
@[simp] theorem State.setRun_cbm (r : RunRecord) : (s.setRun r).cbm = s.cbm := rfl
@[simp] theorem State.setRun_scu (r : RunRecord) : (s.setRun r).scu = s.scu := rfl
@[simp] theorem State.setRun_txs (r : RunRecord) : (s.setRun r).txs = s.txs := rfl
@[simp] theorem State.setRun_ptc (r : RunRecord) : (s.setRun r).ptc = s.ptc := rfl
@[simp] theorem State.setRun_msu (r : RunRecord) : (s.setRun r).msu = { s.msu with run := .running r } := rfl
@[simp] theorem State.setRun_lwu (r : RunRecord) : (s.setRun r).lwu = s.lwu := rfl
@[simp] theorem State.setRun_csu (r : RunRecord) : (s.setRun r).csu = s.csu := rfl
@[simp] theorem State.setRun_pbu (r : RunRecord) : (s.setRun r).pbu = s.pbu := rfl
@[simp] theorem State.setRun_mga (r : RunRecord) : (s.setRun r).mga = s.mga := rfl
@[simp] theorem State.setRun_settings (r : RunRecord) : (s.setRun r).settings = s.settings := rfl

@[simp] theorem State.setFrontEnd_pending (source : Option SourceSetting) (path : Option SensePath) : (s.setFrontEnd source path).pending = s.pending := rfl
@[simp] theorem State.setFrontEnd_mail (source : Option SourceSetting) (path : Option SensePath) : (s.setFrontEnd source path).mail = s.mail := rfl
@[simp] theorem State.setFrontEnd_now (source : Option SourceSetting) (path : Option SensePath) : (s.setFrontEnd source path).now = s.now := rfl
@[simp] theorem State.setFrontEnd_resetAt (source : Option SourceSetting) (path : Option SensePath) : (s.setFrontEnd source path).resetAt = s.resetAt := rfl
@[simp] theorem State.setFrontEnd_ports (source : Option SourceSetting) (path : Option SensePath) : (s.setFrontEnd source path).ports = s.ports := rfl
@[simp] theorem State.setFrontEnd_fcl (source : Option SourceSetting) (path : Option SensePath) : (s.setFrontEnd source path).fcl = s.fcl := rfl
@[simp] theorem State.setFrontEnd_cbm (source : Option SourceSetting) (path : Option SensePath) : (s.setFrontEnd source path).cbm = s.cbm := rfl
@[simp] theorem State.setFrontEnd_scu (source : Option SourceSetting) (path : Option SensePath) : (s.setFrontEnd source path).scu = s.scu := rfl
@[simp] theorem State.setFrontEnd_txs (source : Option SourceSetting) (path : Option SensePath) : (s.setFrontEnd source path).txs = s.txs := rfl
@[simp] theorem State.setFrontEnd_ptc (source : Option SourceSetting) (path : Option SensePath) : (s.setFrontEnd source path).ptc = s.ptc := rfl
@[simp] theorem State.setFrontEnd_msu (source : Option SourceSetting) (path : Option SensePath) : (s.setFrontEnd source path).msu = { s.msu with source := source, path := path } := rfl
@[simp] theorem State.setFrontEnd_lwu (source : Option SourceSetting) (path : Option SensePath) : (s.setFrontEnd source path).lwu = s.lwu := rfl
@[simp] theorem State.setFrontEnd_csu (source : Option SourceSetting) (path : Option SensePath) : (s.setFrontEnd source path).csu = s.csu := rfl
@[simp] theorem State.setFrontEnd_pbu (source : Option SourceSetting) (path : Option SensePath) : (s.setFrontEnd source path).pbu = s.pbu := rfl
@[simp] theorem State.setFrontEnd_mga (source : Option SourceSetting) (path : Option SensePath) : (s.setFrontEnd source path).mga = s.mga := rfl
@[simp] theorem State.setFrontEnd_settings (source : Option SourceSetting) (path : Option SensePath) : (s.setFrontEnd source path).settings = s.settings := rfl

@[simp] theorem State.sendItems_pending (id : Nat) (items : List Item) : (s.sendItems id items).pending = s.pending := rfl
@[simp] theorem State.sendItems_mail (id : Nat) (items : List Item) : (s.sendItems id items).mail = s.mail ++ items.map (fun i => Instr.measurementItem ⟨id, i⟩) := rfl
@[simp] theorem State.sendItems_now (id : Nat) (items : List Item) : (s.sendItems id items).now = s.now := rfl
@[simp] theorem State.sendItems_resetAt (id : Nat) (items : List Item) : (s.sendItems id items).resetAt = s.resetAt := rfl
@[simp] theorem State.sendItems_ports (id : Nat) (items : List Item) : (s.sendItems id items).ports = s.ports := rfl
@[simp] theorem State.sendItems_fcl (id : Nat) (items : List Item) : (s.sendItems id items).fcl = s.fcl := rfl
@[simp] theorem State.sendItems_cbm (id : Nat) (items : List Item) : (s.sendItems id items).cbm = s.cbm := rfl
@[simp] theorem State.sendItems_scu (id : Nat) (items : List Item) : (s.sendItems id items).scu = s.scu := rfl
@[simp] theorem State.sendItems_txs (id : Nat) (items : List Item) : (s.sendItems id items).txs = s.txs := rfl
@[simp] theorem State.sendItems_ptc (id : Nat) (items : List Item) : (s.sendItems id items).ptc = s.ptc := rfl
@[simp] theorem State.sendItems_msu (id : Nat) (items : List Item) : (s.sendItems id items).msu = s.msu := rfl
@[simp] theorem State.sendItems_lwu (id : Nat) (items : List Item) : (s.sendItems id items).lwu = s.lwu := rfl
@[simp] theorem State.sendItems_csu (id : Nat) (items : List Item) : (s.sendItems id items).csu = s.csu := rfl
@[simp] theorem State.sendItems_pbu (id : Nat) (items : List Item) : (s.sendItems id items).pbu = s.pbu := rfl
@[simp] theorem State.sendItems_mga (id : Nat) (items : List Item) : (s.sendItems id items).mga = s.mga := rfl
@[simp] theorem State.sendItems_settings (id : Nat) (items : List Item) : (s.sendItems id items).settings = s.settings := rfl

@[simp] theorem State.discharge_pending : (s.discharge).pending = s.pending := rfl
@[simp] theorem State.discharge_mail : (s.discharge).mail = s.mail := rfl
@[simp] theorem State.discharge_now : (s.discharge).now = s.now := rfl
@[simp] theorem State.discharge_resetAt : (s.discharge).resetAt = s.resetAt := rfl
@[simp] theorem State.discharge_ports : (s.discharge).ports = s.ports := rfl
@[simp] theorem State.discharge_fcl : (s.discharge).fcl = s.fcl := rfl
@[simp] theorem State.discharge_cbm : (s.discharge).cbm = s.cbm := rfl
@[simp] theorem State.discharge_scu : (s.discharge).scu = s.scu := rfl
@[simp] theorem State.discharge_txs : (s.discharge).txs = s.txs := rfl
@[simp] theorem State.discharge_ptc : (s.discharge).ptc = s.ptc := rfl
@[simp] theorem State.discharge_lwu : (s.discharge).lwu = s.lwu := rfl
@[simp] theorem State.discharge_csu : (s.discharge).csu = s.csu := rfl
@[simp] theorem State.discharge_pbu : (s.discharge).pbu = s.pbu := rfl
@[simp] theorem State.discharge_mga : (s.discharge).mga = s.mga := rfl
@[simp] theorem State.discharge_settings : (s.discharge).settings = s.settings := rfl

@[simp] theorem State.setContact_pending (k : Contact) (c : ContactRecord) : (s.setContact k c).pending = s.pending := rfl
@[simp] theorem State.setContact_mail (k : Contact) (c : ContactRecord) : (s.setContact k c).mail = s.mail := rfl
@[simp] theorem State.setContact_now (k : Contact) (c : ContactRecord) : (s.setContact k c).now = s.now := rfl
@[simp] theorem State.setContact_resetAt (k : Contact) (c : ContactRecord) : (s.setContact k c).resetAt = s.resetAt := rfl
@[simp] theorem State.setContact_ports (k : Contact) (c : ContactRecord) : (s.setContact k c).ports = s.ports := rfl
@[simp] theorem State.setContact_fcl (k : Contact) (c : ContactRecord) : (s.setContact k c).fcl = s.fcl := rfl
@[simp] theorem State.setContact_cbm (k : Contact) (c : ContactRecord) : (s.setContact k c).cbm = s.cbm := rfl
@[simp] theorem State.setContact_scu (k : Contact) (c : ContactRecord) : (s.setContact k c).scu = s.scu := rfl
@[simp] theorem State.setContact_txs (k : Contact) (c : ContactRecord) : (s.setContact k c).txs = s.txs := rfl
@[simp] theorem State.setContact_ptc (k : Contact) (c : ContactRecord) : (s.setContact k c).ptc = s.ptc := rfl
@[simp] theorem State.setContact_msu (k : Contact) (c : ContactRecord) : (s.setContact k c).msu = s.msu := rfl
@[simp] theorem State.setContact_lwu (k : Contact) (c : ContactRecord) : (s.setContact k c).lwu = s.lwu := rfl
@[simp] theorem State.setContact_pbu (k : Contact) (c : ContactRecord) : (s.setContact k c).pbu = s.pbu := rfl
@[simp] theorem State.setContact_mga (k : Contact) (c : ContactRecord) : (s.setContact k c).mga = s.mga := rfl
@[simp] theorem State.setContact_settings (k : Contact) (c : ContactRecord) : (s.setContact k c).settings = s.settings := rfl

@[simp] theorem State.startCraftHold_pending : (s.startCraftHold).pending = s.pending := rfl
@[simp] theorem State.startCraftHold_mail : (s.startCraftHold).mail = s.mail := rfl
@[simp] theorem State.startCraftHold_now : (s.startCraftHold).now = s.now := rfl
@[simp] theorem State.startCraftHold_resetAt : (s.startCraftHold).resetAt = s.resetAt := rfl
@[simp] theorem State.startCraftHold_ports : (s.startCraftHold).ports = s.ports := rfl
@[simp] theorem State.startCraftHold_fcl : (s.startCraftHold).fcl = s.fcl := rfl
@[simp] theorem State.startCraftHold_cbm : (s.startCraftHold).cbm = s.cbm := rfl
@[simp] theorem State.startCraftHold_scu : (s.startCraftHold).scu = s.scu := rfl
@[simp] theorem State.startCraftHold_txs : (s.startCraftHold).txs = s.txs := rfl
@[simp] theorem State.startCraftHold_ptc : (s.startCraftHold).ptc = s.ptc := rfl
@[simp] theorem State.startCraftHold_msu : (s.startCraftHold).msu = s.msu := rfl
@[simp] theorem State.startCraftHold_lwu : (s.startCraftHold).lwu = s.lwu := rfl
@[simp] theorem State.startCraftHold_pbu : (s.startCraftHold).pbu = s.pbu := rfl
@[simp] theorem State.startCraftHold_mga : (s.startCraftHold).mga = s.mga := rfl
@[simp] theorem State.startCraftHold_settings : (s.startCraftHold).settings = s.settings := rfl

@[simp] theorem State.editCandidate_pending (b : Bank) : (s.editCandidate b).pending = s.pending := rfl
@[simp] theorem State.editCandidate_mail (b : Bank) : (s.editCandidate b).mail = s.mail := rfl
@[simp] theorem State.editCandidate_now (b : Bank) : (s.editCandidate b).now = s.now := rfl
@[simp] theorem State.editCandidate_resetAt (b : Bank) : (s.editCandidate b).resetAt = s.resetAt := rfl
@[simp] theorem State.editCandidate_ports (b : Bank) : (s.editCandidate b).ports = s.ports := rfl
@[simp] theorem State.editCandidate_fcl (b : Bank) : (s.editCandidate b).fcl = { s.fcl with candidate := b, mark := .open } := rfl
@[simp] theorem State.editCandidate_cbm (b : Bank) : (s.editCandidate b).cbm = s.cbm := rfl
@[simp] theorem State.editCandidate_scu (b : Bank) : (s.editCandidate b).scu = s.scu := rfl
@[simp] theorem State.editCandidate_txs (b : Bank) : (s.editCandidate b).txs = s.txs := rfl
@[simp] theorem State.editCandidate_ptc (b : Bank) : (s.editCandidate b).ptc = s.ptc := rfl
@[simp] theorem State.editCandidate_msu (b : Bank) : (s.editCandidate b).msu = s.msu := rfl
@[simp] theorem State.editCandidate_lwu (b : Bank) : (s.editCandidate b).lwu = s.lwu := rfl
@[simp] theorem State.editCandidate_csu (b : Bank) : (s.editCandidate b).csu = s.csu := rfl
@[simp] theorem State.editCandidate_pbu (b : Bank) : (s.editCandidate b).pbu = s.pbu := rfl
@[simp] theorem State.editCandidate_mga (b : Bank) : (s.editCandidate b).mga = s.mga := rfl
@[simp] theorem State.editCandidate_settings (b : Bank) : (s.editCandidate b).settings = s.settings := rfl

@[simp] theorem State.revertTrial_pending : (s.revertTrial).pending = s.pending := rfl
@[simp] theorem State.revertTrial_mail : (s.revertTrial).mail = s.mail := rfl
@[simp] theorem State.revertTrial_now : (s.revertTrial).now = s.now := rfl
@[simp] theorem State.revertTrial_resetAt : (s.revertTrial).resetAt = s.resetAt := rfl
@[simp] theorem State.revertTrial_ports : (s.revertTrial).ports = s.ports := rfl
@[simp] theorem State.revertTrial_fcl : (s.revertTrial).fcl = { s.fcl.swap with mark := .rejected, trial := none } := rfl
@[simp] theorem State.revertTrial_cbm : (s.revertTrial).cbm = s.cbm := rfl
@[simp] theorem State.revertTrial_scu : (s.revertTrial).scu = s.scu := rfl
@[simp] theorem State.revertTrial_txs : (s.revertTrial).txs = s.txs := rfl
@[simp] theorem State.revertTrial_ptc : (s.revertTrial).ptc = s.ptc := rfl
@[simp] theorem State.revertTrial_msu : (s.revertTrial).msu = s.msu := rfl
@[simp] theorem State.revertTrial_lwu : (s.revertTrial).lwu = s.lwu := rfl
@[simp] theorem State.revertTrial_csu : (s.revertTrial).csu = s.csu := rfl
@[simp] theorem State.revertTrial_pbu : (s.revertTrial).pbu = s.pbu := rfl
@[simp] theorem State.revertTrial_mga : (s.revertTrial).mga = s.mga := rfl
@[simp] theorem State.revertTrial_settings : (s.revertTrial).settings = s.settings := rfl

@[simp] theorem State.startTrial_pending (window : Nat) : (s.startTrial window).pending = s.pending := rfl
@[simp] theorem State.startTrial_mail (window : Nat) : (s.startTrial window).mail = s.mail := rfl
@[simp] theorem State.startTrial_now (window : Nat) : (s.startTrial window).now = s.now := rfl
@[simp] theorem State.startTrial_resetAt (window : Nat) : (s.startTrial window).resetAt = s.resetAt := rfl
@[simp] theorem State.startTrial_ports (window : Nat) : (s.startTrial window).ports = s.ports := rfl
@[simp] theorem State.startTrial_cbm (window : Nat) : (s.startTrial window).cbm = s.cbm := rfl
@[simp] theorem State.startTrial_scu (window : Nat) : (s.startTrial window).scu = s.scu := rfl
@[simp] theorem State.startTrial_txs (window : Nat) : (s.startTrial window).txs = s.txs := rfl
@[simp] theorem State.startTrial_ptc (window : Nat) : (s.startTrial window).ptc = s.ptc := rfl
@[simp] theorem State.startTrial_msu (window : Nat) : (s.startTrial window).msu = s.msu := rfl
@[simp] theorem State.startTrial_lwu (window : Nat) : (s.startTrial window).lwu = s.lwu := rfl
@[simp] theorem State.startTrial_csu (window : Nat) : (s.startTrial window).csu = s.csu := rfl
@[simp] theorem State.startTrial_pbu (window : Nat) : (s.startTrial window).pbu = s.pbu := rfl
@[simp] theorem State.startTrial_mga (window : Nat) : (s.startTrial window).mga = s.mga := rfl
@[simp] theorem State.startTrial_settings (window : Nat) : (s.startTrial window).settings = s.settings := rfl

@[simp] theorem State.countLine_pending (p : Port) (f : LineDrops → LineDrops) : (s.countLine p f).pending = s.pending := rfl
@[simp] theorem State.countLine_mail (p : Port) (f : LineDrops → LineDrops) : (s.countLine p f).mail = s.mail := rfl
@[simp] theorem State.countLine_now (p : Port) (f : LineDrops → LineDrops) : (s.countLine p f).now = s.now := rfl
@[simp] theorem State.countLine_resetAt (p : Port) (f : LineDrops → LineDrops) : (s.countLine p f).resetAt = s.resetAt := rfl
@[simp] theorem State.countLine_ports (p : Port) (f : LineDrops → LineDrops) : (s.countLine p f).ports = s.ports := rfl
@[simp] theorem State.countLine_cbm (p : Port) (f : LineDrops → LineDrops) : (s.countLine p f).cbm = s.cbm := rfl
@[simp] theorem State.countLine_scu (p : Port) (f : LineDrops → LineDrops) : (s.countLine p f).scu = s.scu := rfl
@[simp] theorem State.countLine_txs (p : Port) (f : LineDrops → LineDrops) : (s.countLine p f).txs = s.txs := rfl
@[simp] theorem State.countLine_ptc (p : Port) (f : LineDrops → LineDrops) : (s.countLine p f).ptc = s.ptc := rfl
@[simp] theorem State.countLine_msu (p : Port) (f : LineDrops → LineDrops) : (s.countLine p f).msu = s.msu := rfl
@[simp] theorem State.countLine_lwu (p : Port) (f : LineDrops → LineDrops) : (s.countLine p f).lwu = s.lwu := rfl
@[simp] theorem State.countLine_csu (p : Port) (f : LineDrops → LineDrops) : (s.countLine p f).csu = s.csu := rfl
@[simp] theorem State.countLine_pbu (p : Port) (f : LineDrops → LineDrops) : (s.countLine p f).pbu = s.pbu := rfl
@[simp] theorem State.countLine_mga (p : Port) (f : LineDrops → LineDrops) : (s.countLine p f).mga = s.mga := rfl
@[simp] theorem State.countLine_settings (p : Port) (f : LineDrops → LineDrops) : (s.countLine p f).settings = s.settings := rfl

@[simp] theorem State.countUplink_pending (f : UplinkDrops → UplinkDrops) : (s.countUplink f).pending = s.pending := rfl
@[simp] theorem State.countUplink_mail (f : UplinkDrops → UplinkDrops) : (s.countUplink f).mail = s.mail := rfl
@[simp] theorem State.countUplink_now (f : UplinkDrops → UplinkDrops) : (s.countUplink f).now = s.now := rfl
@[simp] theorem State.countUplink_resetAt (f : UplinkDrops → UplinkDrops) : (s.countUplink f).resetAt = s.resetAt := rfl
@[simp] theorem State.countUplink_ports (f : UplinkDrops → UplinkDrops) : (s.countUplink f).ports = s.ports := rfl
@[simp] theorem State.countUplink_cbm (f : UplinkDrops → UplinkDrops) : (s.countUplink f).cbm = s.cbm := rfl
@[simp] theorem State.countUplink_scu (f : UplinkDrops → UplinkDrops) : (s.countUplink f).scu = s.scu := rfl
@[simp] theorem State.countUplink_txs (f : UplinkDrops → UplinkDrops) : (s.countUplink f).txs = s.txs := rfl
@[simp] theorem State.countUplink_ptc (f : UplinkDrops → UplinkDrops) : (s.countUplink f).ptc = s.ptc := rfl
@[simp] theorem State.countUplink_msu (f : UplinkDrops → UplinkDrops) : (s.countUplink f).msu = s.msu := rfl
@[simp] theorem State.countUplink_lwu (f : UplinkDrops → UplinkDrops) : (s.countUplink f).lwu = s.lwu := rfl
@[simp] theorem State.countUplink_csu (f : UplinkDrops → UplinkDrops) : (s.countUplink f).csu = s.csu := rfl
@[simp] theorem State.countUplink_pbu (f : UplinkDrops → UplinkDrops) : (s.countUplink f).pbu = s.pbu := rfl
@[simp] theorem State.countUplink_mga (f : UplinkDrops → UplinkDrops) : (s.countUplink f).mga = s.mga := rfl
@[simp] theorem State.countUplink_settings (f : UplinkDrops → UplinkDrops) : (s.countUplink f).settings = s.settings := rfl

@[simp] theorem State.countCraft_pending (f : CraftDrops → CraftDrops) : (s.countCraft f).pending = s.pending := rfl
@[simp] theorem State.countCraft_mail (f : CraftDrops → CraftDrops) : (s.countCraft f).mail = s.mail := rfl
@[simp] theorem State.countCraft_now (f : CraftDrops → CraftDrops) : (s.countCraft f).now = s.now := rfl
@[simp] theorem State.countCraft_resetAt (f : CraftDrops → CraftDrops) : (s.countCraft f).resetAt = s.resetAt := rfl
@[simp] theorem State.countCraft_ports (f : CraftDrops → CraftDrops) : (s.countCraft f).ports = s.ports := rfl
@[simp] theorem State.countCraft_cbm (f : CraftDrops → CraftDrops) : (s.countCraft f).cbm = s.cbm := rfl
@[simp] theorem State.countCraft_scu (f : CraftDrops → CraftDrops) : (s.countCraft f).scu = s.scu := rfl
@[simp] theorem State.countCraft_txs (f : CraftDrops → CraftDrops) : (s.countCraft f).txs = s.txs := rfl
@[simp] theorem State.countCraft_ptc (f : CraftDrops → CraftDrops) : (s.countCraft f).ptc = s.ptc := rfl
@[simp] theorem State.countCraft_msu (f : CraftDrops → CraftDrops) : (s.countCraft f).msu = s.msu := rfl
@[simp] theorem State.countCraft_lwu (f : CraftDrops → CraftDrops) : (s.countCraft f).lwu = s.lwu := rfl
@[simp] theorem State.countCraft_csu (f : CraftDrops → CraftDrops) : (s.countCraft f).csu = s.csu := rfl
@[simp] theorem State.countCraft_pbu (f : CraftDrops → CraftDrops) : (s.countCraft f).pbu = s.pbu := rfl
@[simp] theorem State.countCraft_mga (f : CraftDrops → CraftDrops) : (s.countCraft f).mga = s.mga := rfl
@[simp] theorem State.countCraft_settings (f : CraftDrops → CraftDrops) : (s.countCraft f).settings = s.settings := rfl

@[simp] theorem State.countBuffer_pending (p : Port) (f : BufferDrops → BufferDrops) : (s.countBuffer p f).pending = s.pending := rfl
@[simp] theorem State.countBuffer_mail (p : Port) (f : BufferDrops → BufferDrops) : (s.countBuffer p f).mail = s.mail := rfl
@[simp] theorem State.countBuffer_now (p : Port) (f : BufferDrops → BufferDrops) : (s.countBuffer p f).now = s.now := rfl
@[simp] theorem State.countBuffer_resetAt (p : Port) (f : BufferDrops → BufferDrops) : (s.countBuffer p f).resetAt = s.resetAt := rfl
@[simp] theorem State.countBuffer_ports (p : Port) (f : BufferDrops → BufferDrops) : (s.countBuffer p f).ports = s.ports := rfl
@[simp] theorem State.countBuffer_fcl (p : Port) (f : BufferDrops → BufferDrops) : (s.countBuffer p f).fcl = s.fcl := rfl
@[simp] theorem State.countBuffer_scu (p : Port) (f : BufferDrops → BufferDrops) : (s.countBuffer p f).scu = s.scu := rfl
@[simp] theorem State.countBuffer_txs (p : Port) (f : BufferDrops → BufferDrops) : (s.countBuffer p f).txs = s.txs := rfl
@[simp] theorem State.countBuffer_ptc (p : Port) (f : BufferDrops → BufferDrops) : (s.countBuffer p f).ptc = s.ptc := rfl
@[simp] theorem State.countBuffer_msu (p : Port) (f : BufferDrops → BufferDrops) : (s.countBuffer p f).msu = s.msu := rfl
@[simp] theorem State.countBuffer_lwu (p : Port) (f : BufferDrops → BufferDrops) : (s.countBuffer p f).lwu = s.lwu := rfl
@[simp] theorem State.countBuffer_csu (p : Port) (f : BufferDrops → BufferDrops) : (s.countBuffer p f).csu = s.csu := rfl
@[simp] theorem State.countBuffer_pbu (p : Port) (f : BufferDrops → BufferDrops) : (s.countBuffer p f).pbu = s.pbu := rfl
@[simp] theorem State.countBuffer_mga (p : Port) (f : BufferDrops → BufferDrops) : (s.countBuffer p f).mga = s.mga := rfl
@[simp] theorem State.countBuffer_settings (p : Port) (f : BufferDrops → BufferDrops) : (s.countBuffer p f).settings = s.settings := rfl

@[simp] theorem State.setStaleHeader_pending (b : Bool) : (s.setStaleHeader b).pending = s.pending := rfl
@[simp] theorem State.setStaleHeader_mail (b : Bool) : (s.setStaleHeader b).mail = s.mail := rfl
@[simp] theorem State.setStaleHeader_now (b : Bool) : (s.setStaleHeader b).now = s.now := rfl
@[simp] theorem State.setStaleHeader_resetAt (b : Bool) : (s.setStaleHeader b).resetAt = s.resetAt := rfl
@[simp] theorem State.setStaleHeader_ports (b : Bool) : (s.setStaleHeader b).ports = s.ports := rfl
@[simp] theorem State.setStaleHeader_cbm (b : Bool) : (s.setStaleHeader b).cbm = s.cbm := rfl
@[simp] theorem State.setStaleHeader_scu (b : Bool) : (s.setStaleHeader b).scu = s.scu := rfl
@[simp] theorem State.setStaleHeader_txs (b : Bool) : (s.setStaleHeader b).txs = s.txs := rfl
@[simp] theorem State.setStaleHeader_ptc (b : Bool) : (s.setStaleHeader b).ptc = s.ptc := rfl
@[simp] theorem State.setStaleHeader_msu (b : Bool) : (s.setStaleHeader b).msu = s.msu := rfl
@[simp] theorem State.setStaleHeader_lwu (b : Bool) : (s.setStaleHeader b).lwu = s.lwu := rfl
@[simp] theorem State.setStaleHeader_csu (b : Bool) : (s.setStaleHeader b).csu = s.csu := rfl
@[simp] theorem State.setStaleHeader_pbu (b : Bool) : (s.setStaleHeader b).pbu = s.pbu := rfl
@[simp] theorem State.setStaleHeader_mga (b : Bool) : (s.setStaleHeader b).mga = s.mga := rfl
@[simp] theorem State.setStaleHeader_settings (b : Bool) : (s.setStaleHeader b).settings = s.settings := rfl
@[simp] theorem State.setStaleHeader_fcl (b : Bool) : (s.setStaleHeader b).fcl = { s.fcl with staleHeader := b } := rfl
@[simp] theorem State.setStaleHeader_reception (b : Bool) (src : Source) : (s.setStaleHeader b).reception src = s.reception src := by
  cases src <;> rfl

/-! Fields of blocks that other blocks read, after an update of another field of the same block. -/

@[simp] theorem State.noteEntry_exec (x : OutcomeEntry) : (s.noteEntry x).mga.exec = s.mga.exec := rfl
@[simp] theorem State.noteEntry_resetWait (x : OutcomeEntry) : (s.noteEntry x).mga.resetWait = s.mga.resetWait := rfl
@[simp] theorem State.noteEntry_lastEntry (x : OutcomeEntry) : (s.noteEntry x).mga.lastEntry = some x := rfl
@[simp] theorem State.noteEntry_subscribers (x : OutcomeEntry) : (s.noteEntry x).mga.subscribers = s.mga.subscribers := rfl
@[simp] theorem State.clearFault_mga_frame (src : FaultSource) (kind : FaultKind) :
    (s.clearFault src kind).mga.exec = s.mga.exec ∧
      (s.clearFault src kind).mga.resetWait = s.mga.resetWait ∧
      (s.clearFault src kind).mga.locked = s.mga.locked ∧
      (s.clearFault src kind).mga.cabinet = s.mga.cabinet ∧
      (s.clearFault src kind).mga.destination = s.mga.destination ∧
      (s.clearFault src kind).mga.lastEntry = s.mga.lastEntry ∧
      (s.clearFault src kind).mga.subscribers = s.mga.subscribers ∧
      (s.clearFault src kind).mga.uplinkStore = s.mga.uplinkStore ∧
      (s.clearFault src kind).mga.craftStore = s.mga.craftStore ∧
      (s.clearFault src kind).mga.accepted = s.mga.accepted ∧
      (s.clearFault src kind).mga.rejected = s.mga.rejected ∧
      (s.clearFault src kind).mga.faultsLost = s.mga.faultsLost ∧
      (s.clearFault src kind).mga.reportsLost = s.mga.reportsLost ∧
      (s.clearFault src kind).mga.servedLast = s.mga.servedLast ∧
      (s.clearFault src kind).mga.notices = s.mga.notices ∧
      (s.clearFault src kind).mga.noticesDropped = s.mga.noticesDropped ∧
      (s.clearFault src kind).mga.changeMark = s.mga.changeMark ∧
      (s.clearFault src kind).mga.lostMark = s.mga.lostMark := by
  simp [State.clearFault]
@[simp] theorem State.endResetWait_mga_frame :
    (s.endResetWait).mga.exec = s.mga.exec ∧
      (s.endResetWait).mga.locked = s.mga.locked ∧
      (s.endResetWait).mga.cabinet = s.mga.cabinet ∧
      (s.endResetWait).mga.destination = s.mga.destination ∧
      (s.endResetWait).mga.lastEntry = s.mga.lastEntry ∧
      (s.endResetWait).mga.subscribers = s.mga.subscribers ∧
      (s.endResetWait).mga.uplinkStore = s.mga.uplinkStore ∧
      (s.endResetWait).mga.craftStore = s.mga.craftStore ∧
      (s.endResetWait).mga.accepted = s.mga.accepted ∧
      (s.endResetWait).mga.rejected = s.mga.rejected ∧
      (s.endResetWait).mga.faultsLost = s.mga.faultsLost ∧
      (s.endResetWait).mga.reportsLost = s.mga.reportsLost ∧
      (s.endResetWait).mga.servedLast = s.mga.servedLast ∧
      (s.endResetWait).mga.notices = s.mga.notices ∧
      (s.endResetWait).mga.noticesDropped = s.mga.noticesDropped ∧
      (s.endResetWait).mga.changeMark = s.mga.changeMark ∧
      (s.endResetWait).mga.lostMark = s.mga.lostMark ∧
      (s.endResetWait).mga.faults = s.mga.faults := by
  simp [State.endResetWait]
@[simp] theorem State.startComputation_scu_frame :
    (s.startComputation).scu.linkUp = s.scu.linkUp ∧
      (s.startComputation).scu.latestReport = s.scu.latestReport ∧
      (s.startComputation).scu.activity = s.scu.activity ∧
      (s.startComputation).scu.table = s.scu.table := by
  simp [State.startComputation]
@[simp] theorem State.startSweepTimer_lwu_frame :
    (s.startSweepTimer).lwu.armed = s.lwu.armed ∧
      (s.startSweepTimer).lwu.records = s.lwu.records := by
  simp [State.startSweepTimer]
@[simp] theorem State.port_reach (t : Nat) (p : Port) : (s.reach t).port p = s.port p := rfl
@[simp] theorem State.port_post (m : Instr) (p : Port) : (s.post m).port p = s.port p := rfl
@[simp] theorem State.port_taken (m : Instr) (p : Port) : (s.taken m).port p = s.port p := rfl
@[simp] theorem State.sub_reach (t : Nat) (p : Port) : (s.reach t).sub p = s.sub p := rfl
@[simp] theorem State.sub_post (m : Instr) (p : Port) : (s.post m).sub p = s.sub p := rfl
@[simp] theorem State.sub_taken (m : Instr) (p : Port) : (s.taken m).sub p = s.sub p := rfl
@[simp] theorem State.sub_noteEntry (x : OutcomeEntry) (p : Port) : (s.noteEntry x).sub p = s.sub p := rfl

/-- The port record changed by `modifyPort`, and no other. -/
theorem State.port_modifyPort (p q : Port) (f : PortRecord → PortRecord) :
    (s.modifyPort p f).port q = if q = p then f (s.port q) else s.port q := Row.get_modify _ _ _ _

/-- The clock never runs back, and the time asked for is reached. -/
theorem State.reach_spec (t : Nat) : s.now ≤ (s.reach t).now ∧ t ≤ (s.reach t).now := ⟨Nat.le_max_left _ _, Nat.le_max_right _ _⟩

end Sys2Proof.Machine
end

