-- ==== Sys2Proof/Laws/Shared.lean ====
section
/-! SUPPORT. What each shared operation leaves alone, said once for each: every part of the state it does not list is as it was. -/

namespace Sys2Proof.Machine

variable (s : State)

/-- A report is in turn when none of its block is on its way or it is the oldest (R102). -/
theorem State.inTurn_iff (b : Reporter) (m : Instr) : s.inTurn b m = true ↔ s.IsNext b m := by
  unfold State.inTurn State.IsNext
  split <;> simp_all

/-- What a report does (R102): in turn its effect on the state without it, else nothing. -/
theorem State.takeReport_next (b : Reporter) (m : Instr) (effect : State → Host.Outcome State Fault Refusal) (h : s.IsNext b m) :
    s.takeReport b m effect = effect (s.taken m) := by
  simp [State.takeReport, (s.inTurn_iff b m).2 h]

theorem State.takeReport_early (b : Reporter) (m : Instr) (effect : State → Host.Outcome State Fault Refusal) (h : ¬s.IsNext b m) :
    s.takeReport b m effect = .next s := by
  simp [State.takeReport, (s.inTurn_iff b m).not.2 h]

/-- The reports of a block are what they were when the messages are. -/
theorem State.reportsOf_mail (b : Reporter) (t : State) (h : t.mail = s.mail) : t.reportsOf b = s.reportsOf b := by
  simp [State.reportsOf, h]

/-- A message joins the line of its own block alone. -/
theorem State.reportsOf_post (b : Reporter) (m : Instr) :
    (s.post m).reportsOf b = s.reportsOf b ++ if reporter m = some b then [m] else [] := by
  by_cases h : reporter m = some b <;> simp [State.reportsOf, State.post, h]

/-- A report that is taken in its turn leaves the head of its block's line, and no other line changes. -/
theorem State.reportsOf_taken (b : Reporter) (m : Instr) (h : s.IsNext b m) : (s.taken m).reportsOf b = (s.reportsOf b).drop 1 := by
  have e : (s.taken m).reportsOf b = (s.reportsOf b).erase m := by simp [State.reportsOf, List.erase_filter]
  rcases h with h | ⟨rest, h⟩ <;> simp [e, h]

theorem State.reportsOf_taken_other (b : Reporter) (m : Instr) (h : reporter m ≠ some b) : (s.taken m).reportsOf b = s.reportsOf b := by
  have absent : m ∉ s.reportsOf b := by simp [State.reportsOf, h]
  simpa [State.reportsOf, List.erase_filter] using List.erase_of_not_mem absent

@[simp] theorem State.setQueue_frame (q : QueueId) (ds : List Descriptor) :
    (s.setQueue q ds).pending = s.pending ∧
      (s.setQueue q ds).mail = s.mail ∧
      (s.setQueue q ds).now = s.now ∧
      (s.setQueue q ds).resetAt = s.resetAt ∧
      (s.setQueue q ds).ports = s.ports ∧
      (s.setQueue q ds).fcl = s.fcl ∧
      (s.setQueue q ds).scu = s.scu ∧
      (s.setQueue q ds).txs = s.txs ∧
      (s.setQueue q ds).ptc = s.ptc ∧
      (s.setQueue q ds).msu = s.msu ∧
      (s.setQueue q ds).lwu = s.lwu ∧
      (s.setQueue q ds).csu = s.csu ∧
      (s.setQueue q ds).pbu = s.pbu ∧
      (s.setQueue q ds).mga = s.mga ∧
      (s.setQueue q ds).settings = s.settings ∧
      (s.setQueue q ds).cbm.upHeld = s.cbm.upHeld ∧
      (s.setQueue q ds).cbm.downHeld = s.cbm.downHeld ∧
      (s.setQueue q ds).cbm.reservedHeld = s.cbm.reservedHeld ∧
      (s.setQueue q ds).cbm.drops = s.cbm.drops ∧
      (s.setQueue q ds).cbm.uplinkPoolFull = s.cbm.uplinkPoolFull ∧
      (s.setQueue q ds).cbm.picks = s.cbm.picks := by
  cases q <;> simp [State.setQueue]

@[simp] theorem State.setReception_frame (src : Source) (r : Option Reception) :
    (s.setReception src r).pending = s.pending ∧
      (s.setReception src r).mail = s.mail ∧
      (s.setReception src r).now = s.now ∧
      (s.setReception src r).resetAt = s.resetAt ∧
      (s.setReception src r).ports = s.ports ∧
      (s.setReception src r).cbm = s.cbm ∧
      (s.setReception src r).scu = s.scu ∧
      (s.setReception src r).txs = s.txs ∧
      (s.setReception src r).ptc = s.ptc ∧
      (s.setReception src r).msu = s.msu ∧
      (s.setReception src r).lwu = s.lwu ∧
      (s.setReception src r).csu = s.csu ∧
      (s.setReception src r).pbu = s.pbu ∧
      (s.setReception src r).mga = s.mga ∧
      (s.setReception src r).settings = s.settings := by
  cases src <;> simp [State.setReception]

@[simp] theorem State.startUplink_frame (q : QueueId) :
    (s.startUplink q).pending = s.pending ∧
      (s.startUplink q).mail = s.mail ∧
      (s.startUplink q).now = s.now ∧
      (s.startUplink q).resetAt = s.resetAt ∧
      (s.startUplink q).ports = s.ports ∧
      (s.startUplink q).fcl = s.fcl ∧
      (s.startUplink q).scu = s.scu ∧
      (s.startUplink q).ptc = s.ptc ∧
      (s.startUplink q).msu = s.msu ∧
      (s.startUplink q).lwu = s.lwu ∧
      (s.startUplink q).csu = s.csu ∧
      (s.startUplink q).pbu = s.pbu ∧
      (s.startUplink q).mga = s.mga ∧
      (s.startUplink q).settings = s.settings ∧
      (s.startUplink q).txs.upBuckets = s.txs.upBuckets ∧
      (s.startUplink q).txs.downBuckets = s.txs.downBuckets ∧
      (s.startUplink q).txs.expressPtr = s.txs.expressPtr ∧
      (s.startUplink q).txs.bulkPtr = s.txs.bulkPtr ∧
      (s.startUplink q).txs.paused = s.txs.paused ∧
      (s.startUplink q).txs.lineTx = s.txs.lineTx ∧
      (s.startUplink q).txs.craftTx = s.txs.craftTx ∧
      (s.startUplink q).txs.craftLinkUp = s.txs.craftLinkUp ∧
      (s.startUplink q).txs.uplinkFrames = s.txs.uplinkFrames ∧
      (s.startUplink q).txs.uplinkOctets = s.txs.uplinkOctets ∧
      (s.startUplink q).txs.uplinkAgentFrames = s.txs.uplinkAgentFrames ∧
      (s.startUplink q).txs.craftFrames = s.txs.craftFrames ∧
      (s.startUplink q).txs.craftDiscards = s.txs.craftDiscards := by
  unfold State.startUplink; split <;> simp

@[simp] theorem State.startExpress_frame (p : Port) :
    (s.startExpress p).pending = s.pending ∧
      (s.startExpress p).mail = s.mail ∧
      (s.startExpress p).now = s.now ∧
      (s.startExpress p).resetAt = s.resetAt ∧
      (s.startExpress p).ports = s.ports ∧
      (s.startExpress p).fcl = s.fcl ∧
      (s.startExpress p).scu = s.scu ∧
      (s.startExpress p).ptc = s.ptc ∧
      (s.startExpress p).msu = s.msu ∧
      (s.startExpress p).lwu = s.lwu ∧
      (s.startExpress p).csu = s.csu ∧
      (s.startExpress p).pbu = s.pbu ∧
      (s.startExpress p).mga = s.mga ∧
      (s.startExpress p).settings = s.settings := by
  simp [State.startExpress]

@[simp] theorem State.startBulk_frame (p : Port) :
    (s.startBulk p).pending = s.pending ∧
      (s.startBulk p).mail = s.mail ∧
      (s.startBulk p).now = s.now ∧
      (s.startBulk p).resetAt = s.resetAt ∧
      (s.startBulk p).ports = s.ports ∧
      (s.startBulk p).fcl = s.fcl ∧
      (s.startBulk p).scu = s.scu ∧
      (s.startBulk p).ptc = s.ptc ∧
      (s.startBulk p).msu = s.msu ∧
      (s.startBulk p).lwu = s.lwu ∧
      (s.startBulk p).csu = s.csu ∧
      (s.startBulk p).pbu = s.pbu ∧
      (s.startBulk p).mga = s.mga ∧
      (s.startBulk p).settings = s.settings := by
  simp [State.startBulk]

@[simp] theorem State.uplinkChoice_frame :
    (s.uplinkChoice).pending = s.pending ∧
      (s.uplinkChoice).mail = s.mail ∧
      (s.uplinkChoice).now = s.now ∧
      (s.uplinkChoice).resetAt = s.resetAt ∧
      (s.uplinkChoice).ports = s.ports ∧
      (s.uplinkChoice).fcl = s.fcl ∧
      (s.uplinkChoice).scu = s.scu ∧
      (s.uplinkChoice).ptc = s.ptc ∧
      (s.uplinkChoice).msu = s.msu ∧
      (s.uplinkChoice).lwu = s.lwu ∧
      (s.uplinkChoice).csu = s.csu ∧
      (s.uplinkChoice).pbu = s.pbu ∧
      (s.uplinkChoice).mga = s.mga ∧
      (s.uplinkChoice).settings = s.settings := by
  unfold State.uplinkChoice; (try dsimp only); repeat' split
  all_goals simp

@[simp] theorem State.startLine_frame (p : Port) (q : QueueId) :
    (s.startLine p q).pending = s.pending ∧
      (s.startLine p q).mail = s.mail ∧
      (s.startLine p q).now = s.now ∧
      (s.startLine p q).resetAt = s.resetAt ∧
      (s.startLine p q).ports = s.ports ∧
      (s.startLine p q).fcl = s.fcl ∧
      (s.startLine p q).scu = s.scu ∧
      (s.startLine p q).ptc = s.ptc ∧
      (s.startLine p q).msu = s.msu ∧
      (s.startLine p q).lwu = s.lwu ∧
      (s.startLine p q).csu = s.csu ∧
      (s.startLine p q).pbu = s.pbu ∧
      (s.startLine p q).mga = s.mga ∧
      (s.startLine p q).settings = s.settings := by
  unfold State.startLine; split <;> simp

@[simp] theorem State.lineChoice_frame (p : Port) :
    (s.lineChoice p).pending = s.pending ∧
      (s.lineChoice p).mail = s.mail ∧
      (s.lineChoice p).now = s.now ∧
      (s.lineChoice p).resetAt = s.resetAt ∧
      (s.lineChoice p).ports = s.ports ∧
      (s.lineChoice p).fcl = s.fcl ∧
      (s.lineChoice p).scu = s.scu ∧
      (s.lineChoice p).ptc = s.ptc ∧
      (s.lineChoice p).msu = s.msu ∧
      (s.lineChoice p).lwu = s.lwu ∧
      (s.lineChoice p).csu = s.csu ∧
      (s.lineChoice p).pbu = s.pbu ∧
      (s.lineChoice p).mga = s.mga ∧
      (s.lineChoice p).settings = s.settings := by
  unfold State.lineChoice; (try dsimp only); repeat' split
  all_goals simp

@[simp] theorem State.craftChoice_frame :
    (s.craftChoice).pending = s.pending ∧
      (s.craftChoice).mail = s.mail ∧
      (s.craftChoice).now = s.now ∧
      (s.craftChoice).resetAt = s.resetAt ∧
      (s.craftChoice).ports = s.ports ∧
      (s.craftChoice).fcl = s.fcl ∧
      (s.craftChoice).scu = s.scu ∧
      (s.craftChoice).ptc = s.ptc ∧
      (s.craftChoice).msu = s.msu ∧
      (s.craftChoice).lwu = s.lwu ∧
      (s.craftChoice).csu = s.csu ∧
      (s.craftChoice).pbu = s.pbu ∧
      (s.craftChoice).mga = s.mga ∧
      (s.craftChoice).settings = s.settings := by
  unfold State.craftChoice; (try dsimp only); repeat' split
  all_goals simp

@[simp] theorem State.placeFrame_frame (q : QueueId) (length : Nat) (image : FrameImage) (kind : AgentFrameKind) :
    (s.placeFrame q length image kind).pending = s.pending ∧
      (s.placeFrame q length image kind).mail = s.mail ∧
      (s.placeFrame q length image kind).now = s.now ∧
      (s.placeFrame q length image kind).resetAt = s.resetAt ∧
      (s.placeFrame q length image kind).ports = s.ports ∧
      (s.placeFrame q length image kind).fcl = s.fcl ∧
      (s.placeFrame q length image kind).scu = s.scu ∧
      (s.placeFrame q length image kind).txs = s.txs ∧
      (s.placeFrame q length image kind).ptc = s.ptc ∧
      (s.placeFrame q length image kind).msu = s.msu ∧
      (s.placeFrame q length image kind).lwu = s.lwu ∧
      (s.placeFrame q length image kind).csu = s.csu ∧
      (s.placeFrame q length image kind).pbu = s.pbu ∧
      (s.placeFrame q length image kind).mga = s.mga ∧
      (s.placeFrame q length image kind).settings = s.settings := by
  simp [State.placeFrame]

/-- A frame placed in AQ leaves AQ not empty. -/
theorem State.placeFrame_aq (length : Nat) (image : FrameImage) (kind : AgentFrameKind) :
    (s.placeFrame .aq length image kind).cbm.aq.isEmpty = false := by
  simp [State.placeFrame, State.setQueue]

/-- With a frame in AQ the arbiter starts the head of AQ or nothing (R88). -/
theorem State.uplinkChoice_of_aq (h : s.cbm.aq.isEmpty = false) :
    s.uplinkChoice = if s.uplinkMayStart then s.startUplink .aq else s := by
  simp [State.uplinkChoice, h]

@[simp] theorem State.setQueue_aq_frame (ds : List Descriptor) :
    (s.setQueue .aq ds).cbm.queues = s.cbm.queues ∧ (s.setQueue .aq ds).cbm.cq = s.cbm.cq ∧
      (s.setQueue .cq ds).cbm.queues = s.cbm.queues ∧ (s.setQueue .cq ds).cbm.aq = s.cbm.aq := by
  simp [State.setQueue]

@[simp] theorem State.startUplink_aq_frame :
    (s.startUplink .aq).cbm.queues = s.cbm.queues ∧ (s.startUplink .aq).cbm.cq = s.cbm.cq ∧
      (s.startUplink .aq).cbm.upHeld = s.cbm.upHeld ∧ (s.startUplink .aq).cbm.downHeld = s.cbm.downHeld ∧
      (s.startUplink .aq).cbm.drops = s.cbm.drops ∧ (s.startUplink .aq).cbm.uplinkPoolFull = s.cbm.uplinkPoolFull := by
  unfold State.startUplink; split <;> simp

@[simp] theorem State.placeFrame_aq_frame (length : Nat) (image : FrameImage) (kind : AgentFrameKind) :
    (s.placeFrame .aq length image kind).cbm.queues = s.cbm.queues ∧
      (s.placeFrame .aq length image kind).cbm.cq = s.cbm.cq ∧
      (s.placeFrame .aq length image kind).cbm.upHeld = s.cbm.upHeld ∧
      (s.placeFrame .aq length image kind).cbm.downHeld = s.cbm.downHeld ∧
      (s.placeFrame .aq length image kind).cbm.drops = s.cbm.drops ∧
      (s.placeFrame .aq length image kind).cbm.uplinkPoolFull = s.cbm.uplinkPoolFull := by
  simp [State.placeFrame, State.takeCells, Buffer.setHeld]

/-- Two states whose notices are left out of account are one when they agree on everything else. -/
theorem State.besideNotices_eq (s t : State) :
    t.besideNotices = s.besideNotices ↔
      t.pending = s.pending ∧ t.mail = s.mail ∧ t.now = s.now ∧ t.resetAt = s.resetAt ∧ t.ports = s.ports ∧ t.fcl = s.fcl ∧
        t.scu = s.scu ∧ t.ptc = s.ptc ∧ t.msu = s.msu ∧ t.lwu = s.lwu ∧ t.csu = s.csu ∧ t.pbu = s.pbu ∧ t.settings = s.settings ∧
        { t.mga with notices := [], changeMark := false, lostMark := false, noticesDropped := 0 } =
          ({ s.mga with notices := [], changeMark := false, lostMark := false, noticesDropped := 0 } : Agent) ∧
        { t.cbm with aq := [], reservedHeld := 0, picks := 0 } = ({ s.cbm with aq := [], reservedHeld := 0, picks := 0 } : Buffer) ∧
        { t.txs with uplinkTx := none } = ({ s.txs with uplinkTx := none } : Scheduler) := by
  constructor
  · intro h
    simp only [State.besideNotices, State.mk.injEq] at h
    simp_all
  · rintro ⟨h1, h2, h3, h4, h5, h6, h7, h8, h9, h10, h11, h12, h13, h14, h15, h16⟩
    simp only [State.besideNotices, h1, h2, h3, h4, h5, h6, h7, h8, h9, h10, h11, h12, h13, h14, h15, h16]

@[simp] theorem State.tryNoticeFrame_frame :
    (s.tryNoticeFrame).pending = s.pending ∧
      (s.tryNoticeFrame).mail = s.mail ∧
      (s.tryNoticeFrame).now = s.now ∧
      (s.tryNoticeFrame).resetAt = s.resetAt ∧
      (s.tryNoticeFrame).ports = s.ports ∧
      (s.tryNoticeFrame).fcl = s.fcl ∧
      (s.tryNoticeFrame).scu = s.scu ∧
      (s.tryNoticeFrame).ptc = s.ptc ∧
      (s.tryNoticeFrame).msu = s.msu ∧
      (s.tryNoticeFrame).lwu = s.lwu ∧
      (s.tryNoticeFrame).csu = s.csu ∧
      (s.tryNoticeFrame).pbu = s.pbu ∧
      (s.tryNoticeFrame).settings = s.settings ∧
      (s.tryNoticeFrame).mga.exec = s.mga.exec ∧
      (s.tryNoticeFrame).mga.resetWait = s.mga.resetWait ∧
      (s.tryNoticeFrame).mga.locked = s.mga.locked ∧
      (s.tryNoticeFrame).mga.cabinet = s.mga.cabinet ∧
      (s.tryNoticeFrame).mga.faults = s.mga.faults ∧
      (s.tryNoticeFrame).mga.destination = s.mga.destination ∧
      (s.tryNoticeFrame).mga.lastEntry = s.mga.lastEntry ∧
      (s.tryNoticeFrame).mga.subscribers = s.mga.subscribers ∧
      (s.tryNoticeFrame).mga.uplinkStore = s.mga.uplinkStore ∧
      (s.tryNoticeFrame).mga.craftStore = s.mga.craftStore ∧
      (s.tryNoticeFrame).mga.accepted = s.mga.accepted ∧
      (s.tryNoticeFrame).mga.rejected = s.mga.rejected ∧
      (s.tryNoticeFrame).mga.faultsLost = s.mga.faultsLost ∧
      (s.tryNoticeFrame).mga.reportsLost = s.mga.reportsLost ∧
      (s.tryNoticeFrame).mga.servedLast = s.mga.servedLast ∧
      (s.tryNoticeFrame).mga.changeMark = s.mga.changeMark ∧
      (s.tryNoticeFrame).mga.lostMark = s.mga.lostMark ∧
      (s.tryNoticeFrame).mga.noticesDropped = s.mga.noticesDropped ∧
      (s.tryNoticeFrame).cbm.queues = s.cbm.queues ∧
      (s.tryNoticeFrame).cbm.upHeld = s.cbm.upHeld ∧
      (s.tryNoticeFrame).cbm.downHeld = s.cbm.downHeld ∧
      (s.tryNoticeFrame).cbm.cq = s.cbm.cq ∧
      (s.tryNoticeFrame).cbm.drops = s.cbm.drops ∧
      (s.tryNoticeFrame).cbm.uplinkPoolFull = s.cbm.uplinkPoolFull ∧
      (s.tryNoticeFrame).txs.upBuckets = s.txs.upBuckets ∧
      (s.tryNoticeFrame).txs.downBuckets = s.txs.downBuckets ∧
      (s.tryNoticeFrame).txs.expressPtr = s.txs.expressPtr ∧
      (s.tryNoticeFrame).txs.bulkPtr = s.txs.bulkPtr ∧
      (s.tryNoticeFrame).txs.paused = s.txs.paused ∧
      (s.tryNoticeFrame).txs.lineTx = s.txs.lineTx ∧
      (s.tryNoticeFrame).txs.craftTx = s.txs.craftTx ∧
      (s.tryNoticeFrame).txs.craftLinkUp = s.txs.craftLinkUp ∧
      (s.tryNoticeFrame).txs.uplinkFrames = s.txs.uplinkFrames ∧
      (s.tryNoticeFrame).txs.uplinkOctets = s.txs.uplinkOctets ∧
      (s.tryNoticeFrame).txs.uplinkAgentFrames = s.txs.uplinkAgentFrames ∧
      (s.tryNoticeFrame).txs.craftFrames = s.txs.craftFrames ∧
      (s.tryNoticeFrame).txs.craftDiscards = s.txs.craftDiscards := by
  unfold State.tryNoticeFrame; split
  · simp
  · split
    · simp
    · dsimp only
      split
      · rw [State.uplinkChoice_of_aq]
        · split <;> simp
        · exact State.placeFrame_aq _ _ _ _
      · simp

@[simp] theorem State.raiseNotice_frame (n : Notice) :
    (s.raiseNotice n).pending = s.pending ∧
      (s.raiseNotice n).mail = s.mail ∧
      (s.raiseNotice n).now = s.now ∧
      (s.raiseNotice n).resetAt = s.resetAt ∧
      (s.raiseNotice n).ports = s.ports ∧
      (s.raiseNotice n).fcl = s.fcl ∧
      (s.raiseNotice n).scu = s.scu ∧
      (s.raiseNotice n).ptc = s.ptc ∧
      (s.raiseNotice n).msu = s.msu ∧
      (s.raiseNotice n).lwu = s.lwu ∧
      (s.raiseNotice n).csu = s.csu ∧
      (s.raiseNotice n).pbu = s.pbu ∧
      (s.raiseNotice n).settings = s.settings ∧
      (s.raiseNotice n).mga.exec = s.mga.exec ∧
      (s.raiseNotice n).mga.resetWait = s.mga.resetWait ∧
      (s.raiseNotice n).mga.locked = s.mga.locked ∧
      (s.raiseNotice n).mga.cabinet = s.mga.cabinet ∧
      (s.raiseNotice n).mga.faults = s.mga.faults ∧
      (s.raiseNotice n).mga.destination = s.mga.destination ∧
      (s.raiseNotice n).mga.lastEntry = s.mga.lastEntry ∧
      (s.raiseNotice n).mga.subscribers = s.mga.subscribers ∧
      (s.raiseNotice n).mga.uplinkStore = s.mga.uplinkStore ∧
      (s.raiseNotice n).mga.craftStore = s.mga.craftStore ∧
      (s.raiseNotice n).mga.accepted = s.mga.accepted ∧
      (s.raiseNotice n).mga.rejected = s.mga.rejected ∧
      (s.raiseNotice n).mga.faultsLost = s.mga.faultsLost ∧
      (s.raiseNotice n).mga.reportsLost = s.mga.reportsLost ∧
      (s.raiseNotice n).mga.servedLast = s.mga.servedLast ∧
      (s.raiseNotice n).cbm.queues = s.cbm.queues ∧
      (s.raiseNotice n).cbm.upHeld = s.cbm.upHeld ∧
      (s.raiseNotice n).cbm.downHeld = s.cbm.downHeld ∧
      (s.raiseNotice n).cbm.cq = s.cbm.cq ∧
      (s.raiseNotice n).cbm.drops = s.cbm.drops ∧
      (s.raiseNotice n).cbm.uplinkPoolFull = s.cbm.uplinkPoolFull ∧
      (s.raiseNotice n).txs.upBuckets = s.txs.upBuckets ∧
      (s.raiseNotice n).txs.downBuckets = s.txs.downBuckets ∧
      (s.raiseNotice n).txs.expressPtr = s.txs.expressPtr ∧
      (s.raiseNotice n).txs.bulkPtr = s.txs.bulkPtr ∧
      (s.raiseNotice n).txs.paused = s.txs.paused ∧
      (s.raiseNotice n).txs.lineTx = s.txs.lineTx ∧
      (s.raiseNotice n).txs.craftTx = s.txs.craftTx ∧
      (s.raiseNotice n).txs.craftLinkUp = s.txs.craftLinkUp ∧
      (s.raiseNotice n).txs.uplinkFrames = s.txs.uplinkFrames ∧
      (s.raiseNotice n).txs.uplinkOctets = s.txs.uplinkOctets ∧
      (s.raiseNotice n).txs.uplinkAgentFrames = s.txs.uplinkAgentFrames ∧
      (s.raiseNotice n).txs.craftFrames = s.txs.craftFrames ∧
      (s.raiseNotice n).txs.craftDiscards = s.txs.craftDiscards := by
  unfold State.raiseNotice; split
  · simp only [State.tryNoticeFrame_frame]
    simp only [Agent.queueNotice]
    split <;> simp
  · simp

/-- Raising a notice changes nothing but notices (R185, R186). -/
@[simp] theorem State.raiseNotice_besideNotices (n : Notice) : (s.raiseNotice n).besideNotices = s.besideNotices := by
  rw [State.besideNotices_eq]
  have f := s.raiseNotice_frame n
  refine ⟨f.1, f.2.1, f.2.2.1, f.2.2.2.1, f.2.2.2.2.1, f.2.2.2.2.2.1, ?_⟩
  simp only [State.raiseNotice_frame, and_true]

/-- Raising a fault is the agent's own step of R183, with at most a notice after it. -/
theorem State.raiseFault_eq (src : FaultSource) (kind : FaultKind) (cause : Option RestartCause) :
    s.raiseFault src kind cause = { s with mga := (s.mga.raise src kind cause s.uptime).1 } ∨
      ∃ n, s.raiseFault src kind cause = ({ s with mga := (s.mga.raise src kind cause s.uptime).1 } : State).raiseNotice n := by
  unfold State.raiseFault
  dsimp only
  split
  · split
    · exact .inr ⟨_, rfl⟩
    · exact .inl rfl
  · exact .inl rfl

@[simp] theorem Agent.raise_frame (a : Agent) (src : FaultSource) (kind : FaultKind) (cause : Option RestartCause) (u : Nat) :
    (a.raise src kind cause u).1.exec = a.exec ∧ (a.raise src kind cause u).1.resetWait = a.resetWait ∧
      (a.raise src kind cause u).1.locked = a.locked ∧ (a.raise src kind cause u).1.cabinet = a.cabinet ∧
      (a.raise src kind cause u).1.destination = a.destination ∧ (a.raise src kind cause u).1.lastEntry = a.lastEntry ∧
      (a.raise src kind cause u).1.subscribers = a.subscribers ∧ (a.raise src kind cause u).1.uplinkStore = a.uplinkStore ∧
      (a.raise src kind cause u).1.craftStore = a.craftStore ∧ (a.raise src kind cause u).1.servedLast = a.servedLast ∧
      (a.raise src kind cause u).1.accepted = a.accepted ∧ (a.raise src kind cause u).1.rejected = a.rejected ∧
      (a.raise src kind cause u).1.reportsLost = a.reportsLost ∧ (a.raise src kind cause u).1.notices = a.notices := by
  unfold Agent.raise; split
  · simp
  · split <;> simp

@[simp] theorem State.raiseFault_frame (src : FaultSource) (kind : FaultKind) (cause : Option RestartCause) :
    (s.raiseFault src kind cause).pending = s.pending ∧
      (s.raiseFault src kind cause).mail = s.mail ∧
      (s.raiseFault src kind cause).now = s.now ∧
      (s.raiseFault src kind cause).resetAt = s.resetAt ∧
      (s.raiseFault src kind cause).ports = s.ports ∧
      (s.raiseFault src kind cause).fcl = s.fcl ∧
      (s.raiseFault src kind cause).scu = s.scu ∧
      (s.raiseFault src kind cause).ptc = s.ptc ∧
      (s.raiseFault src kind cause).msu = s.msu ∧
      (s.raiseFault src kind cause).lwu = s.lwu ∧
      (s.raiseFault src kind cause).csu = s.csu ∧
      (s.raiseFault src kind cause).pbu = s.pbu ∧
      (s.raiseFault src kind cause).settings = s.settings ∧
      (s.raiseFault src kind cause).mga.exec = s.mga.exec ∧
      (s.raiseFault src kind cause).mga.resetWait = s.mga.resetWait ∧
      (s.raiseFault src kind cause).mga.locked = s.mga.locked ∧
      (s.raiseFault src kind cause).mga.cabinet = s.mga.cabinet ∧
      (s.raiseFault src kind cause).mga.destination = s.mga.destination ∧
      (s.raiseFault src kind cause).mga.lastEntry = s.mga.lastEntry ∧
      (s.raiseFault src kind cause).mga.subscribers = s.mga.subscribers ∧
      (s.raiseFault src kind cause).mga.uplinkStore = s.mga.uplinkStore ∧
      (s.raiseFault src kind cause).mga.craftStore = s.mga.craftStore ∧
      (s.raiseFault src kind cause).mga.accepted = s.mga.accepted ∧
      (s.raiseFault src kind cause).mga.rejected = s.mga.rejected ∧
      (s.raiseFault src kind cause).mga.reportsLost = s.mga.reportsLost ∧
      (s.raiseFault src kind cause).mga.servedLast = s.mga.servedLast ∧
      (s.raiseFault src kind cause).mga.faults = (s.mga.raise src kind cause s.uptime).1.faults ∧
      (s.raiseFault src kind cause).cbm.queues = s.cbm.queues ∧
      (s.raiseFault src kind cause).cbm.upHeld = s.cbm.upHeld ∧
      (s.raiseFault src kind cause).cbm.downHeld = s.cbm.downHeld ∧
      (s.raiseFault src kind cause).cbm.cq = s.cbm.cq ∧
      (s.raiseFault src kind cause).cbm.drops = s.cbm.drops ∧
      (s.raiseFault src kind cause).cbm.uplinkPoolFull = s.cbm.uplinkPoolFull ∧
      (s.raiseFault src kind cause).txs.upBuckets = s.txs.upBuckets ∧
      (s.raiseFault src kind cause).txs.downBuckets = s.txs.downBuckets ∧
      (s.raiseFault src kind cause).txs.expressPtr = s.txs.expressPtr ∧
      (s.raiseFault src kind cause).txs.bulkPtr = s.txs.bulkPtr ∧
      (s.raiseFault src kind cause).txs.paused = s.txs.paused ∧
      (s.raiseFault src kind cause).txs.lineTx = s.txs.lineTx ∧
      (s.raiseFault src kind cause).txs.craftTx = s.txs.craftTx ∧
      (s.raiseFault src kind cause).txs.craftLinkUp = s.txs.craftLinkUp ∧
      (s.raiseFault src kind cause).txs.uplinkFrames = s.txs.uplinkFrames ∧
      (s.raiseFault src kind cause).txs.uplinkOctets = s.txs.uplinkOctets ∧
      (s.raiseFault src kind cause).txs.uplinkAgentFrames = s.txs.uplinkAgentFrames ∧
      (s.raiseFault src kind cause).txs.craftFrames = s.txs.craftFrames ∧
      (s.raiseFault src kind cause).txs.craftDiscards = s.txs.craftDiscards := by
  rcases s.raiseFault_eq src kind cause with h | ⟨n, h⟩ <;> rw [h] <;> simp

@[simp] theorem State.afterAgentFrames_frame (ds : List Descriptor) :
    (s.afterAgentFrames ds).pending = s.pending ∧
      (s.afterAgentFrames ds).now = s.now ∧
      (s.afterAgentFrames ds).resetAt = s.resetAt ∧
      (s.afterAgentFrames ds).ports = s.ports ∧
      (s.afterAgentFrames ds).fcl = s.fcl ∧
      (s.afterAgentFrames ds).scu = s.scu ∧
      (s.afterAgentFrames ds).ptc = s.ptc ∧
      (s.afterAgentFrames ds).msu = s.msu ∧
      (s.afterAgentFrames ds).lwu = s.lwu ∧
      (s.afterAgentFrames ds).csu = s.csu ∧
      (s.afterAgentFrames ds).pbu = s.pbu ∧
      (s.afterAgentFrames ds).settings = s.settings ∧
      (s.afterAgentFrames ds).mga.exec = s.mga.exec ∧
      (s.afterAgentFrames ds).mga.locked = s.mga.locked ∧
      (s.afterAgentFrames ds).mga.faults = s.mga.faults ∧
      (s.afterAgentFrames ds).mga.subscribers = s.mga.subscribers ∧
      (s.afterAgentFrames ds).mga.lastEntry = s.mga.lastEntry ∧
      (s.afterAgentFrames ds).mga.cabinet = s.mga.cabinet ∧
      (s.afterAgentFrames ds).cbm.queues = s.cbm.queues ∧
      (s.afterAgentFrames ds).cbm.upHeld = s.cbm.upHeld ∧
      (s.afterAgentFrames ds).cbm.downHeld = s.cbm.downHeld ∧
      (s.afterAgentFrames ds).cbm.cq = s.cbm.cq ∧
      (s.afterAgentFrames ds).cbm.drops = s.cbm.drops ∧
      (s.afterAgentFrames ds).cbm.uplinkPoolFull = s.cbm.uplinkPoolFull ∧
      (s.afterAgentFrames ds).txs.upBuckets = s.txs.upBuckets ∧
      (s.afterAgentFrames ds).txs.downBuckets = s.txs.downBuckets ∧
      (s.afterAgentFrames ds).txs.expressPtr = s.txs.expressPtr ∧
      (s.afterAgentFrames ds).txs.bulkPtr = s.txs.bulkPtr ∧
      (s.afterAgentFrames ds).txs.paused = s.txs.paused ∧
      (s.afterAgentFrames ds).txs.lineTx = s.txs.lineTx ∧
      (s.afterAgentFrames ds).txs.craftTx = s.txs.craftTx ∧
      (s.afterAgentFrames ds).txs.craftLinkUp = s.txs.craftLinkUp ∧
      (s.afterAgentFrames ds).txs.uplinkFrames = s.txs.uplinkFrames ∧
      (s.afterAgentFrames ds).txs.uplinkOctets = s.txs.uplinkOctets ∧
      (s.afterAgentFrames ds).txs.uplinkAgentFrames = s.txs.uplinkAgentFrames ∧
      (s.afterAgentFrames ds).txs.craftFrames = s.txs.craftFrames ∧
      (s.afterAgentFrames ds).txs.craftDiscards = s.txs.craftDiscards := by
  unfold State.afterAgentFrames; (try dsimp only); repeat' split
  all_goals simp

@[simp] theorem State.discardCraft_frame :
    (s.discardCraft).pending = s.pending ∧
      (s.discardCraft).now = s.now ∧
      (s.discardCraft).resetAt = s.resetAt ∧
      (s.discardCraft).ports = s.ports ∧
      (s.discardCraft).fcl = s.fcl ∧
      (s.discardCraft).scu = s.scu ∧
      (s.discardCraft).ptc = s.ptc ∧
      (s.discardCraft).msu = s.msu ∧
      (s.discardCraft).lwu = s.lwu ∧
      (s.discardCraft).csu = s.csu ∧
      (s.discardCraft).pbu = s.pbu ∧
      (s.discardCraft).settings = s.settings ∧
      (s.discardCraft).mga.exec = s.mga.exec ∧
      (s.discardCraft).mga.locked = s.mga.locked ∧
      (s.discardCraft).mga.faults = s.mga.faults ∧
      (s.discardCraft).mga.subscribers = s.mga.subscribers ∧
      (s.discardCraft).mga.lastEntry = s.mga.lastEntry ∧
      (s.discardCraft).mga.cabinet = s.mga.cabinet := by
  unfold State.discardCraft; dsimp only; split <;> simp

@[simp] theorem State.trigger_frame :
    (s.trigger).pending = s.pending ∧
      (s.trigger).mail = s.mail ∧
      (s.trigger).now = s.now ∧
      (s.trigger).resetAt = s.resetAt ∧
      (s.trigger).ports = s.ports ∧
      (s.trigger).fcl = s.fcl ∧
      (s.trigger).cbm = s.cbm ∧
      (s.trigger).txs = s.txs ∧
      (s.trigger).ptc = s.ptc ∧
      (s.trigger).msu = s.msu ∧
      (s.trigger).lwu = s.lwu ∧
      (s.trigger).csu = s.csu ∧
      (s.trigger).pbu = s.pbu ∧
      (s.trigger).mga = s.mga ∧
      (s.trigger).settings = s.settings ∧
      (s.trigger).scu.linkUp = s.scu.linkUp ∧
      (s.trigger).scu.latestReport = s.scu.latestReport ∧
      (s.trigger).scu.activity = s.scu.activity ∧
      (s.trigger).scu.table = s.scu.table := by
  unfold State.trigger; split <;> simp

@[simp] theorem State.leaveUp_frame (p : Port) :
    (s.leaveUp p).pending = s.pending ∧
      (s.leaveUp p).mail = s.mail ∧
      (s.leaveUp p).now = s.now ∧
      (s.leaveUp p).resetAt = s.resetAt ∧
      (s.leaveUp p).ports = s.ports ∧
      (s.leaveUp p).fcl = s.fcl ∧
      (s.leaveUp p).ptc = s.ptc ∧
      (s.leaveUp p).msu = s.msu ∧
      (s.leaveUp p).lwu = s.lwu ∧
      (s.leaveUp p).csu = s.csu ∧
      (s.leaveUp p).pbu = s.pbu ∧
      (s.leaveUp p).mga = s.mga ∧
      (s.leaveUp p).settings = s.settings := by
  simp [State.leaveUp]

@[simp] theorem State.reportLevel_frame (p : Port) :
    (s.reportLevel p).pending = s.pending ∧
      (s.reportLevel p).mail = s.mail ∧
      (s.reportLevel p).now = s.now ∧
      (s.reportLevel p).resetAt = s.resetAt ∧
      (s.reportLevel p).ports = s.ports ∧
      (s.reportLevel p).fcl = s.fcl ∧
      (s.reportLevel p).scu = s.scu ∧
      (s.reportLevel p).ptc = s.ptc ∧
      (s.reportLevel p).msu = s.msu ∧
      (s.reportLevel p).csu = s.csu ∧
      (s.reportLevel p).pbu = s.pbu ∧
      (s.reportLevel p).settings = s.settings ∧
      (s.reportLevel p).mga.exec = s.mga.exec ∧
      (s.reportLevel p).mga.resetWait = s.mga.resetWait ∧
      (s.reportLevel p).mga.locked = s.mga.locked ∧
      (s.reportLevel p).mga.cabinet = s.mga.cabinet ∧
      (s.reportLevel p).mga.faults = s.mga.faults ∧
      (s.reportLevel p).mga.destination = s.mga.destination ∧
      (s.reportLevel p).mga.lastEntry = s.mga.lastEntry ∧
      (s.reportLevel p).mga.subscribers = s.mga.subscribers ∧
      (s.reportLevel p).mga.uplinkStore = s.mga.uplinkStore ∧
      (s.reportLevel p).mga.craftStore = s.mga.craftStore ∧
      (s.reportLevel p).mga.accepted = s.mga.accepted ∧
      (s.reportLevel p).mga.rejected = s.mga.rejected ∧
      (s.reportLevel p).mga.faultsLost = s.mga.faultsLost ∧
      (s.reportLevel p).mga.reportsLost = s.mga.reportsLost ∧
      (s.reportLevel p).mga.servedLast = s.mga.servedLast ∧
      (s.reportLevel p).cbm.queues = s.cbm.queues ∧
      (s.reportLevel p).cbm.upHeld = s.cbm.upHeld ∧
      (s.reportLevel p).cbm.downHeld = s.cbm.downHeld ∧
      (s.reportLevel p).cbm.cq = s.cbm.cq ∧
      (s.reportLevel p).cbm.drops = s.cbm.drops ∧
      (s.reportLevel p).cbm.uplinkPoolFull = s.cbm.uplinkPoolFull ∧
      (s.reportLevel p).txs.upBuckets = s.txs.upBuckets ∧
      (s.reportLevel p).txs.downBuckets = s.txs.downBuckets ∧
      (s.reportLevel p).txs.expressPtr = s.txs.expressPtr ∧
      (s.reportLevel p).txs.bulkPtr = s.txs.bulkPtr ∧
      (s.reportLevel p).txs.paused = s.txs.paused ∧
      (s.reportLevel p).txs.lineTx = s.txs.lineTx ∧
      (s.reportLevel p).txs.craftTx = s.txs.craftTx ∧
      (s.reportLevel p).txs.craftLinkUp = s.txs.craftLinkUp ∧
      (s.reportLevel p).txs.uplinkFrames = s.txs.uplinkFrames ∧
      (s.reportLevel p).txs.uplinkOctets = s.txs.uplinkOctets ∧
      (s.reportLevel p).txs.uplinkAgentFrames = s.txs.uplinkAgentFrames ∧
      (s.reportLevel p).txs.craftFrames = s.txs.craftFrames ∧
      (s.reportLevel p).txs.craftDiscards = s.txs.craftDiscards ∧
      (s.reportLevel p).lwu.armed = s.lwu.armed ∧
      (s.reportLevel p).lwu.timer = s.lwu.timer := by
  unfold State.reportLevel; dsimp only; split <;> simp

@[simp] theorem State.settleSweepTimer_frame :
    (s.settleSweepTimer).pending = s.pending ∧
      (s.settleSweepTimer).mail = s.mail ∧
      (s.settleSweepTimer).now = s.now ∧
      (s.settleSweepTimer).resetAt = s.resetAt ∧
      (s.settleSweepTimer).ports = s.ports ∧
      (s.settleSweepTimer).fcl = s.fcl ∧
      (s.settleSweepTimer).cbm = s.cbm ∧
      (s.settleSweepTimer).scu = s.scu ∧
      (s.settleSweepTimer).txs = s.txs ∧
      (s.settleSweepTimer).ptc = s.ptc ∧
      (s.settleSweepTimer).msu = s.msu ∧
      (s.settleSweepTimer).csu = s.csu ∧
      (s.settleSweepTimer).pbu = s.pbu ∧
      (s.settleSweepTimer).mga = s.mga ∧
      (s.settleSweepTimer).settings = s.settings ∧
      (s.settleSweepTimer).lwu.records = s.lwu.records ∧
      (s.settleSweepTimer).lwu.armed = s.lwu.armed := by
  unfold State.settleSweepTimer; (try dsimp only); repeat' split
  all_goals simp

@[simp] theorem State.rewatch_frame (p : Port) :
    (s.rewatch p).pending = s.pending ∧
      (s.rewatch p).mail = s.mail ∧
      (s.rewatch p).now = s.now ∧
      (s.rewatch p).resetAt = s.resetAt ∧
      (s.rewatch p).ports = s.ports ∧
      (s.rewatch p).fcl = s.fcl ∧
      (s.rewatch p).scu = s.scu ∧
      (s.rewatch p).ptc = s.ptc ∧
      (s.rewatch p).msu = s.msu ∧
      (s.rewatch p).csu = s.csu ∧
      (s.rewatch p).pbu = s.pbu ∧
      (s.rewatch p).settings = s.settings ∧
      (s.rewatch p).mga.exec = s.mga.exec ∧
      (s.rewatch p).mga.resetWait = s.mga.resetWait ∧
      (s.rewatch p).mga.locked = s.mga.locked ∧
      (s.rewatch p).mga.cabinet = s.mga.cabinet ∧
      (s.rewatch p).mga.destination = s.mga.destination ∧
      (s.rewatch p).mga.lastEntry = s.mga.lastEntry ∧
      (s.rewatch p).mga.subscribers = s.mga.subscribers ∧
      (s.rewatch p).mga.uplinkStore = s.mga.uplinkStore ∧
      (s.rewatch p).mga.craftStore = s.mga.craftStore ∧
      (s.rewatch p).mga.accepted = s.mga.accepted ∧
      (s.rewatch p).mga.rejected = s.mga.rejected ∧
      (s.rewatch p).mga.reportsLost = s.mga.reportsLost ∧
      (s.rewatch p).mga.servedLast = s.mga.servedLast ∧
      (s.rewatch p).cbm.queues = s.cbm.queues ∧
      (s.rewatch p).cbm.upHeld = s.cbm.upHeld ∧
      (s.rewatch p).cbm.downHeld = s.cbm.downHeld ∧
      (s.rewatch p).cbm.cq = s.cbm.cq ∧
      (s.rewatch p).cbm.drops = s.cbm.drops ∧
      (s.rewatch p).cbm.uplinkPoolFull = s.cbm.uplinkPoolFull ∧
      (s.rewatch p).txs.upBuckets = s.txs.upBuckets ∧
      (s.rewatch p).txs.downBuckets = s.txs.downBuckets ∧
      (s.rewatch p).txs.expressPtr = s.txs.expressPtr ∧
      (s.rewatch p).txs.bulkPtr = s.txs.bulkPtr ∧
      (s.rewatch p).txs.paused = s.txs.paused ∧
      (s.rewatch p).txs.lineTx = s.txs.lineTx ∧
      (s.rewatch p).txs.craftTx = s.txs.craftTx ∧
      (s.rewatch p).txs.craftLinkUp = s.txs.craftLinkUp ∧
      (s.rewatch p).txs.uplinkFrames = s.txs.uplinkFrames ∧
      (s.rewatch p).txs.uplinkOctets = s.txs.uplinkOctets ∧
      (s.rewatch p).txs.uplinkAgentFrames = s.txs.uplinkAgentFrames ∧
      (s.rewatch p).txs.craftFrames = s.txs.craftFrames ∧
      (s.rewatch p).txs.craftDiscards = s.txs.craftDiscards ∧
      (s.rewatch p).lwu.armed = s.lwu.armed := by
  unfold State.rewatch; (try dsimp only); repeat' split
  all_goals simp

@[simp] theorem State.installPort_frame (p : Port) (r : PortRecord) :
    (s.installPort p r).pending = s.pending ∧
      (s.installPort p r).mail = s.mail ∧
      (s.installPort p r).now = s.now ∧
      (s.installPort p r).resetAt = s.resetAt ∧
      (s.installPort p r).fcl = s.fcl ∧
      (s.installPort p r).ptc = s.ptc ∧
      (s.installPort p r).msu = s.msu ∧
      (s.installPort p r).lwu = s.lwu ∧
      (s.installPort p r).csu = s.csu ∧
      (s.installPort p r).pbu = s.pbu ∧
      (s.installPort p r).mga = s.mga ∧
      (s.installPort p r).settings = s.settings ∧
      (s.installPort p r).ports = s.ports.set p r.outOfUp.ordered := by
  unfold State.installPort; dsimp only; split <;> simp

@[simp] theorem State.changePort_frame (p : Port) (r : PortRecord) (e : Bool) :
    (s.changePort p r e).pending = s.pending ∧
      (s.changePort p r e).now = s.now ∧
      (s.changePort p r e).resetAt = s.resetAt ∧
      (s.changePort p r e).fcl = s.fcl ∧
      (s.changePort p r e).ptc = s.ptc ∧
      (s.changePort p r e).msu = s.msu ∧
      (s.changePort p r e).csu = s.csu ∧
      (s.changePort p r e).pbu = s.pbu ∧
      (s.changePort p r e).settings = s.settings ∧
      (s.changePort p r e).ports = s.ports.set p r.outOfUp.ordered ∧
      (s.changePort p r e).mga.exec = s.mga.exec ∧
      (s.changePort p r e).mga.resetWait = s.mga.resetWait ∧
      (s.changePort p r e).mga.locked = s.mga.locked ∧
      (s.changePort p r e).mga.cabinet = s.mga.cabinet ∧
      (s.changePort p r e).mga.destination = s.mga.destination ∧
      (s.changePort p r e).mga.lastEntry = s.mga.lastEntry ∧
      (s.changePort p r e).mga.subscribers = s.mga.subscribers ∧
      (s.changePort p r e).mga.uplinkStore = s.mga.uplinkStore ∧
      (s.changePort p r e).mga.craftStore = s.mga.craftStore ∧
      (s.changePort p r e).mga.accepted = s.mga.accepted ∧
      (s.changePort p r e).mga.rejected = s.mga.rejected ∧
      (s.changePort p r e).mga.reportsLost = s.mga.reportsLost ∧
      (s.changePort p r e).mga.servedLast = s.mga.servedLast ∧
      (s.changePort p r e).lwu.armed = s.lwu.armed := by
  unfold State.changePort; (try dsimp only); repeat' split
  all_goals simp

@[simp] theorem State.addDoze_frame (p : Port) (c : DozeCause) :
    (s.addDoze p c).pending = s.pending ∧
      (s.addDoze p c).now = s.now ∧
      (s.addDoze p c).resetAt = s.resetAt ∧
      (s.addDoze p c).fcl = s.fcl ∧
      (s.addDoze p c).ptc = s.ptc ∧
      (s.addDoze p c).msu = s.msu ∧
      (s.addDoze p c).csu = s.csu ∧
      (s.addDoze p c).pbu = s.pbu ∧
      (s.addDoze p c).settings = s.settings ∧
      (s.addDoze p c).mga.exec = s.mga.exec ∧
      (s.addDoze p c).mga.resetWait = s.mga.resetWait ∧
      (s.addDoze p c).mga.locked = s.mga.locked ∧
      (s.addDoze p c).mga.cabinet = s.mga.cabinet ∧
      (s.addDoze p c).mga.destination = s.mga.destination ∧
      (s.addDoze p c).mga.lastEntry = s.mga.lastEntry ∧
      (s.addDoze p c).mga.subscribers = s.mga.subscribers ∧
      (s.addDoze p c).mga.uplinkStore = s.mga.uplinkStore ∧
      (s.addDoze p c).mga.craftStore = s.mga.craftStore ∧
      (s.addDoze p c).mga.accepted = s.mga.accepted ∧
      (s.addDoze p c).mga.rejected = s.mga.rejected ∧
      (s.addDoze p c).mga.reportsLost = s.mga.reportsLost ∧
      (s.addDoze p c).mga.servedLast = s.mga.servedLast := by
  unfold State.addDoze; (try dsimp only); repeat' split
  all_goals simp

@[simp] theorem State.removeShed_frame (p : Port) :
    (s.removeShed p).pending = s.pending ∧
      (s.removeShed p).now = s.now ∧
      (s.removeShed p).resetAt = s.resetAt ∧
      (s.removeShed p).fcl = s.fcl ∧
      (s.removeShed p).ptc = s.ptc ∧
      (s.removeShed p).msu = s.msu ∧
      (s.removeShed p).csu = s.csu ∧
      (s.removeShed p).pbu = s.pbu ∧
      (s.removeShed p).settings = s.settings ∧
      (s.removeShed p).mga.exec = s.mga.exec ∧
      (s.removeShed p).mga.resetWait = s.mga.resetWait ∧
      (s.removeShed p).mga.locked = s.mga.locked ∧
      (s.removeShed p).mga.cabinet = s.mga.cabinet ∧
      (s.removeShed p).mga.destination = s.mga.destination ∧
      (s.removeShed p).mga.lastEntry = s.mga.lastEntry ∧
      (s.removeShed p).mga.subscribers = s.mga.subscribers ∧
      (s.removeShed p).mga.uplinkStore = s.mga.uplinkStore ∧
      (s.removeShed p).mga.craftStore = s.mga.craftStore ∧
      (s.removeShed p).mga.accepted = s.mga.accepted ∧
      (s.removeShed p).mga.rejected = s.mga.rejected ∧
      (s.removeShed p).mga.reportsLost = s.mga.reportsLost ∧
      (s.removeShed p).mga.servedLast = s.mga.servedLast := by
  unfold State.removeShed; (try dsimp only); repeat' split
  all_goals simp

@[simp] theorem State.handOn_frame (k : Option Port) (x : LoadEntry) :
    (s.handOn k x).pending = s.pending ∧
      (s.handOn k x).now = s.now ∧
      (s.handOn k x).resetAt = s.resetAt ∧
      (s.handOn k x).fcl = s.fcl ∧
      (s.handOn k x).ptc = s.ptc ∧
      (s.handOn k x).msu = s.msu ∧
      (s.handOn k x).csu = s.csu ∧
      (s.handOn k x).settings = s.settings ∧
      (s.handOn k x).mga.exec = s.mga.exec ∧
      (s.handOn k x).mga.resetWait = s.mga.resetWait ∧
      (s.handOn k x).mga.locked = s.mga.locked ∧
      (s.handOn k x).mga.cabinet = s.mga.cabinet ∧
      (s.handOn k x).mga.destination = s.mga.destination ∧
      (s.handOn k x).mga.lastEntry = s.mga.lastEntry ∧
      (s.handOn k x).mga.subscribers = s.mga.subscribers ∧
      (s.handOn k x).mga.uplinkStore = s.mga.uplinkStore ∧
      (s.handOn k x).mga.craftStore = s.mga.craftStore ∧
      (s.handOn k x).mga.accepted = s.mga.accepted ∧
      (s.handOn k x).mga.rejected = s.mga.rejected ∧
      (s.handOn k x).mga.reportsLost = s.mga.reportsLost ∧
      (s.handOn k x).mga.servedLast = s.mga.servedLast := by
  unfold State.handOn; (try dsimp only); repeat' split
  all_goals simp

/-- Handing on a list of decisions changes what handing on one changes. -/
theorem State.foldl_handOn_frame (k : Option Port) (xs : List LoadEntry) (s : State) :
    let t := xs.foldl (fun s x => s.handOn k x) s
    t.pending = s.pending ∧ t.now = s.now ∧ t.resetAt = s.resetAt ∧ t.fcl = s.fcl ∧ t.ptc = s.ptc ∧ t.msu = s.msu ∧ t.csu = s.csu ∧
      t.settings = s.settings ∧ t.mga.exec = s.mga.exec ∧ t.mga.subscribers = s.mga.subscribers ∧ t.mga.resetWait = s.mga.resetWait ∧
      t.mga.lastEntry = s.mga.lastEntry ∧ t.mga.locked = s.mga.locked := by
  induction xs generalizing s with
  | nil => simp
  | cons x xs ih => simpa using ih (s.handOn k x)

@[simp] theorem State.evaluate_frame (k : Option Port) :
    (s.evaluate k).pending = s.pending ∧
      (s.evaluate k).now = s.now ∧
      (s.evaluate k).resetAt = s.resetAt ∧
      (s.evaluate k).fcl = s.fcl ∧
      (s.evaluate k).ptc = s.ptc ∧
      (s.evaluate k).msu = s.msu ∧
      (s.evaluate k).csu = s.csu ∧
      (s.evaluate k).settings = s.settings ∧
      (s.evaluate k).mga.exec = s.mga.exec ∧
      (s.evaluate k).mga.subscribers = s.mga.subscribers ∧
      (s.evaluate k).mga.resetWait = s.mga.resetWait ∧
      (s.evaluate k).mga.lastEntry = s.mga.lastEntry ∧
      (s.evaluate k).mga.locked = s.mga.locked := by
  simpa [State.evaluate] using State.foldl_handOn_frame k (s.evaluationNow k).entries _

@[simp] theorem State.returnToService_frame (p : Port) (r : PortRecord) (w : Bool) :
    (s.returnToService p r w).pending = s.pending ∧
      (s.returnToService p r w).now = s.now ∧
      (s.returnToService p r w).resetAt = s.resetAt ∧
      (s.returnToService p r w).fcl = s.fcl ∧
      (s.returnToService p r w).ptc = s.ptc ∧
      (s.returnToService p r w).msu = s.msu ∧
      (s.returnToService p r w).csu = s.csu ∧
      (s.returnToService p r w).settings = s.settings ∧
      (s.returnToService p r w).mga.exec = s.mga.exec ∧
      (s.returnToService p r w).mga.subscribers = s.mga.subscribers ∧
      (s.returnToService p r w).mga.resetWait = s.mga.resetWait ∧
      (s.returnToService p r w).mga.lastEntry = s.mga.lastEntry ∧
      (s.returnToService p r w).mga.locked = s.mga.locked := by
  unfold State.returnToService; (try dsimp only); repeat' split
  all_goals simp

@[simp] theorem State.removeDoze_frame (p : Port) (c : DozeCause) :
    (s.removeDoze p c).pending = s.pending ∧
      (s.removeDoze p c).now = s.now ∧
      (s.removeDoze p c).resetAt = s.resetAt ∧
      (s.removeDoze p c).fcl = s.fcl ∧
      (s.removeDoze p c).ptc = s.ptc ∧
      (s.removeDoze p c).msu = s.msu ∧
      (s.removeDoze p c).csu = s.csu ∧
      (s.removeDoze p c).settings = s.settings ∧
      (s.removeDoze p c).mga.exec = s.mga.exec ∧
      (s.removeDoze p c).mga.subscribers = s.mga.subscribers ∧
      (s.removeDoze p c).mga.resetWait = s.mga.resetWait ∧
      (s.removeDoze p c).mga.lastEntry = s.mga.lastEntry ∧
      (s.removeDoze p c).mga.locked = s.mga.locked := by
  unfold State.removeDoze; (try dsimp only); repeat' split
  all_goals simp

@[simp] theorem State.wake_frame (p : Port) (b : Bool) :
    (s.wake p b).pending = s.pending ∧
      (s.wake p b).now = s.now ∧
      (s.wake p b).resetAt = s.resetAt ∧
      (s.wake p b).fcl = s.fcl ∧
      (s.wake p b).ptc = s.ptc ∧
      (s.wake p b).msu = s.msu ∧
      (s.wake p b).csu = s.csu ∧
      (s.wake p b).settings = s.settings ∧
      (s.wake p b).mga.exec = s.mga.exec ∧
      (s.wake p b).mga.subscribers = s.mga.subscribers ∧
      (s.wake p b).mga.resetWait = s.mga.resetWait ∧
      (s.wake p b).mga.lastEntry = s.mga.lastEntry ∧
      (s.wake p b).mga.locked = s.mga.locked := by
  unfold State.wake; (try dsimp only); repeat' split
  all_goals simp

@[simp] theorem State.hold_frame (p : Port) (x : HeldReason) :
    (s.hold p x).pending = s.pending ∧
      (s.hold p x).now = s.now ∧
      (s.hold p x).resetAt = s.resetAt ∧
      (s.hold p x).fcl = s.fcl ∧
      (s.hold p x).ptc = s.ptc ∧
      (s.hold p x).msu = s.msu ∧
      (s.hold p x).csu = s.csu ∧
      (s.hold p x).pbu = s.pbu ∧
      (s.hold p x).settings = s.settings ∧
      (s.hold p x).mga.exec = s.mga.exec ∧
      (s.hold p x).mga.subscribers = s.mga.subscribers ∧
      (s.hold p x).mga.resetWait = s.mga.resetWait ∧
      (s.hold p x).mga.lastEntry = s.mga.lastEntry ∧
      (s.hold p x).mga.locked = s.mga.locked := by
  unfold State.hold; (try dsimp only); repeat' split
  all_goals simp

@[simp] theorem State.mismatch_frame (p : Port) :
    (s.mismatch p).pending = s.pending ∧
      (s.mismatch p).now = s.now ∧
      (s.mismatch p).resetAt = s.resetAt ∧
      (s.mismatch p).fcl = s.fcl ∧
      (s.mismatch p).ptc = s.ptc ∧
      (s.mismatch p).msu = s.msu ∧
      (s.mismatch p).csu = s.csu ∧
      (s.mismatch p).pbu = s.pbu ∧
      (s.mismatch p).settings = s.settings ∧
      (s.mismatch p).mga.exec = s.mga.exec ∧
      (s.mismatch p).mga.subscribers = s.mga.subscribers ∧
      (s.mismatch p).mga.resetWait = s.mga.resetWait ∧
      (s.mismatch p).mga.lastEntry = s.mga.lastEntry ∧
      (s.mismatch p).mga.locked = s.mga.locked := by
  simp [State.mismatch]

@[simp] theorem State.workDemand_frame :
    (s.workDemand).pending = s.pending ∧
      (s.workDemand).now = s.now ∧
      (s.workDemand).resetAt = s.resetAt ∧
      (s.workDemand).ports = s.ports ∧
      (s.workDemand).fcl = s.fcl ∧
      (s.workDemand).cbm = s.cbm ∧
      (s.workDemand).scu = s.scu ∧
      (s.workDemand).txs = s.txs ∧
      (s.workDemand).msu = s.msu ∧
      (s.workDemand).lwu = s.lwu ∧
      (s.workDemand).csu = s.csu ∧
      (s.workDemand).pbu = s.pbu ∧
      (s.workDemand).mga = s.mga ∧
      (s.workDemand).settings = s.settings ∧
      (s.workDemand).ptc.requests = s.ptc.requests ∧
      (s.workDemand).ptc.course = s.ptc.course ∧
      (s.workDemand).ptc.state = s.ptc.state ∧
      (s.workDemand).ptc.suspendPending = s.ptc.suspendPending ∧
      (s.workDemand).ptc.owner = s.ptc.owner ∧
      (s.workDemand).ptc.blocked = s.ptc.blocked ∧
      (s.workDemand).ptc.blocking = s.ptc.blocking ∧
      (s.workDemand).ptc.shedMark = s.ptc.shedMark ∧
      (s.workDemand).ptc.nextId = s.ptc.nextId ∧
      (s.workDemand).ptc.log = s.ptc.log ∧
      (s.workDemand).ptc.view = s.ptc.view := by
  unfold State.workDemand; dsimp only; split <;> simp

@[simp] theorem State.concludeRequest_frame (r : Request) (o : TestOutcome) (c : Option TestCause) (items : List Item) :
    (s.concludeRequest r o c items).pending = s.pending ∧
      (s.concludeRequest r o c items).mail = s.mail ∧
      (s.concludeRequest r o c items).now = s.now ∧
      (s.concludeRequest r o c items).resetAt = s.resetAt ∧
      (s.concludeRequest r o c items).ports = s.ports ∧
      (s.concludeRequest r o c items).fcl = s.fcl ∧
      (s.concludeRequest r o c items).scu = s.scu ∧
      (s.concludeRequest r o c items).msu = s.msu ∧
      (s.concludeRequest r o c items).lwu = s.lwu ∧
      (s.concludeRequest r o c items).csu = s.csu ∧
      (s.concludeRequest r o c items).pbu = s.pbu ∧
      (s.concludeRequest r o c items).settings = s.settings ∧
      (s.concludeRequest r o c items).mga.exec = s.mga.exec ∧
      (s.concludeRequest r o c items).mga.subscribers = s.mga.subscribers ∧
      (s.concludeRequest r o c items).mga.resetWait = s.mga.resetWait ∧
      (s.concludeRequest r o c items).mga.lastEntry = s.mga.lastEntry ∧
      (s.concludeRequest r o c items).mga.locked = s.mga.locked ∧
      (s.concludeRequest r o c items).ptc = { s.ptc with
        log := pushResult { request := r, outcome := o, cause := c, items := items, ended := s.sinceReset } s.ptc.log,
        requests := s.ptc.requests.filter fun q => q.id != r.id } := by
  simp [State.concludeRequest]

@[simp] theorem State.endQueued_frame (r : Request) (o : TestOutcome) (c : Option TestCause) :
    (s.endQueued r o c).pending = s.pending ∧
      (s.endQueued r o c).now = s.now ∧
      (s.endQueued r o c).resetAt = s.resetAt ∧
      (s.endQueued r o c).ports = s.ports ∧
      (s.endQueued r o c).fcl = s.fcl ∧
      (s.endQueued r o c).scu = s.scu ∧
      (s.endQueued r o c).msu = s.msu ∧
      (s.endQueued r o c).lwu = s.lwu ∧
      (s.endQueued r o c).csu = s.csu ∧
      (s.endQueued r o c).pbu = s.pbu ∧
      (s.endQueued r o c).settings = s.settings ∧
      (s.endQueued r o c).mga.exec = s.mga.exec ∧
      (s.endQueued r o c).mga.subscribers = s.mga.subscribers ∧
      (s.endQueued r o c).mga.resetWait = s.mga.resetWait ∧
      (s.endQueued r o c).mga.lastEntry = s.mga.lastEntry ∧
      (s.endQueued r o c).mga.locked = s.mga.locked := by
  simp [State.endQueued]

@[simp] theorem State.startRequest_frame (r : Request) :
    (s.startRequest r).pending = s.pending ∧
      (s.startRequest r).now = s.now ∧
      (s.startRequest r).resetAt = s.resetAt ∧
      (s.startRequest r).ports = s.ports ∧
      (s.startRequest r).fcl = s.fcl ∧
      (s.startRequest r).cbm = s.cbm ∧
      (s.startRequest r).scu = s.scu ∧
      (s.startRequest r).txs = s.txs ∧
      (s.startRequest r).msu = s.msu ∧
      (s.startRequest r).lwu = s.lwu ∧
      (s.startRequest r).csu = s.csu ∧
      (s.startRequest r).pbu = s.pbu ∧
      (s.startRequest r).mga = s.mga ∧
      (s.startRequest r).settings = s.settings := by
  simp [State.startRequest]

/-- The walk of a selection touches the request list and what a result brings (R104). -/
@[simp] theorem walkRequests_frame (rs : List Request) (s : State) :
    (walkRequests rs s).pending = s.pending ∧ (walkRequests rs s).now = s.now ∧ (walkRequests rs s).resetAt = s.resetAt ∧
      (walkRequests rs s).ports = s.ports ∧ (walkRequests rs s).fcl = s.fcl ∧ (walkRequests rs s).scu = s.scu ∧
      (walkRequests rs s).msu = s.msu ∧ (walkRequests rs s).lwu = s.lwu ∧ (walkRequests rs s).csu = s.csu ∧
      (walkRequests rs s).pbu = s.pbu ∧ (walkRequests rs s).settings = s.settings ∧
      (walkRequests rs s).mga.exec = s.mga.exec ∧ (walkRequests rs s).mga.subscribers = s.mga.subscribers ∧
      (walkRequests rs s).mga.resetWait = s.mga.resetWait ∧ (walkRequests rs s).mga.lastEntry = s.mga.lastEntry ∧
      (walkRequests rs s).mga.locked = s.mga.locked := by
  induction rs generalizing s with
  | nil => simp [walkRequests]
  | cons r rs ih =>
    unfold walkRequests
    split
    · exact ih s
    · split
      · split
        · simp
        · exact ih s
      · simpa using ih (s.endQueued r .aborted (some .policy))

@[simp] theorem State.select_frame :
    (s.select).pending = s.pending ∧
      (s.select).now = s.now ∧
      (s.select).resetAt = s.resetAt ∧
      (s.select).ports = s.ports ∧
      (s.select).fcl = s.fcl ∧
      (s.select).scu = s.scu ∧
      (s.select).msu = s.msu ∧
      (s.select).lwu = s.lwu ∧
      (s.select).csu = s.csu ∧
      (s.select).pbu = s.pbu ∧
      (s.select).settings = s.settings ∧
      (s.select).mga.exec = s.mga.exec ∧
      (s.select).mga.subscribers = s.mga.subscribers ∧
      (s.select).mga.resetWait = s.mga.resetWait ∧
      (s.select).mga.lastEntry = s.mga.lastEntry ∧
      (s.select).mga.locked = s.mga.locked := by
  unfold State.select; split <;> simp

@[simp] theorem State.moveOn_frame :
    (s.moveOn).pending = s.pending ∧
      (s.moveOn).now = s.now ∧
      (s.moveOn).resetAt = s.resetAt ∧
      (s.moveOn).ports = s.ports ∧
      (s.moveOn).fcl = s.fcl ∧
      (s.moveOn).scu = s.scu ∧
      (s.moveOn).msu = s.msu ∧
      (s.moveOn).lwu = s.lwu ∧
      (s.moveOn).csu = s.csu ∧
      (s.moveOn).pbu = s.pbu ∧
      (s.moveOn).settings = s.settings ∧
      (s.moveOn).mga.exec = s.mga.exec ∧
      (s.moveOn).mga.subscribers = s.mga.subscribers ∧
      (s.moveOn).mga.resetWait = s.mga.resetWait ∧
      (s.moveOn).mga.lastEntry = s.mga.lastEntry ∧
      (s.moveOn).mga.locked = s.mga.locked := by
  unfold State.moveOn; split <;> simp

@[simp] theorem State.endRunning_frame (r : Request) (o : TestOutcome) (c : Option TestCause) :
    (s.endRunning r o c).pending = s.pending ∧
      (s.endRunning r o c).now = s.now ∧
      (s.endRunning r o c).resetAt = s.resetAt ∧
      (s.endRunning r o c).ports = s.ports ∧
      (s.endRunning r o c).fcl = s.fcl ∧
      (s.endRunning r o c).scu = s.scu ∧
      (s.endRunning r o c).msu = s.msu ∧
      (s.endRunning r o c).lwu = s.lwu ∧
      (s.endRunning r o c).csu = s.csu ∧
      (s.endRunning r o c).pbu = s.pbu ∧
      (s.endRunning r o c).settings = s.settings ∧
      (s.endRunning r o c).mga.exec = s.mga.exec ∧
      (s.endRunning r o c).mga.subscribers = s.mga.subscribers ∧
      (s.endRunning r o c).mga.resetWait = s.mga.resetWait ∧
      (s.endRunning r o c).mga.lastEntry = s.mga.lastEntry ∧
      (s.endRunning r o c).mga.locked = s.mga.locked := by
  simp [State.endRunning]

@[simp] theorem State.sendRelease_frame (k : Course) (p : Port) :
    (s.sendRelease k p).pending = s.pending ∧
      (s.sendRelease k p).now = s.now ∧
      (s.sendRelease k p).resetAt = s.resetAt ∧
      (s.sendRelease k p).ports = s.ports ∧
      (s.sendRelease k p).fcl = s.fcl ∧
      (s.sendRelease k p).cbm = s.cbm ∧
      (s.sendRelease k p).scu = s.scu ∧
      (s.sendRelease k p).txs = s.txs ∧
      (s.sendRelease k p).msu = s.msu ∧
      (s.sendRelease k p).lwu = s.lwu ∧
      (s.sendRelease k p).csu = s.csu ∧
      (s.sendRelease k p).pbu = s.pbu ∧
      (s.sendRelease k p).mga = s.mga ∧
      (s.sendRelease k p).settings = s.settings := by
  simp [State.sendRelease]

@[simp] theorem State.earlyEnding_frame (o : TestOutcome) (c : Option TestCause) :
    (s.earlyEnding o c).pending = s.pending ∧
      (s.earlyEnding o c).now = s.now ∧
      (s.earlyEnding o c).resetAt = s.resetAt ∧
      (s.earlyEnding o c).ports = s.ports ∧
      (s.earlyEnding o c).fcl = s.fcl ∧
      (s.earlyEnding o c).cbm = s.cbm ∧
      (s.earlyEnding o c).scu = s.scu ∧
      (s.earlyEnding o c).txs = s.txs ∧
      (s.earlyEnding o c).msu = s.msu ∧
      (s.earlyEnding o c).lwu = s.lwu ∧
      (s.earlyEnding o c).csu = s.csu ∧
      (s.earlyEnding o c).pbu = s.pbu ∧
      (s.earlyEnding o c).mga = s.mga ∧
      (s.earlyEnding o c).settings = s.settings := by
  unfold State.earlyEnding; (try dsimp only); repeat' split
  all_goals simp

@[simp] theorem State.startStep_frame (n : Nat) (r : RunRecord) :
    (s.startStep n r).pending = s.pending ∧
      (s.startStep n r).now = s.now ∧
      (s.startStep n r).resetAt = s.resetAt ∧
      (s.startStep n r).ports = s.ports ∧
      (s.startStep n r).fcl = s.fcl ∧
      (s.startStep n r).cbm = s.cbm ∧
      (s.startStep n r).scu = s.scu ∧
      (s.startStep n r).txs = s.txs ∧
      (s.startStep n r).ptc = s.ptc ∧
      (s.startStep n r).lwu = s.lwu ∧
      (s.startStep n r).csu = s.csu ∧
      (s.startStep n r).pbu = s.pbu ∧
      (s.startStep n r).mga = s.mga ∧
      (s.startStep n r).settings = s.settings := by
  unfold State.startStep; split <;> simp

@[simp] theorem State.startRun_frame (k : KeptStart) :
    (s.startRun k).pending = s.pending ∧
      (s.startRun k).now = s.now ∧
      (s.startRun k).resetAt = s.resetAt ∧
      (s.startRun k).ports = s.ports ∧
      (s.startRun k).fcl = s.fcl ∧
      (s.startRun k).cbm = s.cbm ∧
      (s.startRun k).scu = s.scu ∧
      (s.startRun k).txs = s.txs ∧
      (s.startRun k).ptc = s.ptc ∧
      (s.startRun k).lwu = s.lwu ∧
      (s.startRun k).csu = s.csu ∧
      (s.startRun k).pbu = s.pbu ∧
      (s.startRun k).mga = s.mga ∧
      (s.startRun k).settings = s.settings := by
  simp [State.startRun]

@[simp] theorem State.completeStep_frame (items : List Item) (r : RunRecord) :
    (s.completeStep items r).pending = s.pending ∧
      (s.completeStep items r).now = s.now ∧
      (s.completeStep items r).resetAt = s.resetAt ∧
      (s.completeStep items r).ports = s.ports ∧
      (s.completeStep items r).fcl = s.fcl ∧
      (s.completeStep items r).cbm = s.cbm ∧
      (s.completeStep items r).scu = s.scu ∧
      (s.completeStep items r).txs = s.txs ∧
      (s.completeStep items r).ptc = s.ptc ∧
      (s.completeStep items r).lwu = s.lwu ∧
      (s.completeStep items r).csu = s.csu ∧
      (s.completeStep items r).pbu = s.pbu ∧
      (s.completeStep items r).mga = s.mga ∧
      (s.completeStep items r).settings = s.settings := by
  unfold State.completeStep; dsimp only; split <;> simp

@[simp] theorem State.startSamples_frame (ph : MeasPhase) (path : SensePath) (r : RunRecord) :
    (s.startSamples ph path r).pending = s.pending ∧
      (s.startSamples ph path r).mail = s.mail ∧
      (s.startSamples ph path r).now = s.now ∧
      (s.startSamples ph path r).resetAt = s.resetAt ∧
      (s.startSamples ph path r).ports = s.ports ∧
      (s.startSamples ph path r).fcl = s.fcl ∧
      (s.startSamples ph path r).cbm = s.cbm ∧
      (s.startSamples ph path r).scu = s.scu ∧
      (s.startSamples ph path r).txs = s.txs ∧
      (s.startSamples ph path r).ptc = s.ptc ∧
      (s.startSamples ph path r).lwu = s.lwu ∧
      (s.startSamples ph path r).csu = s.csu ∧
      (s.startSamples ph path r).pbu = s.pbu ∧
      (s.startSamples ph path r).mga = s.mga ∧
      (s.startSamples ph path r).settings = s.settings := by
  simp [State.startSamples]

@[simp] theorem State.completeSig_frame (b : Bool) (r : RunRecord) :
    (s.completeSig b r).pending = s.pending ∧
      (s.completeSig b r).now = s.now ∧
      (s.completeSig b r).resetAt = s.resetAt ∧
      (s.completeSig b r).ports = s.ports ∧
      (s.completeSig b r).fcl = s.fcl ∧
      (s.completeSig b r).cbm = s.cbm ∧
      (s.completeSig b r).scu = s.scu ∧
      (s.completeSig b r).txs = s.txs ∧
      (s.completeSig b r).ptc = s.ptc ∧
      (s.completeSig b r).lwu = s.lwu ∧
      (s.completeSig b r).csu = s.csu ∧
      (s.completeSig b r).pbu = s.pbu ∧
      (s.completeSig b r).mga = s.mga ∧
      (s.completeSig b r).settings = s.settings := by
  simp [State.completeSig]

@[simp] theorem State.endSamples_frame (path : SensePath) (r : RunRecord) :
    (s.endSamples path r).pending = s.pending ∧
      (s.endSamples path r).now = s.now ∧
      (s.endSamples path r).resetAt = s.resetAt ∧
      (s.endSamples path r).ports = s.ports ∧
      (s.endSamples path r).fcl = s.fcl ∧
      (s.endSamples path r).cbm = s.cbm ∧
      (s.endSamples path r).scu = s.scu ∧
      (s.endSamples path r).txs = s.txs ∧
      (s.endSamples path r).ptc = s.ptc ∧
      (s.endSamples path r).lwu = s.lwu ∧
      (s.endSamples path r).csu = s.csu ∧
      (s.endSamples path r).pbu = s.pbu ∧
      (s.endSamples path r).mga = s.mga ∧
      (s.endSamples path r).settings = s.settings := by
  unfold State.endSamples; (try dsimp only); repeat' split
  all_goals simp

@[simp] theorem State.measureHazard_frame (path : SensePath) (code : BitVec 12) (r : RunRecord) :
    (s.measureHazard path code r).pending = s.pending ∧
      (s.measureHazard path code r).now = s.now ∧
      (s.measureHazard path code r).resetAt = s.resetAt ∧
      (s.measureHazard path code r).ports = s.ports ∧
      (s.measureHazard path code r).fcl = s.fcl ∧
      (s.measureHazard path code r).cbm = s.cbm ∧
      (s.measureHazard path code r).scu = s.scu ∧
      (s.measureHazard path code r).txs = s.txs ∧
      (s.measureHazard path code r).ptc = s.ptc ∧
      (s.measureHazard path code r).lwu = s.lwu ∧
      (s.measureHazard path code r).csu = s.csu ∧
      (s.measureHazard path code r).pbu = s.pbu ∧
      (s.measureHazard path code r).mga = s.mga ∧
      (s.measureHazard path code r).settings = s.settings := by
  simp [State.measureHazard]

@[simp] theorem State.takeSample_frame (code : BitVec 12) (l : Bool) (r : RunRecord) :
    (s.takeSample code l r).pending = s.pending ∧
      (s.takeSample code l r).resetAt = s.resetAt ∧
      (s.takeSample code l r).ports = s.ports ∧
      (s.takeSample code l r).fcl = s.fcl ∧
      (s.takeSample code l r).cbm = s.cbm ∧
      (s.takeSample code l r).scu = s.scu ∧
      (s.takeSample code l r).txs = s.txs ∧
      (s.takeSample code l r).ptc = s.ptc ∧
      (s.takeSample code l r).lwu = s.lwu ∧
      (s.takeSample code l r).csu = s.csu ∧
      (s.takeSample code l r).pbu = s.pbu ∧
      (s.takeSample code l r).mga = s.mga ∧
      (s.takeSample code l r).settings = s.settings := by
  unfold State.takeSample; (try dsimp only); repeat' split
  all_goals simp

@[simp] theorem State.takeListen_frame (code : BitVec 12) (l : Bool) (r : RunRecord) :
    (s.takeListen code l r).pending = s.pending ∧
      (s.takeListen code l r).resetAt = s.resetAt ∧
      (s.takeListen code l r).ports = s.ports ∧
      (s.takeListen code l r).fcl = s.fcl ∧
      (s.takeListen code l r).cbm = s.cbm ∧
      (s.takeListen code l r).scu = s.scu ∧
      (s.takeListen code l r).txs = s.txs ∧
      (s.takeListen code l r).ptc = s.ptc ∧
      (s.takeListen code l r).lwu = s.lwu ∧
      (s.takeListen code l r).csu = s.csu ∧
      (s.takeListen code l r).pbu = s.pbu ∧
      (s.takeListen code l r).mga = s.mga ∧
      (s.takeListen code l r).settings = s.settings := by
  unfold State.takeListen; (try dsimp only); repeat' split
  all_goals simp

@[simp] theorem State.buildReport_frame (e : Execution) :
    (s.buildReport e).pending = s.pending ∧
      (s.buildReport e).mail = s.mail ∧
      (s.buildReport e).now = s.now ∧
      (s.buildReport e).resetAt = s.resetAt ∧
      (s.buildReport e).ports = s.ports ∧
      (s.buildReport e).fcl = s.fcl ∧
      (s.buildReport e).cbm = s.cbm ∧
      (s.buildReport e).scu = s.scu ∧
      (s.buildReport e).txs = s.txs ∧
      (s.buildReport e).ptc = s.ptc ∧
      (s.buildReport e).msu = s.msu ∧
      (s.buildReport e).lwu = s.lwu ∧
      (s.buildReport e).csu = s.csu ∧
      (s.buildReport e).pbu = s.pbu ∧
      (s.buildReport e).settings = s.settings ∧
      (s.buildReport e).mga.resetWait = s.mga.resetWait ∧
      (s.buildReport e).mga.locked = s.mga.locked ∧
      (s.buildReport e).mga.cabinet = s.mga.cabinet ∧
      (s.buildReport e).mga.faults = s.mga.faults ∧
      (s.buildReport e).mga.destination = s.mga.destination ∧
      (s.buildReport e).mga.lastEntry = s.mga.lastEntry ∧
      (s.buildReport e).mga.subscribers = s.mga.subscribers ∧
      (s.buildReport e).mga.uplinkStore = s.mga.uplinkStore ∧
      (s.buildReport e).mga.craftStore = s.mga.craftStore ∧
      (s.buildReport e).mga.accepted = s.mga.accepted ∧
      (s.buildReport e).mga.rejected = s.mga.rejected ∧
      (s.buildReport e).mga.faultsLost = s.mga.faultsLost ∧
      (s.buildReport e).mga.reportsLost = s.mga.reportsLost ∧
      (s.buildReport e).mga.servedLast = s.mga.servedLast ∧
      (s.buildReport e).mga.notices = s.mga.notices ∧
      (s.buildReport e).mga.noticesDropped = s.mga.noticesDropped ∧
      (s.buildReport e).mga.changeMark = s.mga.changeMark ∧
      (s.buildReport e).mga.lostMark = s.mga.lostMark := by
  simp [State.buildReport]

@[simp] theorem State.advance_frame (e : Execution) :
    (s.advance e).pending = s.pending ∧
      (s.advance e).now = s.now ∧
      (s.advance e).resetAt = s.resetAt ∧
      (s.advance e).ports = s.ports ∧
      (s.advance e).fcl = s.fcl ∧
      (s.advance e).cbm = s.cbm ∧
      (s.advance e).scu = s.scu ∧
      (s.advance e).txs = s.txs ∧
      (s.advance e).ptc = s.ptc ∧
      (s.advance e).msu = s.msu ∧
      (s.advance e).lwu = s.lwu ∧
      (s.advance e).csu = s.csu ∧
      (s.advance e).pbu = s.pbu ∧
      (s.advance e).settings = s.settings ∧
      (s.advance e).mga.resetWait = s.mga.resetWait ∧
      (s.advance e).mga.locked = s.mga.locked ∧
      (s.advance e).mga.cabinet = s.mga.cabinet ∧
      (s.advance e).mga.faults = s.mga.faults ∧
      (s.advance e).mga.destination = s.mga.destination ∧
      (s.advance e).mga.lastEntry = s.mga.lastEntry ∧
      (s.advance e).mga.subscribers = s.mga.subscribers ∧
      (s.advance e).mga.uplinkStore = s.mga.uplinkStore ∧
      (s.advance e).mga.craftStore = s.mga.craftStore ∧
      (s.advance e).mga.accepted = s.mga.accepted ∧
      (s.advance e).mga.rejected = s.mga.rejected ∧
      (s.advance e).mga.faultsLost = s.mga.faultsLost ∧
      (s.advance e).mga.reportsLost = s.mga.reportsLost ∧
      (s.advance e).mga.servedLast = s.mga.servedLast ∧
      (s.advance e).mga.notices = s.mga.notices ∧
      (s.advance e).mga.noticesDropped = s.mga.noticesDropped ∧
      (s.advance e).mga.changeMark = s.mga.changeMark ∧
      (s.advance e).mga.lostMark = s.mga.lostMark := by
  unfold State.advance; (try dsimp only); repeat' split
  all_goals simp [State.buildReport]

@[simp] theorem State.callTakeIn_frame :
    (s.callTakeIn).pending = s.pending ∧
      (s.callTakeIn).now = s.now ∧
      (s.callTakeIn).resetAt = s.resetAt ∧
      (s.callTakeIn).ports = s.ports ∧
      (s.callTakeIn).fcl = s.fcl ∧
      (s.callTakeIn).cbm = s.cbm ∧
      (s.callTakeIn).scu = s.scu ∧
      (s.callTakeIn).txs = s.txs ∧
      (s.callTakeIn).ptc = s.ptc ∧
      (s.callTakeIn).msu = s.msu ∧
      (s.callTakeIn).lwu = s.lwu ∧
      (s.callTakeIn).csu = s.csu ∧
      (s.callTakeIn).pbu = s.pbu ∧
      (s.callTakeIn).mga = s.mga ∧
      (s.callTakeIn).settings = s.settings := by
  unfold State.callTakeIn; split <;> simp

@[simp] theorem State.restartIdle_frame (p : Port) :
    (s.restartIdle p).pending = s.pending ∧
      (s.restartIdle p).mail = s.mail ∧
      (s.restartIdle p).now = s.now ∧
      (s.restartIdle p).resetAt = s.resetAt ∧
      (s.restartIdle p).fcl = s.fcl ∧
      (s.restartIdle p).cbm = s.cbm ∧
      (s.restartIdle p).scu = s.scu ∧
      (s.restartIdle p).txs = s.txs ∧
      (s.restartIdle p).ptc = s.ptc ∧
      (s.restartIdle p).msu = s.msu ∧
      (s.restartIdle p).lwu = s.lwu ∧
      (s.restartIdle p).csu = s.csu ∧
      (s.restartIdle p).pbu = s.pbu ∧
      (s.restartIdle p).mga = s.mga ∧
      (s.restartIdle p).settings = s.settings := by
  unfold State.restartIdle; dsimp only; split <;> simp

@[simp] theorem State.receivedGood_frame (src : Source) (n : Nat) :
    (s.receivedGood src n).pending = s.pending ∧
      (s.receivedGood src n).mail = s.mail ∧
      (s.receivedGood src n).now = s.now ∧
      (s.receivedGood src n).resetAt = s.resetAt ∧
      (s.receivedGood src n).fcl = s.fcl ∧
      (s.receivedGood src n).cbm = s.cbm ∧
      (s.receivedGood src n).scu = s.scu ∧
      (s.receivedGood src n).txs = s.txs ∧
      (s.receivedGood src n).ptc = s.ptc ∧
      (s.receivedGood src n).msu = s.msu ∧
      (s.receivedGood src n).lwu = s.lwu ∧
      (s.receivedGood src n).csu = s.csu ∧
      (s.receivedGood src n).pbu = s.pbu ∧
      (s.receivedGood src n).mga = s.mga ∧
      (s.receivedGood src n).settings = s.settings := by
  cases src <;> simp [State.receivedGood]

@[simp] theorem State.countHits_frame (r : Reception) :
    (s.countHits r).pending = s.pending ∧
      (s.countHits r).mail = s.mail ∧
      (s.countHits r).now = s.now ∧
      (s.countHits r).resetAt = s.resetAt ∧
      (s.countHits r).ports = s.ports ∧
      (s.countHits r).cbm = s.cbm ∧
      (s.countHits r).scu = s.scu ∧
      (s.countHits r).txs = s.txs ∧
      (s.countHits r).ptc = s.ptc ∧
      (s.countHits r).msu = s.msu ∧
      (s.countHits r).lwu = s.lwu ∧
      (s.countHits r).csu = s.csu ∧
      (s.countHits r).pbu = s.pbu ∧
      (s.countHits r).mga = s.mga ∧
      (s.countHits r).settings = s.settings := by
  unfold State.countHits; split <;> simp

@[simp] theorem State.returnCells_frame (src : Source) (n : Nat) :
    (s.returnCells src n).pending = s.pending ∧
      (s.returnCells src n).mail = s.mail ∧
      (s.returnCells src n).now = s.now ∧
      (s.returnCells src n).resetAt = s.resetAt ∧
      (s.returnCells src n).ports = s.ports ∧
      (s.returnCells src n).fcl = s.fcl ∧
      (s.returnCells src n).scu = s.scu ∧
      (s.returnCells src n).txs = s.txs ∧
      (s.returnCells src n).ptc = s.ptc ∧
      (s.returnCells src n).msu = s.msu ∧
      (s.returnCells src n).lwu = s.lwu ∧
      (s.returnCells src n).csu = s.csu ∧
      (s.returnCells src n).pbu = s.pbu ∧
      (s.returnCells src n).mga = s.mga ∧
      (s.returnCells src n).settings = s.settings := by
  unfold State.returnCells; split <;> simp

@[simp] theorem State.dropFrame_frame (src : Source) (why : DropReason) (r : Reception) :
    (s.dropFrame src why r).pending = s.pending ∧
      (s.dropFrame src why r).mail = s.mail ∧
      (s.dropFrame src why r).now = s.now ∧
      (s.dropFrame src why r).resetAt = s.resetAt ∧
      (s.dropFrame src why r).ports = s.ports ∧
      (s.dropFrame src why r).scu = s.scu ∧
      (s.dropFrame src why r).txs = s.txs ∧
      (s.dropFrame src why r).ptc = s.ptc ∧
      (s.dropFrame src why r).msu = s.msu ∧
      (s.dropFrame src why r).lwu = s.lwu ∧
      (s.dropFrame src why r).csu = s.csu ∧
      (s.dropFrame src why r).pbu = s.pbu ∧
      (s.dropFrame src why r).mga = s.mga ∧
      (s.dropFrame src why r).settings = s.settings := by
  simp [State.dropFrame]

@[simp] theorem State.headerHit_frame (src : Source) (area : Area) (e : FlowEntry) (r : Reception) (res : Result × Option QueueId) :
    (s.headerHit src area e r res).pending = s.pending ∧
      (s.headerHit src area e r res).mail = s.mail ∧
      (s.headerHit src area e r res).now = s.now ∧
      (s.headerHit src area e r res).resetAt = s.resetAt ∧
      (s.headerHit src area e r res).ports = s.ports ∧
      (s.headerHit src area e r res).scu = s.scu ∧
      (s.headerHit src area e r res).txs = s.txs ∧
      (s.headerHit src area e r res).ptc = s.ptc ∧
      (s.headerHit src area e r res).msu = s.msu ∧
      (s.headerHit src area e r res).lwu = s.lwu ∧
      (s.headerHit src area e r res).csu = s.csu ∧
      (s.headerHit src area e r res).pbu = s.pbu ∧
      (s.headerHit src area e r res).mga = s.mga ∧
      (s.headerHit src area e r res).settings = s.settings := by
  unfold State.headerHit; (try dsimp only); repeat' split
  all_goals simp

@[simp] theorem State.lookupFrame_frame (src : Source) (area : Area) (dir : Direction) (a : Option Port) (v : Nat) (m : Bool) (pr : BitVec 3) (r : Reception) :
    (s.lookupFrame src area dir a v m pr r).pending = s.pending ∧
      (s.lookupFrame src area dir a v m pr r).mail = s.mail ∧
      (s.lookupFrame src area dir a v m pr r).now = s.now ∧
      (s.lookupFrame src area dir a v m pr r).resetAt = s.resetAt ∧
      (s.lookupFrame src area dir a v m pr r).ports = s.ports ∧
      (s.lookupFrame src area dir a v m pr r).scu = s.scu ∧
      (s.lookupFrame src area dir a v m pr r).txs = s.txs ∧
      (s.lookupFrame src area dir a v m pr r).ptc = s.ptc ∧
      (s.lookupFrame src area dir a v m pr r).msu = s.msu ∧
      (s.lookupFrame src area dir a v m pr r).lwu = s.lwu ∧
      (s.lookupFrame src area dir a v m pr r).csu = s.csu ∧
      (s.lookupFrame src area dir a v m pr r).pbu = s.pbu ∧
      (s.lookupFrame src area dir a v m pr r).mga = s.mga ∧
      (s.lookupFrame src area dir a v m pr r).settings = s.settings := by
  unfold State.lookupFrame; split <;> simp

@[simp] theorem State.upstream_frame (p : Port) (h : FrameHeader) (r : Reception) :
    (s.upstream p h r).pending = s.pending ∧
      (s.upstream p h r).mail = s.mail ∧
      (s.upstream p h r).now = s.now ∧
      (s.upstream p h r).resetAt = s.resetAt ∧
      (s.upstream p h r).ports = s.ports ∧
      (s.upstream p h r).scu = s.scu ∧
      (s.upstream p h r).txs = s.txs ∧
      (s.upstream p h r).ptc = s.ptc ∧
      (s.upstream p h r).msu = s.msu ∧
      (s.upstream p h r).lwu = s.lwu ∧
      (s.upstream p h r).csu = s.csu ∧
      (s.upstream p h r).pbu = s.pbu ∧
      (s.upstream p h r).mga = s.mga ∧
      (s.upstream p h r).settings = s.settings := by
  unfold State.upstream; (try dsimp only); repeat' split
  all_goals simp

@[simp] theorem State.downstream_frame (h : FrameHeader) (r : Reception) :
    (s.downstream h r).pending = s.pending ∧
      (s.downstream h r).mail = s.mail ∧
      (s.downstream h r).now = s.now ∧
      (s.downstream h r).resetAt = s.resetAt ∧
      (s.downstream h r).ports = s.ports ∧
      (s.downstream h r).scu = s.scu ∧
      (s.downstream h r).txs = s.txs ∧
      (s.downstream h r).ptc = s.ptc ∧
      (s.downstream h r).msu = s.msu ∧
      (s.downstream h r).lwu = s.lwu ∧
      (s.downstream h r).csu = s.csu ∧
      (s.downstream h r).pbu = s.pbu ∧
      (s.downstream h r).mga = s.mga ∧
      (s.downstream h r).settings = s.settings := by
  unfold State.downstream; (try dsimp only); repeat' split
  all_goals simp

@[simp] theorem State.countPoolFull_frame (src : Source) (r : Reception) :
    (s.countPoolFull src r).pending = s.pending ∧
      (s.countPoolFull src r).mail = s.mail ∧
      (s.countPoolFull src r).now = s.now ∧
      (s.countPoolFull src r).resetAt = s.resetAt ∧
      (s.countPoolFull src r).ports = s.ports ∧
      (s.countPoolFull src r).fcl = s.fcl ∧
      (s.countPoolFull src r).scu = s.scu ∧
      (s.countPoolFull src r).txs = s.txs ∧
      (s.countPoolFull src r).ptc = s.ptc ∧
      (s.countPoolFull src r).msu = s.msu ∧
      (s.countPoolFull src r).lwu = s.lwu ∧
      (s.countPoolFull src r).csu = s.csu ∧
      (s.countPoolFull src r).pbu = s.pbu ∧
      (s.countPoolFull src r).mga = s.mga ∧
      (s.countPoolFull src r).settings = s.settings := by
  unfold State.countPoolFull; (try dsimp only); repeat' split
  all_goals simp

@[simp] theorem State.countDrop_frame (src : Source) (why : DropReason) (r : Reception) :
    (s.countDrop src why r).pending = s.pending ∧
      (s.countDrop src why r).mail = s.mail ∧
      (s.countDrop src why r).now = s.now ∧
      (s.countDrop src why r).resetAt = s.resetAt ∧
      (s.countDrop src why r).ports = s.ports ∧
      (s.countDrop src why r).scu = s.scu ∧
      (s.countDrop src why r).txs = s.txs ∧
      (s.countDrop src why r).ptc = s.ptc ∧
      (s.countDrop src why r).msu = s.msu ∧
      (s.countDrop src why r).lwu = s.lwu ∧
      (s.countDrop src why r).csu = s.csu ∧
      (s.countDrop src why r).pbu = s.pbu ∧
      (s.countDrop src why r).mga = s.mga ∧
      (s.countDrop src why r).settings = s.settings := by
  unfold State.countDrop; (try dsimp only); repeat' split
  all_goals simp

@[simp] theorem State.countLength_frame (src : Source) :
    (s.countLength src).pending = s.pending ∧
      (s.countLength src).mail = s.mail ∧
      (s.countLength src).now = s.now ∧
      (s.countLength src).resetAt = s.resetAt ∧
      (s.countLength src).ports = s.ports ∧
      (s.countLength src).cbm = s.cbm ∧
      (s.countLength src).scu = s.scu ∧
      (s.countLength src).txs = s.txs ∧
      (s.countLength src).ptc = s.ptc ∧
      (s.countLength src).msu = s.msu ∧
      (s.countLength src).lwu = s.lwu ∧
      (s.countLength src).csu = s.csu ∧
      (s.countLength src).pbu = s.pbu ∧
      (s.countLength src).mga = s.mga ∧
      (s.countLength src).settings = s.settings := by
  cases src <;> simp [State.countLength]

@[simp] theorem State.countFcs_frame (src : Source) :
    (s.countFcs src).pending = s.pending ∧
      (s.countFcs src).mail = s.mail ∧
      (s.countFcs src).now = s.now ∧
      (s.countFcs src).resetAt = s.resetAt ∧
      (s.countFcs src).ports = s.ports ∧
      (s.countFcs src).cbm = s.cbm ∧
      (s.countFcs src).scu = s.scu ∧
      (s.countFcs src).txs = s.txs ∧
      (s.countFcs src).ptc = s.ptc ∧
      (s.countFcs src).msu = s.msu ∧
      (s.countFcs src).lwu = s.lwu ∧
      (s.countFcs src).csu = s.csu ∧
      (s.countFcs src).pbu = s.pbu ∧
      (s.countFcs src).mga = s.mga ∧
      (s.countFcs src).settings = s.settings := by
  cases src <;> simp [State.countFcs]

@[simp] theorem State.reportActivity_frame (p : Port) :
    (s.reportActivity p).pending = s.pending ∧
      (s.reportActivity p).mail = s.mail ∧
      (s.reportActivity p).now = s.now ∧
      (s.reportActivity p).resetAt = s.resetAt ∧
      (s.reportActivity p).ports = s.ports ∧
      (s.reportActivity p).fcl = s.fcl ∧
      (s.reportActivity p).cbm = s.cbm ∧
      (s.reportActivity p).txs = s.txs ∧
      (s.reportActivity p).ptc = s.ptc ∧
      (s.reportActivity p).msu = s.msu ∧
      (s.reportActivity p).lwu = s.lwu ∧
      (s.reportActivity p).csu = s.csu ∧
      (s.reportActivity p).pbu = s.pbu ∧
      (s.reportActivity p).mga = s.mga ∧
      (s.reportActivity p).settings = s.settings := by
  unfold State.reportActivity; dsimp only; split <;> simp

@[simp] theorem State.admitted_frame (q : QueueId) :
    (s.admitted q).pending = s.pending ∧
      (s.admitted q).mail = s.mail ∧
      (s.admitted q).now = s.now ∧
      (s.admitted q).resetAt = s.resetAt ∧
      (s.admitted q).fcl = s.fcl ∧
      (s.admitted q).ptc = s.ptc ∧
      (s.admitted q).msu = s.msu ∧
      (s.admitted q).lwu = s.lwu ∧
      (s.admitted q).csu = s.csu ∧
      (s.admitted q).pbu = s.pbu ∧
      (s.admitted q).mga = s.mga ∧
      (s.admitted q).settings = s.settings := by
  cases q <;> simp [State.admitted]

@[simp] theorem State.acceptDescriptor_frame (p : Port) (d : Descriptor) :
    (s.acceptDescriptor p d).pending = s.pending ∧
      (s.acceptDescriptor p d).mail = s.mail ∧
      (s.acceptDescriptor p d).now = s.now ∧
      (s.acceptDescriptor p d).resetAt = s.resetAt ∧
      (s.acceptDescriptor p d).fcl = s.fcl ∧
      (s.acceptDescriptor p d).ptc = s.ptc ∧
      (s.acceptDescriptor p d).msu = s.msu ∧
      (s.acceptDescriptor p d).lwu = s.lwu ∧
      (s.acceptDescriptor p d).csu = s.csu ∧
      (s.acceptDescriptor p d).pbu = s.pbu ∧
      (s.acceptDescriptor p d).mga = s.mga ∧
      (s.acceptDescriptor p d).settings = s.settings := by
  unfold State.acceptDescriptor; (try dsimp only); repeat' split
  all_goals simp

@[simp] theorem State.handOver_frame (f : AgentFrame) :
    (s.handOver f).pending = s.pending ∧
      (s.handOver f).now = s.now ∧
      (s.handOver f).resetAt = s.resetAt ∧
      (s.handOver f).ports = s.ports ∧
      (s.handOver f).fcl = s.fcl ∧
      (s.handOver f).cbm = s.cbm ∧
      (s.handOver f).scu = s.scu ∧
      (s.handOver f).txs = s.txs ∧
      (s.handOver f).ptc = s.ptc ∧
      (s.handOver f).msu = s.msu ∧
      (s.handOver f).lwu = s.lwu ∧
      (s.handOver f).csu = s.csu ∧
      (s.handOver f).pbu = s.pbu ∧
      (s.handOver f).settings = s.settings := by
  unfold State.handOver; (try dsimp only); repeat' split
  all_goals simp

@[simp] theorem State.handOnFrame_frame (src : Source) (n : Nat) (pl : List Octet) (r : Reception) :
    (s.handOnFrame src n pl r).pending = s.pending ∧
      (s.handOnFrame src n pl r).now = s.now ∧
      (s.handOnFrame src n pl r).resetAt = s.resetAt ∧
      (s.handOnFrame src n pl r).fcl = s.fcl ∧
      (s.handOnFrame src n pl r).ptc = s.ptc ∧
      (s.handOnFrame src n pl r).msu = s.msu ∧
      (s.handOnFrame src n pl r).lwu = s.lwu ∧
      (s.handOnFrame src n pl r).csu = s.csu ∧
      (s.handOnFrame src n pl r).pbu = s.pbu ∧
      (s.handOnFrame src n pl r).settings = s.settings := by
  unfold State.handOnFrame; (try dsimp only); repeat' split
  all_goals simp

@[simp] theorem State.endGood_frame (src : Source) (n : Nat) (pl : List Octet) (r : Reception) :
    (s.endGood src n pl r).pending = s.pending ∧
      (s.endGood src n pl r).now = s.now ∧
      (s.endGood src n pl r).resetAt = s.resetAt ∧
      (s.endGood src n pl r).ptc = s.ptc ∧
      (s.endGood src n pl r).msu = s.msu ∧
      (s.endGood src n pl r).lwu = s.lwu ∧
      (s.endGood src n pl r).csu = s.csu ∧
      (s.endGood src n pl r).pbu = s.pbu ∧
      (s.endGood src n pl r).settings = s.settings := by
  unfold State.endGood; dsimp only; split <;> simp

@[simp] theorem State.endFrame_frame (src : Source) (n : Nat) (good : Bool) (pl : List Octet) :
  (s.endFrame src n good pl).pending = s.pending ∧
      (s.endFrame src n good pl).now = s.now ∧
      (s.endFrame src n good pl).resetAt = s.resetAt ∧
      (s.endFrame src n good pl).ptc = s.ptc ∧
      (s.endFrame src n good pl).msu = s.msu ∧
      (s.endFrame src n good pl).lwu = s.lwu ∧
      (s.endFrame src n good pl).csu = s.csu ∧
      (s.endFrame src n good pl).pbu = s.pbu ∧
      (s.endFrame src n good pl).settings = s.settings := by
  unfold State.endFrame; (try dsimp only); repeat' split
  all_goals simp

/-- A craft frame takes no cell and belongs to no port: its end touches the classifier, the agent and its messages alone (R29). -/
@[simp] theorem State.endFrame_craft_frame (n : Nat) (good : Bool) (pl : List Octet) :
    (s.endFrame .craft n good pl).ports = s.ports ∧
      (s.endFrame .craft n good pl).cbm = s.cbm ∧
      (s.endFrame .craft n good pl).scu = s.scu ∧
      (s.endFrame .craft n good pl).txs = s.txs := by
  unfold State.endFrame; dsimp only; repeat' split
  · simp
  · simp [State.returnCells, sourceArea]
  · simp [State.returnCells, sourceArea]
  · unfold State.endGood
    split
    · unfold State.countDrop
      split
      · simp [State.receivedGood, State.countPoolFull]
      · simp [State.receivedGood]
    · unfold State.handOnFrame
      split
      · simp [State.receivedGood]
      · simp_all
      · simp_all
      · simp [State.returnCells, sourceArea, State.receivedGood]

@[simp] theorem State.cutCraftFrame_frame :
    (s.cutCraftFrame).pending = s.pending ∧
      (s.cutCraftFrame).now = s.now ∧
      (s.cutCraftFrame).resetAt = s.resetAt ∧
      (s.cutCraftFrame).ports = s.ports ∧
      (s.cutCraftFrame).cbm = s.cbm ∧
      (s.cutCraftFrame).scu = s.scu ∧
      (s.cutCraftFrame).txs = s.txs ∧
      (s.cutCraftFrame).ptc = s.ptc ∧
      (s.cutCraftFrame).msu = s.msu ∧
      (s.cutCraftFrame).lwu = s.lwu ∧
      (s.cutCraftFrame).csu = s.csu ∧
      (s.cutCraftFrame).pbu = s.pbu ∧
      (s.cutCraftFrame).settings = s.settings := by
  unfold State.cutCraftFrame; (try dsimp only); split <;> simp

@[simp] theorem State.judgeCraftPower_frame :
    (s.judgeCraftPower).pending = s.pending ∧
      (s.judgeCraftPower).now = s.now ∧
      (s.judgeCraftPower).resetAt = s.resetAt ∧
      (s.judgeCraftPower).ports = s.ports ∧
      (s.judgeCraftPower).scu = s.scu ∧
      (s.judgeCraftPower).ptc = s.ptc ∧
      (s.judgeCraftPower).msu = s.msu ∧
      (s.judgeCraftPower).lwu = s.lwu ∧
      (s.judgeCraftPower).pbu = s.pbu ∧
      (s.judgeCraftPower).settings = s.settings ∧
      (s.judgeCraftPower).csu.contacts = s.csu.contacts ∧
      (s.judgeCraftPower).csu.contactDue = s.csu.contactDue ∧
      (s.judgeCraftPower).csu.temperatureDue = s.csu.temperatureDue ∧
      (s.judgeCraftPower).csu.supplyDue = s.csu.supplyDue ∧
      (s.judgeCraftPower).csu.temperature = s.csu.temperature ∧
      (s.judgeCraftPower).csu.warnCondition = s.csu.warnCondition ∧
      (s.judgeCraftPower).csu.shutdownCondition = s.csu.shutdownCondition ∧
      (s.judgeCraftPower).csu.thermalLatch = s.csu.thermalLatch ∧
      (s.judgeCraftPower).csu.heaterDemand = s.csu.heaterDemand ∧
      (s.judgeCraftPower).csu.stage = s.csu.stage ∧
      (s.judgeCraftPower).csu.mainsPresent = s.csu.mainsPresent ∧
      (s.judgeCraftPower).csu.battery = s.csu.battery ∧
      (s.judgeCraftPower).csu.craftHold = s.csu.craftHold := by
  unfold State.judgeCraftPower; (try dsimp only); repeat' split
  all_goals simp

end Sys2Proof.Machine
end

