-- ==== Sys2Proof/Laws/Results.lean ====
section
/-! SUPPORT. What the shared operations come to: the port record a change leaves, what reaches the agent, how a directive is carried out. -/

namespace Sys2Proof.Machine

/-! ## Frames -/

theorem OnlyIn.refl (l : List Part) (s : State) : OnlyIn l s s := by
  intro part _; cases part <;> rfl

theorem OnlyIn.trans {l : List Part} {s t u : State} (h : OnlyIn l s t) (k : OnlyIn l t u) : OnlyIn l s u := by
  intro part hp
  have a := h part hp
  have b := k part hp
  cases part <;> simp_all [Part.Same]

theorem Reported.refl (s : State) : Reported s s := rfl

theorem Reported.trans {s t u : State} (h : Reported s t) (k : Reported t u) : Reported s u := by
  unfold Reported at *
  rw [k, h]

/-- The agent apart from its reports, field by field. -/
theorem reported_of_fields {s t : State} (h1 : t.mga.uplinkStore = s.mga.uplinkStore) (h2 : t.mga.craftStore = s.mga.craftStore)
    (h3 : t.mga.servedLast = s.mga.servedLast) (h4 : t.mga.exec = s.mga.exec) (h5 : t.mga.resetWait = s.mga.resetWait)
    (h6 : t.mga.lastEntry = s.mga.lastEntry) (h7 : t.mga.locked = s.mga.locked) (h8 : t.mga.cabinet = s.mga.cabinet)
    (h9 : t.mga.destination = s.mga.destination) (h10 : t.mga.accepted = s.mga.accepted) (h11 : t.mga.rejected = s.mga.rejected)
    (h12 : t.mga.reportsLost = s.mga.reportsLost) (h13 : t.mga.subscribers = s.mga.subscribers) : Reported s t := by
  unfold Reported
  dsimp only
  rw [← h1, ← h2, ← h3, ← h4, ← h5, ← h6, ← h7, ← h8, ← h9, ← h10, ← h11, ← h12, ← h13]

theorem State.reported_raiseNotice (s : State) (n : Notice) : Reported s (s.raiseNotice n) := by
  apply reported_of_fields <;> simp

theorem State.reported_raiseFault (s : State) (src : FaultSource) (kind : FaultKind) (c : Option RestartCause) :
    Reported s (s.raiseFault src kind c) := by
  apply reported_of_fields <;> simp

theorem State.reported_clearFault (s : State) (src : FaultSource) (kind : FaultKind) : Reported s (s.clearFault src kind) := by
  apply reported_of_fields <;> simp

theorem State.reported_rewatch (s : State) (p : Port) : Reported s (s.rewatch p) := by
  apply reported_of_fields <;> simp

theorem State.reported_changePort (s : State) (p : Port) (r : PortRecord) (e : Bool) : Reported s (s.changePort p r e) := by
  apply reported_of_fields <;> simp

/-! ## Port records -/

/-- A change of a port's record leaves that record, with what leaving UP and the line orders make of it, and no other. -/
theorem State.port_changePort (s : State) (p q : Port) (r : PortRecord) (e : Bool) :
    (s.changePort p r e).port q = if q = p then r.outOfUp.ordered else s.port q := by
  simp [State.port, Row.get_set]

theorem State.port_installPort (s : State) (p q : Port) (r : PortRecord) :
    (s.installPort p r).port q = if q = p then r.outOfUp.ordered else s.port q := by
  simp [State.port, Row.get_set]

/-- Adding a doze cause changes the record of that port alone. -/
theorem State.port_addDoze_ne (s : State) {p q : Port} (c : DozeCause) (h : q ≠ p) : (s.addDoze p c).port q = s.port q := by
  unfold State.addDoze; dsimp only; repeat' split
  all_goals simp [State.port_changePort, h]

theorem State.port_removeShed_ne (s : State) {p q : Port} (h : q ≠ p) : (s.removeShed p).port q = s.port q := by
  unfold State.removeShed; dsimp only; repeat' split
  all_goals simp [State.port_changePort, h]

/-- Holding a port changes the record of that port alone. -/
theorem State.port_hold_ne (s : State) {p q : Port} (x : HeldReason) (h : q ≠ p) : (s.hold p x).port q = s.port q := by
  unfold State.hold; dsimp only; repeat' split
  all_goals simp [State.port, Row.get_modify_ne _ _ h, Row.get_set_ne _ _ h]

/-! ## The power budget -/

/-- A decision handed on for the port that asked is recorded, and its record does not change (R172). -/
theorem State.handOn_counted (s : State) (p : Port) (x : LoadEntry) : (s.handOn (some p) x).port p = s.port p := by
  unfold State.handOn
  dsimp only
  split
  · rfl
  · split
    · split
      · rfl
      · rename_i h
        split
        · rw [State.port_addDoze_ne _ _ fun e => h (by rw [e])]; rfl
        · rw [State.port_removeShed_ne _ fun e => h (by rw [e])]; rfl
    · rfl
    · split <;> rfl

/-- The evaluation for a port's return to service leaves that port's record to the Line Port Controller (R172). -/
theorem State.evaluate_counted (s : State) (p : Port) : (s.evaluate (some p)).port p = s.port p := by
  unfold State.evaluate
  dsimp only
  have h : ∀ (xs : List LoadEntry) (u : State), (xs.foldl (fun s x => s.handOn (some p) x) u).port p = u.port p := by
    intro xs
    induction xs with
    | nil => intro u; rfl
    | cons x xs ih => intro u; rw [List.foldl_cons, ih, State.handOn_counted]
  rw [h]; rfl

/-! ## Cells -/

@[simp] theorem pickCells_length (n k : Nat) (free : List Nat) : (pickCells n k free).length = n := by
  induction n generalizing k free with
  | zero => rfl
  | succ n ih => simp [pickCells, ih]

@[simp] theorem State.newCells_length (s : State) (a : Area) (n : Nat) : (s.newCells a n).length = n := by
  simp [State.newCells]

/-- Cells picked from enough free ones are free ones, each picked once, whichever the free value picks. -/
theorem pickCells_spec (n k : Nat) (free : List Nat) (distinct : free.Nodup) (enough : n ≤ free.length) :
    (pickCells n k free).Nodup ∧ ∀ c ∈ pickCells n k free, c ∈ free := by
  induction n generalizing k free with
  | zero => simp [pickCells]
  | succ n ih =>
    have pos : 0 < free.length := by omega
    have lt := Nat.mod_lt (Config.cellPick k) pos
    have h : (free[Config.cellPick k % free.length]?).getD 0 ∈ free := by
      rw [List.getElem?_eq_getElem lt]; exact List.getElem_mem lt
    simp only [pickCells]
    generalize (free[Config.cellPick k % free.length]?).getD 0 = c at h
    have rest := ih (k + 1) (free.erase c) (distinct.erase c) (by rw [List.length_erase_of_mem h]; omega)
    refine ⟨List.nodup_cons.2 ⟨fun x => ?_, rest.1⟩, fun x hx => ?_⟩
    · exact absurd (rest.2 c x) (List.Nodup.not_mem_erase distinct)
    · rcases List.mem_cons.1 hx with rfl | hx
      · exact h
      · exact List.mem_of_mem_erase (rest.2 x hx)

/-- A frame's new cells are cells of the area that no frame holds, each once, as long as that many are free (R47). -/
theorem State.newCells_spec (s : State) (a : Area) (n : Nat) (enough : n ≤ (s.freeNumbers a).length) :
    (s.newCells a n).Nodup ∧ ∀ c ∈ s.newCells a n, c ∈ a.cells ∧ c ∉ s.heldCells := by
  have distinct : (s.freeNumbers a).Nodup := by
    unfold State.freeNumbers Area.cells
    cases a
    · exact List.nodup_range.filter _
    · exact List.nodup_range.filter _
    · exact List.Nodup.filter _ List.nodup_range'
  have h := pickCells_spec n s.cbm.picks _ distinct enough
  refine ⟨h.1, fun c hc => ?_⟩
  have := h.2 c hc
  simpa [State.freeNumbers] using this

/-! ## Frames as they are sent -/

/-- What a forwarded frame keeps of the one that came: all but the VID of its tag, which is the egress VID where the FCS is new (R92, R95). -/
theorem FrameImage.forwarded_spec (r : Result) (f : FrameImage) :
    (f.forwarded r).payload = f.payload ∧ (f.forwarded r).header.destination = f.header.destination ∧
      (f.forwarded r).header.source = f.header.source ∧ (f.forwarded r).header.ethertype = f.header.ethertype ∧
      ((f.forwarded r) = f ∨ ∃ t, f.header.tag = some t ∧ (f.forwarded r).newFcs = true ∧
        (f.forwarded r).header.tag = some { t with vid := BitVec.ofNat 12 r.egressVid }) := by
  unfold FrameImage.forwarded FrameImage.withVid
  repeat' split
  all_goals simp_all

/-! ## Directives -/

/-- A report offered is placed or waits for its placement; its agent is idle in the one case and REPORTING in the other (R59, R180). -/
theorem State.offerReport_exec (s : State) (r : Report) :
    (s.offerReport r).mga.exec = .idle ∨ (s.offerReport r).mga.exec = .reporting { r with offeredAt := some (r.offeredAt.getD s.now) } := by
  unfold State.offerReport
  split
  · left
    simp [State.callTakeIn, State.placed]
    repeat' split
    all_goals simp [Agent.reportPlaced]
  · right; rfl

/-- A directive that comes up is answered on a state that differs at most in its taken message; its answer's state is left with the entry, and
with the execution and the messages as the frame goes on. -/
theorem State.direct_spec (s : State) (o : Origin) (code : Octet) (params : List Octet) (lengthGood : Bool) (d : Demands)
    (body : State → Answer) (h : s.comesUp o code params) :
    ∃ s₀ u : State, (s₀ = s ∨ s₀ = s.taken (directiveCommand o { code := code, params := params })) ∧
      (u = if s.dataFits (s₀.answer o lengthGood d body).data.length then (s₀.answer o lengthGood d body).state
           else (s₀.answer o lengthGood d body).ifCut) ∧
      Answered code (s₀.answer o lengthGood d body).outcome (s₀.answer o lengthGood d body).data s
        (s.direct o code params lengthGood d body) ∧
      (s.direct o code params lengthGood d body).besideDirective = u.besideDirective ∧
      ∃ more, (s.direct o code params lengthGood d body).mail = u.mail ++ more := by
  unfold State.comesUp at h
  unfold State.direct
  dsimp only
  split
  · rename_i e; exact absurd e h
  · rename_i e
    have hx : s.mga.exec = .idle := by
      unfold State.turn at e; split at e
      · assumption
      · split at e <;> cases e
      · cases e
    refine ⟨s, _, .inl rfl, rfl, ?_, ?_, [], ?_⟩
    · simp [Answered, State.dataFits, hx]
    · simp [State.dataFits, hx, State.besideDirective, State.noteEntry]
    · simp [State.dataFits, hx]
  · rename_i x e
    have hx : s.mga.exec = .executing x := by
      unfold State.turn at e; split at e
      · split at e <;> cases e
      · split at e
        · cases e; assumption
        · cases e
      · cases e
    refine ⟨_, _, .inr rfl, rfl, ?_, ?_, ?_⟩
    · unfold State.enterAnswer
      simp only [State.dataFits, hx, Answered]
      split <;> simp
    · unfold State.enterAnswer
      simp only [State.dataFits, hx]
      split <;>
      · unfold State.advance
        repeat' split
        all_goals simp [State.besideDirective, State.noteEntry, State.buildReport, State.post]
    · unfold State.enterAnswer
      simp only [State.dataFits, hx]
      split <;>
      · unfold State.advance
        repeat' split
        all_goals exact ⟨_, rfl⟩

/-- With the lock clear and permission given, the checks of R178 leave only the length. -/
theorem State.answer_of_mayChange (s : State) (o : Origin) (d : Demands) (body : State → Answer) (h : s.mayChange o) :
    s.answer o true d body = body s := by
  rcases h with ⟨h1, h2⟩
  unfold State.answer State.gate
  cases o <;> simp_all

/-- A directive that asks nothing is answered by its owner. -/
theorem State.answer_free (s : State) (o : Origin) (body : State → Answer) :
    s.answer o true .free body = body s ∧ s.answer o true .read body = body s := by
  constructor <;> simp [State.answer, State.gate, Demands.free, Demands.read]

/-! ## The header of a frame (R25) -/

@[simp] theorem HeaderOctets.read_destination (o : HeaderOctets) : (HeaderOctets.read o).destination = o.destination := by
  unfold HeaderOctets.read; split <;> rfl

@[simp] theorem HeaderOctets.read_source (o : HeaderOctets) : (HeaderOctets.read o).source = o.source := by
  unfold HeaderOctets.read; split <;> rfl

/-- A header is read as tagged exactly when octets 13 and 14 hold the tag type. -/
theorem HeaderOctets.read_tagged (o : HeaderOctets) : (HeaderOctets.read o).tag.isSome = true ↔ o.typeOctets = Config.tagType := by
  unfold HeaderOctets.read; split <;> simp [*]

/-! ## Choices (R88, R94) -/

/-- The queue that was replaced, and every other one. -/
theorem State.queue_setQueue_self (q : QueueId) (ds : List Descriptor) (s : State) : (s.setQueue q ds).queue q = ds := by
  cases q <;> simp [State.setQueue, State.queue]

theorem State.queue_setQueue_ne {q other : QueueId} (ds : List Descriptor) (s : State) (h : other ≠ q) :
    (s.setQueue q ds).queue other = s.queue other := by
  cases q <;> cases other <;> simp_all [State.setQueue, State.queue, Row.get_modify] <;> split <;> simp_all

/-- A head fits: the queue has one, no longer than the tokens (R88, R94). -/
theorem headFits_iff (ds : List Descriptor) (n : Nat) : headFits ds n = true ↔ ∃ d rest, ds = d :: rest ∧ d.length ≤ n := by
  cases ds <;> simp [headFits]

/-- What a line transmitter's choice comes to (R94). -/
theorem State.lineChoice_chosen (p : Port) (u : State) : u.LineChosen p (u.lineChoice p) := by
  have hs : ∀ q d rest, q = .dx p ∨ q = .db p → u.queue q = d :: rest →
      (u.startLine p q).queue q = rest ∧ (∀ other, other ≠ q → (u.startLine p q).queue other = u.queue other) ∧
      (u.startLine p q).cbm = { u.cbm with queues := (u.startLine p q).cbm.queues } ∧
      (u.startLine p q).txs =
        { u.txs with
          lineTx := u.txs.lineTx.set p (some d.sent)
          downBuckets := u.txs.downBuckets.set p { u.txs.downBuckets.get p with tokens := (u.txs.downBuckets.get p).tokens - d.length } } := by
    intro q d rest hq h
    have e : u.startLine p q = { u.setQueue q rest with
      txs := { (u.setQueue q rest).txs with
        lineTx := (u.setQueue q rest).txs.lineTx.set p (some d.sent)
        downBuckets := (u.setQueue q rest).txs.downBuckets.modify p fun b => { b with tokens := b.tokens - d.length } } } := by
      simp only [State.startLine, h]
    rw [e]
    refine ⟨State.queue_setQueue_self q rest u, fun o ho => State.queue_setQueue_ne rest u ho, ?_, ?_⟩
    · rcases hq with rfl | rfl <;> rfl
    · rcases hq with rfl | rfl <;> rfl
  refine ⟨?_, ?_, ?_, ?_, ?_⟩
  · intro part hp; cases part <;> simp_all [Part.Same]
  · intro h
    cases hx : u.txs.lineTx.get p <;> simp_all [State.lineChoice]
  · intro d rest free h
    constructor
    · intro hl
      have : u.lineChoice p = u.startLine p (.dx p) := by simp [State.lineChoice, free, h, headFits, hl]
      rw [this]; exact hs _ d rest (.inl rfl) h
    · intro hl
      simp [State.lineChoice, free, h, headFits, Nat.not_le.mpr hl]
  · intro d rest free h0 h
    constructor
    · intro hl
      have : u.lineChoice p = u.startLine p (.db p) := by simp [State.lineChoice, free, h0, h, headFits, hl]
      rw [this]; exact hs _ d rest (.inr rfl) h
    · intro hl
      simp [State.lineChoice, free, h0, h, headFits, Nat.not_le.mpr hl]
  · intro free h0 h
    simp [State.lineChoice, free, h0, h, headFits]

/-- The first port from `start` on that satisfies a test, in the order of R88. -/
theorem ring_find (f : Port → Bool) (start p : Port) (hp : f p = true) (before : ∀ q, q - start < p - start → f q = false) :
    (ring start).find? f = some p := by
  have h1 : ring start = allPorts.map (start + ·) := rfl
  rw [h1, List.find?_map]
  have : allPorts.find? (f ∘ (start + ·)) = some (p - start) := by
    rw [List.find?_eq_some_iff_getElem]
    have e : start + (p - start) = p := by simp
    refine ⟨by simp [e, hp], (p - start).val, by simp [allPorts], by simp [allPorts], ?_⟩
    intro j hj
    have hj16 : j < 16 := by omega
    have : f (start + ⟨j, hj16⟩) = false := by
      apply before
      have : start + ⟨j, hj16⟩ - start = (⟨j, hj16⟩ : Fin 16) := by simp
      rw [this]; exact hj
    simpa [allPorts] using this
  rw [this]; simp

/-- No port is found that satisfies a test none satisfies. -/
theorem ring_find_none (f : Port → Bool) (start : Port) (h : ∀ q, f q = false) : (ring start).find? f = none := by
  simp [List.find?_eq_none, h]

/-- What the arbiter's choice comes to (R86 to R89). -/
theorem State.uplinkChoice_chosen (u : State) : u.UplinkChosen u.uplinkChoice := by
  have may : (u.txs.uplinkTx = none ∧ u.scu.linkUp = true ∧ u.txs.paused = false) ↔ u.uplinkMayStart = true := by
    unfold State.uplinkMayStart; cases u.txs.uplinkTx <;> simp
  have fit : ∀ q p, (∃ d rest, u.queue q = d :: rest ∧ d.length ≤ (u.txs.upBuckets.get p).tokens) ↔ headFits (u.queue q) (u.upTokens p) = true :=
    fun q p => (headFits_iff _ _).symm
  have hs : ∀ p q d rest, q = .ux p ∨ q = .ub p → u.queue q = d :: rest → ∀ n, n = d.length →
      ((u.chargeUp p n).startUplink q).queue q = rest ∧
      (∀ other, other ≠ q → ((u.chargeUp p n).startUplink q).queue other = u.queue other) ∧
      ((u.chargeUp p n).startUplink q).cbm = { u.cbm with queues := ((u.chargeUp p n).startUplink q).cbm.queues } ∧
      ((u.chargeUp p n).startUplink q).txs =
        { u.txs with
          uplinkTx := some d.sent
          upBuckets := u.txs.upBuckets.set p { u.txs.upBuckets.get p with tokens := (u.txs.upBuckets.get p).tokens - d.length } } := by
    intro p q d rest hq h n hn
    subst hn
    have h' : (u.chargeUp p d.length).queue q = d :: rest := by
      rw [← h]; cases q <;> rfl
    have e : (u.chargeUp p d.length).startUplink q =
        { (u.chargeUp p d.length).setQueue q rest with
          txs := { ((u.chargeUp p d.length).setQueue q rest).txs with uplinkTx := some d.sent } } := by
      simp only [State.startUplink, h']
    rw [e]
    refine ⟨State.queue_setQueue_self q rest _, fun o ho => ?_, ?_, ?_⟩
    · have := State.queue_setQueue_ne rest (u.chargeUp p d.length) ho
      exact this.trans (by cases o <;> rfl)
    · rcases hq with rfl | rfl <;> rfl
    · rcases hq with rfl | rfl <;> rfl
  refine ⟨?_, ?_, ?_, ?_, ?_, ?_⟩
  · intro part hp; cases part <;> simp_all [Part.Same]
  · intro h
    rw [may] at h; simp [State.uplinkChoice, h]
  · intro d rest free h
    rw [may] at free
    simp [State.uplinkChoice, free, h, State.startUplink, State.queue, State.setQueue]
  · intro p d rest free haq h hl before
    rw [may] at free
    have find : (ring u.txs.expressPtr).find? (fun p => headFits (u.queue (.ux p)) (u.upTokens p)) = some p := by
      refine ring_find _ _ _ ((fit _ _).mp ⟨d, rest, h, hl⟩) fun q hq => ?_
      simpa using (fit _ _).not.mp (before q hq)
    have e : u.uplinkChoice = u.startExpress p := by simp [State.uplinkChoice, free, haq, find]
    obtain ⟨a, b, c, k⟩ := hs p (.ux p) d rest (.inl rfl) h (headLength (u.queue (.ux p))) (by rw [h]; rfl)
    rw [e]
    refine ⟨a, b, c, ?_⟩
    simp only [State.startExpress, k]
  · intro p d rest free haq none_ h hl before
    rw [may] at free
    have find0 : (ring u.txs.expressPtr).find? (fun p => headFits (u.queue (.ux p)) (u.upTokens p)) = none :=
      ring_find_none _ _ fun q => by simpa using (fit _ _).not.mp (none_ q)
    have find : (ring u.txs.bulkPtr).find? (fun p => headFits (u.queue (.ub p)) (u.upTokens p)) = some p := by
      refine ring_find _ _ _ ((fit _ _).mp ⟨d, rest, h, hl⟩) fun q hq => ?_
      simpa using (fit _ _).not.mp (before q hq)
    have e : u.uplinkChoice = u.startBulk p := by simp [State.uplinkChoice, free, haq, find0, find]
    obtain ⟨a, b, c, k⟩ := hs p (.ub p) d rest (.inr rfl) h (headLength (u.queue (.ub p))) (by rw [h]; rfl)
    rw [e]
    refine ⟨a, b, c, ?_⟩
    simp only [State.startBulk, k]
  · intro free haq none_
    rw [may] at free
    have find0 : (ring u.txs.expressPtr).find? (fun p => headFits (u.queue (.ux p)) (u.upTokens p)) = none :=
      ring_find_none _ _ fun q => by simpa using (fit _ _).not.mp (none_ q).1
    have find1 : (ring u.txs.bulkPtr).find? (fun p => headFits (u.queue (.ub p)) (u.upTokens p)) = none :=
      ring_find_none _ _ fun q => by simpa using (fit _ _).not.mp (none_ q).2
    simp [State.uplinkChoice, free, haq, find0, find1]

end Sys2Proof.Machine
end

