-- ==== Sys2Proof/Tests/Slice0.lean ====
section
/-! SUPPORT. The model's own tests: ill-formed commands refused, the spec's worked figures on single steps, and for each statement with
hypotheses states and operands that meet them. -/

namespace Sys2Proof.Tests

open Sys2Proof Sys2Proof.Machine

/-! ## Well-formedness: one ill-formed command for each check -/

/-- An item as R142 has it. -/
def fvItem : Item := ⟨.fvDc, .tg, some 12, none, none, none, ⟨false, false, false⟩, .ok⟩

/-- A SIG_WORD item as R141 and R142 have it. -/
def wordItem : Item := ⟨.sigWord, .tr, none, none, none, some ⟨9, some 105, some true, false, .complete⟩, ⟨false, false, false⟩, .ok⟩

theorem test_wf_accepts : (Instr.measurementItem ⟨1, fvItem⟩).wellFormed = true ∧ (Instr.measurementItem ⟨1, wordItem⟩).wellFormed = true ∧
    (Instr.take 65535 3 false).wellFormed = true ∧ (Instr.measureStart ⟨65535, 0⟩ .signature (some 255)).wellFormed = true := by decide
theorem test_wf_id : (Instr.take 0 3 false).wellFormed = false ∧ (Instr.granted 65536).wellFormed = false ∧
    (Instr.measurementItem ⟨0, fvItem⟩).wellFormed = false ∧ (Instr.measureStart ⟨0, 0⟩ .signature none).wellFormed = false := by decide
theorem test_wf_hazard_path : (Instr.hazardReport 0 .isrc 600#12).wellFormed = false := by decide
theorem test_wf_frame_length : (Instr.frameEnd .craft 1 true [0#8, 0#8]).wellFormed = false := by decide
theorem test_wf_expected : (Instr.measureStart ⟨1, 0⟩ .signature (some 256)).wellFormed = false := by decide
theorem test_wf_params (params : List Octet) (h : params.length = 65536) : (Instr.setRead .uplink params).wellFormed = false := by
  simp [Instr.wellFormed, goodParams, h]
theorem test_wf_item_path : (Instr.measurementItem ⟨1, { fvItem with path := .isrc }⟩).wellFormed = false := by decide
theorem test_wf_item_value : (Instr.measurementItem ⟨1, { fvItem with value := none }⟩).wellFormed = false := by decide
theorem test_wf_item_volts : (Instr.measurementItem ⟨1, { fvItem with volts := some 1 }⟩).wellFormed = false := by decide
theorem test_wf_item_amps : (Instr.measurementItem ⟨1, { fvItem with amps := some 1 }⟩).wellFormed = false := by decide
theorem test_wf_item_word : (Instr.measurementItem ⟨1, { wordItem with word := none }⟩).wellFormed = false := by decide
theorem test_wf_item_verdict : (Instr.measurementItem ⟨1, { fvItem with verdict := .low }⟩).wellFormed = false := by decide
theorem test_wf_word_bits :
    (Instr.measurementItem ⟨1, { wordItem with word := some ⟨10, some 105, none, false, .complete⟩ }⟩).wellFormed = false := by decide
theorem test_wf_word_data :
    (Instr.measurementItem ⟨1, { wordItem with word := some ⟨7, some 105, none, false, .gap⟩ }⟩).wellFormed = false := by decide
theorem test_wf_word_parity :
    (Instr.measurementItem ⟨1, { wordItem with word := some ⟨9, some 105, none, false, .complete⟩ }⟩).wellFormed = false := by decide

/-! ## States for the tests -/

/-- What a command leaves. -/
def after (c : Instr) (s : State) : State :=
  match exec c s with
  | .next t => t
  | .fault e => nomatch e
  | .refused _ => s

/-- The state after reset with one Port Record replaced. -/
def withPort (p : Port) (r : PortRecord) : State := { State.reset with ports := State.reset.ports.set p r }

/-- Port records: DISABLED at rest, DOWN, UP, DOZE, TEST, HELD. -/
def atRest : PortRecord := { PortRecord.afterReset with transfer := none }
def inDown : PortRecord := { atRest with state := .down, orderOn := true }
def inUp : PortRecord := { inDown with state := .up, rates := some ⟨8501, 40000⟩ }
def dozing : PortRecord := { atRest with state := .doze, causes := ⟨false, false, true⟩ }
def lent : PortRecord := { atRest with state := .test, testRef := some 6, returnTarget := some .down }
def onBus : PortRecord :=
  { lent with position := .testing, lineClosedCmd := false, testClosedCmd := true, lineClosedSense := false, testClosedSense := true }
def held : PortRecord :=
  { atRest with
    state := .held, position := .isolated, held := ⟨true, false⟩, returnTarget := some .down, lineClosedCmd := false
    lineClosedSense := false }

/-- A record in a transfer. -/
def moving (k : TransferKind) (ph : MovePhase) (r : PortRecord) : PortRecord := { r with transfer := some ⟨k, ph, 15000⟩ }

/-- A descriptor of `n` octets in `cells` cells. -/
def desc (q : QueueId) (n cells : Nat) : Descriptor :=
  ⟨n, List.range cells, .line 0, none, q, ⟨⟨0#48, 0#48, none, 0x0800#16⟩, [], false⟩, none⟩

/-- A frame header with a tag of priority code 5. -/
def header (vid : BitVec 12) (ethertype : BitVec 16) : FrameHeader := ⟨0#48, 1#48, some ⟨5#3, false, vid⟩, ethertype⟩

/-- A report of 1,664 octets, offered at the time given. -/
def aReport (o : Origin) (reset : Bool) (offered : Option Nat) : Report :=
  ⟨o, 1664, ⟨header 0#12 0x88B5#16, [], true⟩, false, false, reset, offered⟩

/-- A report is offered, the area of the reports holding `n` cells. -/
def reporting (r : Report) (n : Nat) : State :=
  { State.reset with cbm := { State.reset.cbm with reservedHeld := n }, mga := { State.reset.mga with exec := .reporting r } }

/-! ## The spec's worked figures -/

/-- 02_classification_and_the_flow_table.md, "Worked example: check values". -/
theorem test_check_values :
    let e (d : Direction) (p : Option Port) (v : Nat) (a : Action) (c : ClassMode) (t : Option Port) (g : Option Nat) : FlowEntry :=
      ⟨d, p, v, a, c, t, g, 0#32, 0⟩
    Bank.check State.reset.fcl.active = 16155 ∧
      Bank.check
        [(0, .lane), (1, e .up (some 5) 100 .forward .byPriority none none), (2, e .down none 100 .forward .byPriority (some 5) none),
          (200, e .down none 3000 .retag .express (some 9) (some 3001))] = 15663 := by decide

/-- The five homes of 04_uplink_share_computation.md. -/
def homes : List Claim :=
  [⟨0, 2000, 20000, 4, 12000⟩, ⟨3, 2000, 20000, 4, 3000⟩, ⟨5, 5000, 50000, 8, 30000⟩, ⟨9, 1000, 10000, 2, 8000⟩,
    ⟨12, 4000, 4000, 4, 25000⟩]

/-- "Worked example: five homes share a 40 Mbit/s uplink". -/
theorem test_five_homes :
    let n : Snapshot := ⟨40000, 256, 95, homes⟩
    n.usable = 37756 ∧ n.floors = 14000 ∧
      homes.map (fun c => (n.compute.entryOf c.port).grant) = [8501, 3000, 18003, 4250, 4000] ∧
      homes.map (fun c => (n.compute.entryOf c.port).status) = [.shared, .saturated, .shared, .shared, .saturated] ∧
      n.compute.spare = 2 ∧ n.compute.rounds = 2 ∧ n.compute.outcome = .shared := by decide

/-- "Worked example: the radio fades". -/
theorem test_radio_fades :
    let n : Snapshot := ⟨12000, 256, 95, homes⟩
    n.usable = 11156 ∧ homes.map (fun c => (n.compute.entryOf c.port).grant) = [1593, 1593, 3984, 796, 3187] ∧
      n.compute.spare = 3 ∧ n.compute.rounds = 0 ∧ n.compute.outcome = .overcommitted ∧
      Snapshot.overcommitted ⟨15000, 256, 95, homes⟩ = false := by decide

/-- A state in which L0's bucket stands as given, with the grant 8501 and the burst 16000. -/
def shaped (tokens remainder : Nat) : State :=
  { State.reset with
    scu := { State.reset.scu with table := { State.reset.scu.table with entries := Row.all ⟨8501, 2000, 12000, .shared⟩ } }
    txs := { State.reset.txs with upBuckets := Row.all ⟨tokens, remainder, 1000⟩ }
    mga := { State.reset.mga with subscribers := Row.all { Subscriber.default with upBurst := 16000 } } }

/-- "Worked example: remainder carry at 8,501 kbit/s": refills 1, 2 and 16. -/
theorem test_refill_carries :
    let b (tokens remainder : Nat) := (after (.upstreamRefill 0) (shaped tokens remainder)).txs.upBuckets.get 0
    b 0 0 = ⟨1062, 5, 2000⟩ ∧ b 1062 5 = ⟨2125, 2, 2000⟩ ∧ b 15939 3 = ⟨16000, 0, 2000⟩ := by decide

/-- "Worked example: the uplink arbiter over six choices", with pause on. -/
def arbiter (express : Port) (ux5 : List Descriptor) (tokens : Nat × Nat) : State :=
  { State.reset with
    scu := { State.reset.scu with linkUp := true }
    cbm :=
      { State.reset.cbm with
        queues :=
          ((State.reset.cbm.queues.set 0 ⟨[desc (.ux 0) 1500 12], [desc (.ub 0) 64 1], [], []⟩).set 5 ⟨ux5, [], [], []⟩).set 9
            ⟨[desc (.ux 9) 200 2], [desc (.ub 9) 1000 8], [], []⟩ }
    txs :=
      { State.reset.txs with
        paused := true, expressPtr := express
        upBuckets := ((State.reset.txs.upBuckets.set 0 ⟨tokens.1, 0, 1000⟩).set 5 ⟨3000, 0, 1000⟩).set 9 ⟨tokens.2, 0, 1000⟩ } }

/-- Choice 1: L5's express frame goes, its bucket holds 2,400, and the express pointer names L6. -/
theorem test_arbiter_first_choice :
    let t := after (.pauseChange false) (arbiter 3 [desc (.ux 5) 600 5] (1200, 100))
    (t.txs.uplinkTx.map (·.desc.length)) = some 600 ∧ (t.txs.upBuckets.get 5).tokens = 2400 ∧ t.txs.expressPtr = 6 ∧ t.txs.bulkPtr = 0 := by
  decide

/-- Choice 4: no express head fits, and L0's bulk frame of 64 goes ahead of its own express frame. -/
theorem test_arbiter_bulk_choice :
    let t := after (.pauseChange false) (arbiter 6 [] (1200, 100))
    (t.txs.uplinkTx.map (·.desc.queue)) = some (.ub 0) ∧ (t.txs.upBuckets.get 0).tokens = 1136 ∧ t.txs.expressPtr = 6 ∧ t.txs.bulkPtr = 1 := by
  decide

/-- Choice 7: the express search from L10 reaches L0, whose 1,500 fits 2,198. -/
theorem test_arbiter_wraps :
    let t := after (.pauseChange false) (arbiter 10 [] (2198, 431))
    (t.txs.uplinkTx.map (·.desc.queue)) = some (.ux 0) ∧ (t.txs.upBuckets.get 0).tokens = 698 ∧ t.txs.expressPtr = 1 := by
  decide

/-- "Worked figures: DC and AC": means, magnitudes and verdicts. -/
theorem test_dc_and_ac :
    [roundedMean (-411) 80, roundedMean 440 80, roundedMean (-440) 80, roundedMean 9640 80] = [-5, 6, -6, 121] ∧
      (fvItems .default .tg ⟨80, 9640, 244, -3, 0, false, false⟩).map (fun i => (i.value, i.verdict)) = [(some 121, .high), (some 123, .high)] ∧
      (fvItems .default .rg ⟨80, 440, 12, 0, 0, false, false⟩).map (fun i => (i.value, i.verdict)) = [(some 6, .ok), (some 6, .ok)] := by
  decide

/-- "Worked figures: insulation": 16 samples of V and of I summed. -/
theorem test_insulation :
    let i (cfg : MeasConfig) (v a : Int) (limited : Bool) :=
      let x := insItem cfg .tg ⟨32, 16 * v, 0, 0, 16 * a, false, limited⟩
      (x.value, x.verdict, x.flags.atOrAbove, x.flags.limited)
    i .default 498 3 false = (some 1660, .ok, false, false) ∧ i .default 498 6 false = (some 830, .low, false, false) ∧
      i .default 500 0 false = (some 20470, .ok, true, false) ∧
      i { MeasConfig.default with insPolarity := .negative } (-498) (-3) false = (some 1660, .ok, false, false) ∧
      i .default 212 2000 true = (some 1, .low, false, true) := by decide

/-- "Worked figures: thresholds". -/
theorem test_thresholds :
    MeasConfig.default.thresholds 212 = ⟨512, 1212, 437, 962⟩ ∧
      { MeasConfig.default with thresholdMode := .fixed }.thresholds 212 = ⟨280, 440, 263, 383⟩ ∧
      { MeasConfig.default with thresholdMode := .fixed, first := 0, offset := 0 }.thresholds 212 = ⟨40, 80, 83, 113⟩ := by decide

/-- "Worked figures: one rising edge": ten samples, and the rise counter and the level after each. -/
theorem test_rising_edge :
    let codes : List Int := [640, 655, 660, 190, 650, 661, 667, 670, 672, 675]
    let t := MeasConfig.default.thresholds 212
    (List.range 11).map (fun n => ((codes.take n).foldl (fun d c => d.sample t 6 c) Decoder.start).rise) = [0, 1, 2, 3, 0, 1, 2, 3, 4, 5, 0] ∧
      (codes.take 9).foldl (fun d c => d.detect t 6 c) Decoder.start = { Decoder.start with rise := 5 } ∧
      (codes.foldl (fun d c => d.detect t 6 c) Decoder.start).level = .one := by decide

/-- "Worked sequence: decoding a signature": the pulses of the word 105 with its parity, by their durations. -/
theorem test_signature_105 :
    let d := [48, 18, 8, 8, 18, 8, 18, 18, 8, 18].foldl (fun d n => d.pulse n) Decoder.start
    d.stage = .ended ∧ d.endReason = some .complete ∧ d.fields = ⟨9, some 105, some true, false, .complete⟩ ∧
      (sigWordItem d (some 105) ⟨false, false, false⟩).verdict = .ok ∧ (sigWordItem d (some 104) ⟨false, false, false⟩).verdict = .wrongNtu := by
  decide

/-- The cabinet of 09_cabinet_supervision_and_power_budget.md, "Worked example: sharing 420 in ECONOMY". -/
def economy (stage : Stage) : State :=
  { State.reset with
    ports := Row.make fun p => if p.val ∈ [0, 1, 2, 4, 5, 7, 8, 11] then inDown else atRest
    csu := { State.reset.csu with stage := some stage, heaterDemand := true }
    ptc := { State.reset.ptc with demand := true }
    mga :=
      { State.reset.mga with
        subscribers := Row.make fun p =>
          { Subscriber.default with
            portPower := if p.val = 8 then 20 else if p.val = 11 then 30 else 45
            shedRank := if p.val = 2 ∨ p.val = 7 then 7 else if p.val = 11 then 1 else 3 } } }

/-- The keep order, the decisions and what remains, in ECONOMY and then in CONSERVE. -/
theorem test_sharing_420 :
    let e := (economy .economy).evaluationNow none
    e.available = 420 ∧
      e.entries.map (·.load) =
        [.port 2, .port 7, .heater, .testBus, .port 0, .port 1, .port 4, .port 5, .port 8, .port 11] ∧
      e.entries.map (fun x => x.decision == .admitted) = [true, true, true, true, true, true, true, false, false, false] ∧
      (e.entries.take 7).map (·.remaining) = [375, 330, 210, 170, 125, 80, 35] ∧
      (((economy .conserve).evaluationNow none).entries.map fun x => x.decision == .admitted) =
        [true, false, false, false, false, false, false, false, false, false] := by decide

/-- 03_cell_buffer_and_queues.md, "Worked sequence: the express reserve at work": Frame A takes cell 5 and is dropped at cell 6. -/
theorem test_express_reserve :
    let s (held cells : Nat) : State :=
      { State.reset with
        cbm := { State.reset.cbm with upHeld := held, downHeld := 900 }
        fcl :=
          { State.reset.fcl with
            rxLine :=
              State.reset.fcl.rxLine.set 2
                (some ⟨some ⟨0#48, 0#48, none, 0x0800#16⟩, none, some ⟨.forward, .uplink, some .bulk, 100, true, 0#3⟩, some 1, some (.ub 2),
                  List.range cells⟩) } }
    (after (.cellRequest (.line 2)) (s 1759 4)).cbm.upHeld = 1760 ∧ (after (.cellRequest (.line 2)) (s 1760 5)).cbm.upHeld = 1755 ∧
      ((after (.cellRequest (.line 2)) (s 1760 5)).fcl.rxLine.get 2).bind (·.dropped) = some .poolFull := by decide

/-- 06_pair_test_requests_and_the_test_bus.md, "Worked sequence: an intrusive FULL test on L5", step 1: request 6 is placed first and selected. -/
theorem test_intrusive_request :
    let s : State :=
      { State.reset with
        ptc :=
          { State.reset.ptc with
            nextId := 6, requests := [⟨5, 2, .insulation, .waitIdle, .uplink, .normal, 0, .waiting⟩], view := Row.all ⟨.up, false, .none⟩ }
        mga :=
          { State.reset.mga with
            subscribers := State.reset.mga.subscribers.set 5 { Subscriber.default with policy := .any, expected := some 105 } } }
    let t := after (.testRequest .uplink [5#8, octet TestKind.full.code, octet TestMode.intrude.code, octet Urgency.urgent.code]) s
    t.ptc.state = .claim ∧ t.ptc.requests.map (fun r => (r.id, r.status)) = [(6, .running), (5, .waiting)] ∧ t.ptc.demand = true ∧
      Instr.take 6 5 true ∈ t.mail ∧ t.mga.lastEntry.map (·.outcome) = some .done := by decide

/-- 08_line_watch.md, "Worked sequence: a power line resting on L4": a watch record after a sweep that finds `v` on TG of L4. -/
def sweepL4 (v : Int) (w : WatchRecord) (r : PortRecord) : State :=
  after (.sweep ((Row.all ⟨0, 0, 0, false⟩ : Row 16 PairSample).set 4 ⟨v, 0, 0, false⟩))
    { withPort 4 r with lwu := ⟨true, some ⟨100, 100000⟩, State.reset.lwu.records.set 4 w⟩ }

/-- Sweep 3 declares warn and raises the record, sweep 5 declares hazard and holds L4, sweep 8 undeclares both. -/
theorem test_power_line :
    let w : WatchRecord := { WatchRecord.afterReset with fvWatched := true }
    let t3 := sweepL4 700 { w with warnCount := 2 } inUp
    let t5 := sweepL4 700 { w with warnCount := 3, hazardCount := 2, warnDeclared := true, lastReported := .warn } inUp
    let t8 :=
      sweepL4 200 { w with warnCount := 1, hazardCount := 1, warnDeclared := true, hazardDeclared := true, lastReported := .hazard } held
    ((t3.lwu.records.get 4).warnCount, (t3.lwu.records.get 4).hazardCount, (t3.lwu.records.get 4).level) = (3, 1, .warn) ∧
      (t3.mga.faults.any fun f => f.source == .line 4 && f.kind == .foreignVoltage && f.active) = true ∧
      (t5.lwu.records.get 4).level = .hazard ∧ (t5.port 4).state = .held ∧ (t5.port 4).position = .isolated ∧
      (t8.lwu.records.get 4).level = .none ∧ (t8.port 4).state = .held := by
  decide +kernel

/-! ## Witnesses: states and operands that meet the hypotheses of each statement

Each theorem is named after its statement. A clause stands for one case of the statement, at a boundary of its range where it has one. -/

/-- A directive that comes alone is carried out. -/
theorem comes_alone (o : Origin) (code : Octet) (params : List Octet) (s : State) (h : s.mga.exec = .idle) (w : s.mga.resetWait = .none) :
    s.comesUp o code params := by
  simp [State.comesUp, State.turn, h, w]

theorem may_change (s : State) (h : s.mga.locked = false) : s.mayChange .uplink := ⟨h, nofun⟩

theorem test_witness_StepRunsTheFrontCommand :
    ({ State.reset with pending := [.evaluation, .measureStop] } : State).pending = .evaluation :: [.measureStop] ∧
      State.reset.pending = [] := ⟨rfl, rfl⟩

theorem test_witness_NoCommandStopsThePart : ∀ straps, Instr.directedReset ≠ .powerOnReset straps := nofun

/-- A state in which the wait after RESET stands as given. -/
def waiting (w : ResetWait) : State := { State.reset with mga := { State.reset.mga with resetWait := w } }

theorem test_witness_DirectedResetKeepsWhatR191Keeps :
    (waiting .over).mga.resetWait = .over ∧ (∃ limit, (waiting (.placed 2000000)).mga.resetWait = .placed limit) ∧
      State.reset.mga.resetWait = .none ∧ (waiting .unplaced).mga.resetWait = .unplaced := ⟨rfl, ⟨_, rfl⟩, rfl, rfl⟩

/-! ### What every step keeps: the end of the restoring transfer of L3, right after reset -/

/-- Right after reset, with the end of L3's SETTLE phase waiting. -/
def settling : State := { State.reset with pending := [.settleEnd 3] }

theorem settling_steps : ∃ t, step settling = .next t := ⟨_, rfl⟩

theorem settling_port (p : Port) : settling.port p = .afterReset := by simp [settling, State.port, State.reset, Row.get, Row.all]

theorem sound_afterReset : PortRecord.afterReset.Sound := by constructor <;> decide

theorem test_witness_TheRelaysStayApart :
    (∀ p, (settling.port p).RelaysFollow) ∧ settling.OneOnBus ∧ ∃ t, step settling = .next t := by
  refine ⟨fun p => ?_, ⟨fun p q h => ?_, fun p q h => ?_⟩, settling_steps⟩
  · rw [settling_port]; exact ⟨rfl, by rintro t ⟨⟩; rfl⟩
  · rw [settling_port] at h; cases h
  · rw [settling_port] at h; cases h

theorem test_witness_PortRecordsStaySound : (∀ p, (settling.port p).Sound) ∧ ∃ t, step settling = .next t :=
  ⟨fun p => by rw [settling_port]; exact sound_afterReset, settling_steps⟩

theorem bank_sound_nil : Bank.Sound [] := ⟨.nil, by simp, by simp, .nil⟩

theorem test_witness_TheAgentPathIsKept : settling.fcl.Sound ∧ ∃ t, step settling = .next t :=
  ⟨⟨⟨by decide, by decide, by decide, by decide⟩, bank_sound_nil, by decide, by decide, by decide⟩, settling_steps⟩

theorem settling_queue (q : QueueId) : settling.queue q = [] := by
  cases q <;> simp [settling, State.queue, State.reset, Buffer.afterReset, PortQueues.empty, Row.get, Row.all]

theorem test_witness_CellsStayInBalance : settling.CellsBalance ∧ ∃ t, step settling = .next t := by
  refine ⟨⟨⟨fun q d h => ?_, fun t h => ?_, fun p t h => ?_, fun t h => ?_, fun p r q h => ?_, fun r q h => ?_,
    fun p r h => ?_, fun r h => ?_⟩, ?_, ?_, ?_⟩, settling_steps⟩
  · rw [settling_queue] at h; cases h
  · simp [settling, State.reset, Scheduler.afterReset] at h
  · simp [settling, State.reset, Scheduler.afterReset, Row.get, Row.all] at h
  · simp [settling, State.reset, Scheduler.afterReset] at h
  · simp [settling, State.reset, Classifier.afterReset, Row.get, Row.all] at h
  · simp [settling, State.reset, Classifier.afterReset] at h
  · simp [settling, State.reset, Classifier.afterReset, Row.get, Row.all] at h
  · simp [settling, State.reset, Classifier.afterReset] at h
  · intro a; cases a <;> decide +kernel
  · decide
  · decide

theorem test_witness_PortsOutOfUpStayQuiet : settling.QuietOutOfUp ∧ ∃ t, step settling = .next t := by
  refine ⟨fun p _ => ⟨?_, ?_, ?_, nofun, ?_, ?_⟩, settling_steps⟩ <;> revert p <;> decide

theorem test_witness_GrantsStayWithinCapacity : settling.GrantsFit ∧ ∃ t, step settling = .next t :=
  ⟨⟨by decide, by decide, by decide, nofun, by decide⟩, settling_steps⟩

/-- L0 held by a relay mismatch that has its record, with a step waiting. -/
def heldAndLogged : State :=
  { withPort 0 held with
    pending := [.settleEnd 3]
    mga := { State.reset.mga with faults := [⟨.cabinet, .restart, 0, 0, 1, false, some .powerOn⟩, ⟨.line 0, .relayMismatch, 1, 1, 1, true, none⟩] } }

theorem heldAndLogged_port (p : Port) : heldAndLogged.port p = if p = 0 then held else .afterReset := by
  revert p; decide

theorem test_witness_TheListsStaySound :
    settling.ptc.Sound ∧ settling.mga.Sound ∧ (∃ t, step settling = .next t) ∧
      (∀ p, (heldAndLogged.port p).Sound) ∧ heldAndLogged.mga.Sound ∧ heldAndLogged.LatchesRecorded ∧ ∃ t, step heldAndLogged = .next t := by
  refine ⟨by constructor <;> decide, by constructor <;> decide, settling_steps, fun p => ?_, by constructor <;> decide,
    ⟨fun p h => ?_, nofun, fun h => ?_⟩, ⟨_, rfl⟩⟩
  · rw [heldAndLogged_port]; split
    · constructor <;> decide
    · exact sound_afterReset
  · rw [heldAndLogged_port] at h
    split at h
    · next e => subst e; exact .inl ⟨⟨.line 0, .relayMismatch, 1, 1, 1, true, none⟩, by decide⟩
    · exact absurd h (by decide)
  · exact absurd h (by decide)

theorem test_witness_TheCraftPortIsPoweredAsJudged : settling.CraftJudged ∧ ∃ t, step settling = .next t := ⟨rfl, settling_steps⟩

theorem subscriber_legal : Subscriber.default.Legal := by constructor <;> decide

theorem reset_legal (s : State) (h : s.settings = .default) (u : ∀ p, s.sub p = .default) (c : s.msu.config = .default) :
    s.ParametersLegal :=
  ⟨by rw [h]; constructor <;> decide, fun p => by rw [u]; exact subscriber_legal, by rw [c]; constructor <;> decide⟩

theorem test_witness_ParametersStayLegal : settling.ParametersLegal ∧ ∃ t, step settling = .next t :=
  ⟨reset_legal _ rfl (by intro p; simp [settling, State.sub, State.reset, Agent.afterPowerOn, Row.get, Row.all]) rfl, settling_steps⟩

/-! ### Line ports -/

theorem test_witness_LineEventsByState :
    ((withPort 0 atRest).port 0).orderOn = false ∧
      ∀ st ∈ [PortState.down, .training, .up],
        let r := (withPort 15 { inUp with state := st }).port 15
        r.orderOn = true ∧ r.state = st := by decide

theorem test_witness_LeavingUpIsWhole :
    let s : State := { withPort 0 inUp with pending := [.linkLost 0] }
    (s.port 0).state = .up ∧ ∃ t, step s = .next t ∧ (t.port 0).state ≠ .up := ⟨by decide, _, rfl, by decide⟩

/-- L0 in a transfer of the lent port L0, with the test relay of L15 sensed as given. -/
def beside (k : TransferKind) (ph : MovePhase) (line other : Bool) : State :=
  { withPort 0 (moving k ph { lent with lineClosedSense := line }) with
    ports := (withPort 0 (moving k ph { lent with lineClosedSense := line })).ports.set 15 { atRest with testClosedSense := other } }

theorem test_witness_GapEndMakes :
    ((beside .outward .gap false false).port 0).transfer = some ⟨.outward, .gap, 15000⟩ ∧
      ((beside .outward .gap false false).port 0).lineClosedSense = false ∧
      (¬∃ q, q ≠ 0 ∧ (((beside .outward .gap false false).port q).testClosedCmd = true ∨
        ((beside .outward .gap false false).port q).testClosedSense = true)) ∧
      (∃ q, q ≠ 0 ∧ (((beside .outward .gap false true).port q).testClosedCmd = true ∨
        ((beside .outward .gap false true).port q).testClosedSense = true)) ∧
      ((beside .restoring .gap false false).port 0).testClosedSense = false := by decide

/-- L0 in TEST at the end of a transfer's SETTLE, with an order kept. -/
def kept (k : TransferKind) (h : HeldOrder) : PortRecord :=
  moving k .settle { if k = .outward then onBus else lent with heldOrder := some h }

theorem kept_sound (k : TransferKind) (h : HeldOrder) : (kept k h).Sound := by cases k <;> cases h <;> constructor <;> decide

theorem lent_sound : (moving .outward .settle { onBus with heldOrder := none }).Sound := by constructor <;> decide

theorem test_witness_SettleEndAnswers :
    (let r := (withPort 0 (moving .outward .settle onBus)).port 0
     r.Sound ∧ r.transfer = some ⟨.outward, .settle, 15000⟩ ∧ r.heldOrder = none ∧ r.lineClosedSense = r.lineClosedCmd ∧
       r.testClosedSense = r.testClosedCmd) ∧
      (∀ k h,
        let r := (withPort 0 (kept k h)).port 0
        r.Sound ∧ r.transfer = some ⟨k, .settle, 15000⟩ ∧ r.position = k.target ∧ r.heldOrder = some h ∧
          r.lineClosedSense = r.lineClosedCmd ∧ r.testClosedSense = r.testClosedCmd) ∧
      (lent.testRef = some 6 ∧ ({ lent with returnTarget := some .disabled } : PortRecord).returnTarget = some .disabled) :=
  ⟨⟨lent_sound, rfl, rfl, rfl, rfl⟩, fun k h => ⟨kept_sound k h, by cases k <;> cases h <;> decide⟩, by decide⟩

/-- R20: orders kept during a transfer back, a turned-round and a restoring transfer. Everything is shed in the state after reset, so the port that is
released dozes. -/
theorem test_kept_orders :
    let t (k : TransferKind) (h : HeldOrder) := after (.settleEnd 0) (withPort 0 (kept k h))
    ((t .back .release).port 0).state = .doze ∧ ((t .back .release).port 0).causes = ⟨true, false, false⟩ ∧
      Instr.released 6 ∈ (t .back .release).mail ∧ (t .restoring .transferBack).mail = [.portReport 0 .test false .none, .backDone] ∧
      (t .turnedRound .transferOut).mail = [.portReport 0 .test false .none, .outFailed] ∧
      (t .turnedRound .transferOut).port 0 =
        { lent with position := .testing, lineClosedCmd := false, transfer := some ⟨.outward, .gap, 25000⟩ } := by decide

theorem test_witness_SenseChangesWithoutAMismatch :
    ((withPort 0 atRest).port 0).transfer = none ∧
      (let r := (withPort 0 (moving .back .gap atRest)).port 0
       true ≠ r.testClosedSense ∧ false ≠ r.lineClosedSense ∧ r.transfer ≠ none) ∧
      let r := (withPort 0 { atRest with testClosedSense := true, lineClosedSense := false }).port 0
      false ≠ r.testClosedSense ∧ false = r.testClosedCmd ∧ true ≠ r.lineClosedSense ∧ true = r.lineClosedCmd := by decide

theorem test_witness_MismatchAndHazardHoldThePort :
    (let r := (withPort 0 (moving .outward .gap lent)).port 0
     ∃ tr, r.transfer = some tr ∧ tr.phase = .gap ∧ tr.kind = .outward ∧ r.lineClosedSense = true) ∧
      (let r := (withPort 0 (moving .back .gap { lent with testClosedSense := true })).port 0
       ∃ tr, r.transfer = some tr ∧ tr.phase = .gap ∧ tr.kind ≠ .outward ∧ r.testClosedSense = true) ∧
      (let r := (withPort 0 (moving .back .settle { lent with testClosedSense := true })).port 0
       (∃ tr, r.transfer = some tr ∧ tr.phase = .settle) ∧ r.testClosedSense ≠ r.testClosedCmd) ∧
      (let r := (withPort 0 inUp).port 0
       r.transfer = none ∧ false ≠ r.lineClosedSense ∧ false ≠ r.lineClosedCmd ∧ true ≠ r.testClosedSense ∧ true ≠ r.testClosedCmd) ∧
      (∃ id, ((withPort 0 lent).port 0).state = .test ∧ ((withPort 0 lent).port 0).testRef = some id) ∧ (withPort 0 lent).mga.Sound :=
  ⟨⟨_, rfl, by decide⟩, ⟨_, rfl, by decide⟩, ⟨⟨_, rfl, by decide⟩, by decide⟩, by decide, ⟨6, by decide⟩, by constructor <;> decide⟩

theorem test_witness_IdleExpiryDozes :
    ((withPort 0 { inUp with idleTimer := some 7 }).port 0).idleTimer = some 7 ∧
      ((withPort 0 { inUp with idleTimer := some 7 }).port 0).state = .up ∧ ((withPort 0 inUp).port 0).idleTimer = none := by decide

theorem test_witness_TakeIsGrantedOrDenied :
    ((withPort 15 lent).port 15).state = .test ∧ ((withPort 0 held).port 0).state = .held ∧
      (let r := (withPort 0 { held with state := .disabled }).port 0
       r.state = .disabled ∧ r.held.any = true) ∧
      (State.reset.port 0).transfer ≠ none ∧ ((withPort 0 inUp).port 0).state = .up ∧
      let s := withPort 0 inUp
      ¬((∃ q, (s.port q).state = .test) ∨ (s.port 0).state = .held ∨ ((s.port 0).state = .disabled ∧ (s.port 0).held.any = true) ∨
        (s.port 0).transfer ≠ none ∨ ((s.port 0).state = .up ∧ true = false)) := by decide

theorem test_witness_RelayOrdersAndRelease :
    (let r := (withPort 0 lent).port 0
     r.state = .test ∧ r.transfer = none ∧ r.position = .normal ∧ r.testRef = some 6 ∧ r.returnTarget = some .down ∧ r.causes.isEmpty = true) ∧
      (let r := (withPort 0 onBus).port 0
       r.state = .test ∧ r.transfer = none ∧ r.position = .testing) ∧
      (let r := (withPort 0 (moving .back .gap lent)).port 0
       r.state = .test ∧ r.transfer ≠ none) ∧
      ((withPort 0 held).port 0).state ≠ .test ∧
      ((withPort 0 { lent with returnTarget := some .disabled }).port 0).returnTarget = some .disabled ∧
      ((withPort 0 { lent with causes := ⟨false, false, true⟩ }).port 0).causes.isEmpty = false := by decide

/-- The element manager may change, and a directive of it comes alone. -/
def Ready (s : State) : Prop := s.mayChange .uplink ∧ ∀ code params, s.comesUp .uplink code params

theorem ready_of (s : State) (l : s.mga.locked = false) (h : s.mga.exec = .idle) (w : s.mga.resetWait = .none) : Ready s :=
  ⟨may_change s l, fun _ _ => comes_alone _ _ _ s h w⟩

theorem ready_port (p : Port) (r : PortRecord) : Ready (withPort p r) := ready_of _ rfl rfl rfl

theorem test_witness_EnableAndDisable :
    (∀ r, Ready (withPort 0 r)) ∧ ((withPort 0 held).port 0).state = .held ∧
      (let r := (withPort 0 { held with state := .disabled }).port 0
       r.state = .disabled ∧ r.held.any = true) ∧
      (let r := (withPort 0 atRest).port 0
       r.state = .disabled ∧ r.held.any = false ∧ r.transfer = none ∧ r.position = .normal) ∧
      (∀ g ∈ [ReturnTarget.disabled, .down],
        let r := (withPort 0 { lent with returnTarget := some g }).port 0
        r.state = .test ∧ r.returnTarget = some g) ∧
      (∀ r ∈ [inDown, { inDown with state := .training }, inUp, dozing],
        let r' := (withPort 0 r).port 0
        r'.state = .down ∨ r'.state = .training ∨ r'.state = .up ∨ r'.state = .doze) ∧
      (let r := State.reset.port 0
       r.Sound ∧ r.state = .disabled ∧ r.held.any = false ∧ r.transfer ≠ none) ∧ 16 ≤ (16#8).toNat :=
  ⟨ready_port 0, by decide, by decide, by decide, by decide, by decide, ⟨by constructor <;> decide, by decide⟩, by decide⟩

/-- R21: enabled while the restoring transfer of the reset runs, with no load shed, the port is DOWN and its transceiver off until the transfer ends. -/
theorem test_enable_while_restoring :
    let s : State := { State.reset with csu := { State.reset.csu with stage := some .mains } }
    let t := after (.portEnable .uplink [0#8]) s
    (t.port 0).state = .down ∧ (t.port 0).orderOn = false ∧ (t.port 0).transfer = some ⟨.restoring, .settle, 15000⟩ ∧
      ((after (.settleEnd 0) { t with ports := t.ports.modify 0 fun r => { r with lineClosedSense := true } }).port 0).orderOn = true := by
  decide +kernel

theorem sound_atRest : atRest.Sound := by constructor <;> decide
theorem sound_held (g : ReturnTarget) : PortRecord.Sound { held with returnTarget := some g } := by cases g <;> constructor <;> decide

theorem test_witness_ClearAndWake :
    (∀ p r, Ready (withPort p r)) ∧
      (let s := withPort 0 atRest
       (s.port 0).Sound ∧ ¬((s.port 0).state = .held ∨ ((s.port 0).state = .disabled ∧ (s.port 0).held.any = true))) ∧
      (∀ g, let s := withPort 0 { held with returnTarget := some g }
        (s.port 0).Sound ∧ (s.port 0).state = .held ∧ (s.port 0).returnTarget = some g ∧
          ¬((s.port 0).lineClosedSense = true ∨ (s.port 0).testClosedSense = true ∨ (s.lwu.records.get 0).hazardDeclared = true)) ∧
      ((withPort 0 { held with testClosedSense := true }).port 0).testClosedSense = true ∧
      ((withPort 0 atRest).port 0).state ≠ .doze ∧ ((withPort 0 atRest).port 0).state ≠ .test ∧ 16 ≤ (16#8).toNat ∧
      (let r := (withPort 0 { dozing with causes := ⟨true, false, true⟩ }).port 0
       r.state = .doze ∧ r.causes.shed = true) ∧
      (let r := (withPort 0 lent).port 0
       r.state = .test ∧ r.causes.shed = false ∧ r.causes.thermal = false) ∧
      let r := (withPort 0 dozing).port 0
      r.state = .doze ∧ r.causes = ⟨false, false, true⟩ ∧ r.transfer = none ∧ r.position = .normal :=
  ⟨ready_port, ⟨sound_atRest, by decide⟩, fun g => ⟨sound_held g, by cases g <;> decide⟩, by decide⟩

/-! ### Frames -/

/-- A frame in reception from a source, with the held counts of the two partitions. -/
def receiving (src : Source) (r : Option Reception) (up down : Nat) : State :=
  { State.reset with
    cbm := { State.reset.cbm with upHeld := up, downHeld := down }
    fcl :=
      match src with
      | .line p => { State.reset.fcl with rxLine := State.reset.fcl.rxLine.set p r }
      | .uplink => { State.reset.fcl with rxUplink := r }
      | .craft => { State.reset.fcl with rxCraft := r } }

/-- A craft port that is alive, with a craft frame in reception or not, and with a header to be discarded or not. -/
def craftOpen (r : Option Reception) (stale : Bool) : State :=
  let s := receiving .craft r 0 0
  { s with fcl := { s.fcl with staleHeader := stale }, txs := { s.txs with craftLinkUp := true } }

/-- A frame whose header is still to come, and one classified for a queue. -/
def fresh : Reception := ⟨none, none, none, none, none, [4031]⟩
def forward (dest : Destination) (cls : FrameClass) : Result := ⟨.forward, dest, some cls, 100, false, 5#3⟩
def classified (dest : Destination) (cls : FrameClass) (q : Option QueueId) (cells : Nat) : Reception :=
  ⟨some (header 100#12 0x0800#16), none, some (forward dest cls), some 1, q, List.range cells⟩

theorem test_witness_FramesTakeCells :
    (let s := receiving (.line 0) none 2015 0
     s.reception (.line 0) = none ∧ s.areaFree .upstream = 1) ∧
      (let s := receiving .uplink none 0 2016
       s.reception .uplink = none ∧ s.areaFree .downstream = 0) ∧
      (let r := classified .uplink .bulk (some (.ub 0)) 12
       let s := receiving (.line 0) (some r) 1759 0
       s.reception (.line 0) = some r ∧ r.header ≠ none ∧ r.dropped = none ∧ r.cells.length < 13 ∧ r.result.bind (·.cls) = some .bulk ∧
         s.areaFree .upstream = s.settings.expressReserve + 1 ∧
         (receiving (.line 0) (some r) 1760 0).areaFree .upstream < s.settings.expressReserve + 1) ∧
      (let s := receiving .craft none 0 0
       s.reception .craft = none ∧ s.craftAlive = false ∧ (craftOpen none false).reception .craft = none ∧
         (craftOpen none false).craftAlive = true ∧ (receiving .craft (some fresh) 0 0).reception .craft = some fresh) ∧
      (classified .uplink .bulk (some (.ub 0)) 13).cells.length = 13 := by decide

/-- A table with a FORWARD, a RETAG and a DROP entry in each direction beside the lane of reset, and a frame in reception. -/
def table (src : Source) (r : Reception) (held : Nat) : State :=
  let s := receiving src (some r) held held
  let e (d : Direction) (v : Nat) (a : Action) (g : Option Nat) : FlowEntry :=
    ⟨d, if d = .up then some 0 else none, v, a, .byPriority, if d = .down ∧ a ≠ .drop then some 15 else none, g, 0#32, v⟩
  { s with
    fcl :=
      { s.fcl with
        active :=
          [(0, .lane), (1, e .up 100 .forward none), (2, e .up 101 .retag (some 4094)), (3, e .up 102 .drop none),
            (4, e .down 100 .forward none), (5, e .down 101 .retag (some 1)), (255, e .down 102 .drop none)] } }

/-- The octets of a header: tagged with priority code 5 and the VID given, or untagged. -/
def tagged (vid inner : BitVec 16) : HeaderOctets := ⟨0#48, 1#48, 0x8100#16, 0xA000#16 + vid, inner⟩
def untagged (type : BitVec 16) : HeaderOctets := ⟨0#48, 1#48, type, 0xA064#16, 0x0800#16⟩

/-- R25: 0x8100 at octets 13 and 14 makes a tagged frame, a second tag is content, and anything else is the ethertype of an untagged frame. -/
theorem test_header_octets :
    HeaderOctets.read (tagged 100#16 0x0800#16) = header 100#12 0x0800#16 ∧
      HeaderOctets.read (tagged 4095#16 0x8100#16) = header 4095#12 0x8100#16 ∧
      HeaderOctets.read (untagged 0x0800#16) = ⟨0#48, 1#48, none, 0x0800#16⟩ := by decide

/-- R29: the ethertype of a craft frame, behind its outer tag if it has one, decides. -/
theorem test_craft_headers :
    let dropped (o : HeaderOctets) :=
      ((after (.craftHeader o) (receiving .craft (some { fresh with cells := [] }) 0 0)).reception .craft).bind (·.dropped)
    dropped (untagged 0x88B5#16) = none ∧ dropped (tagged 100#16 0x88B5#16) = none ∧ dropped (untagged 0x0800#16) = some .notAgent := by
  decide

theorem test_witness_UpstreamHeaderClassifies :
    let s := table (.line 0) fresh 1761
    let read := HeaderOctets.read
    (read (tagged 100#16 0x88B5#16)).ethertype = 0x88B5#16 ∧ (read (untagged 0x0800#16)).tag = none ∧
    let act (v : Nat) : Option Action := (Bank.lookup s.fcl.active .up (some 0) v).map (·.action)
    s.reception (.line 0) = some fresh ∧ (s.sub 0).defaultVid = none ∧ act 4094 = none ∧
      act 102 = some .drop ∧ act 100 = some .forward ∧ act 101 = some .retag ∧ s.areaFree .upstream < s.settings.expressReserve ∧
      ¬(table (.line 0) fresh 1760).areaFree .upstream < s.settings.expressReserve := by decide

theorem test_witness_DownstreamAndCraftHeaders :
    let s := table .uplink fresh 1760
    let act (v : Nat) : Option Action := (Bank.lookup s.fcl.active .down none v).map (·.action)
    FrameHeader.vidOf (HeaderOctets.read (tagged 100#16 0x0800#16)) = 100 ∧ FrameHeader.vidOf (HeaderOctets.read (untagged 0x0800#16)) = 0 ∧
      s.reception .uplink = some fresh ∧ act 4094 = none ∧ act 102 = some .drop ∧ act 4000 = some .agent ∧ act 100 = some .forward ∧
      act 101 = some .retag ∧ (Bank.lookup s.fcl.active .down none 100).bind (·.target) = some 15 ∧
      ¬s.areaFree .downstream < s.settings.expressReserve ∧
      (table .uplink fresh 1761).areaFree .downstream < (table .uplink fresh 1761).settings.expressReserve ∧
      (receiving .craft (some { fresh with cells := [] }) 0 0).reception .craft = some { fresh with cells := [] } ∧
      (∀ stale : Bool, (craftOpen none stale).reception .craft = none ∧ (craftOpen none stale).fcl.staleHeader = stale ∧
        (craftOpen none stale).craftAlive = true) ∧
      (let s := receiving .craft none 0 0
       s.reception .craft = none ∧ s.fcl.staleHeader = false ∧ s.craftAlive = false ∧ s.reception .uplink = none ∧
         s.reception (.line 0) = none) := by decide

theorem test_witness_BadFramesAreCounted :
    (∀ src ∈ [Source.line 0, .uplink, .craft], (receiving src (some fresh) 1 1).reception src = some fresh ∧
      (receiving src none 0 0).reception src = none) ∧ 63 < 64 ∧ 1664 < 1665 := by decide

/-- R62, R191: what is left of a craft frame that a directed reset meets before its header is discarded, without a check or a count, and the next
frame of the craft port is received. -/
theorem test_reset_discards_craft_frame :
    let s := craftOpen (some { fresh with cells := [] }) false
    let t := after .directedReset { s with mga := { s.mga with resetWait := .over } }
    let u := after (.craftHeader (untagged 0x88B5#16)) t
    let v := after (.frameEnd .craft 63 false []) u
    t.craftAlive = true ∧ t.reception .craft = none ∧ u.reception .craft = none ∧ v.fcl = { t.fcl with staleHeader := false } ∧ v.mga = t.mga ∧
      ((after (.craftHeader (untagged 0x88B5#16)) v).reception .craft).isSome = true := by decide

/-- A frame classified for a queue of L0, whose queue holds `n` cells and whose port stands as given. -/
def queued (src : Source) (r : Reception) (port : PortRecord) (n : Nat) : State :=
  let s := receiving src (some r) 100 100
  { s with
    ports := s.ports.set 0 port
    cbm := { s.cbm with queues := s.cbm.queues.set 0 ⟨[], [desc (.ub 0) 1664 n], [], [desc (.db 0) 1664 n]⟩ } }

theorem test_witness_GoodFramesAreAdmitted :
    (∀ why ∈ [DropReason.untagged, .noEntry, .actionDrop, .agentFromLine, .poolFull],
      (receiving (.line 0) (some { fresh with dropped := some why, cells := [] }) 0 0).reception (.line 0) =
        some { fresh with dropped := some why, cells := [] }) ∧
      (let r := classified .uplink .bulk (some (.ub 0)) 13
       (queued (.line 0) r inUp 51).reception (.line 0) = some r ∧ ((queued (.line 0) r inDown 51).port 0).state ≠ .up ∧
         ((queued (.line 0) r inUp 51).port 0).state = .up ∧ (queued (.line 0) r inUp 51).uplinkMayStart = false ∧
         ((queued (.line 0) r inUp 51).sub 0).bulkCap = cellsOf ((queued (.line 0) r inUp 51).queue (.ub 0)) + 13 ∧
         ((queued (.line 0) r inUp 52).sub 0).bulkCap < cellsOf ((queued (.line 0) r inUp 52).queue (.ub 0)) + 13) ∧
      (∀ why ∈ [DropReason.untagged, .noEntry, .actionDrop, .poolFull],
        (receiving .uplink (some { fresh with dropped := some why, cells := [] }) 0 0).reception .uplink =
          some { fresh with dropped := some why, cells := [] }) ∧
      let r := classified (.line 0) .bulk (some (.db 0)) 13
      (queued .uplink r inUp 51).reception .uplink = some r ∧ ((queued .uplink r inDown 51).port 0).state ≠ .up ∧
        ((queued .uplink r inUp 51).sub 0).bulkCap = cellsOf ((queued .uplink r inUp 51).queue (.db 0)) + 13 ∧
        ((queued .uplink r inUp 52).sub 0).bulkCap < cellsOf ((queued .uplink r inUp 52).queue (.db 0)) + 13 := by decide

/-- R17, R31: a good frame counts at the entry it hit and restarts its port's idle timer; one with a wrong FCS does neither. -/
theorem test_hits_and_idle :
    let r : Reception := { classified .uplink .bulk (some (.ub 0)) 13 with hit := some 0 }
    let s := queued (.line 0) r { inUp with idleTimer := some 7 } 51
    let s : State := { s with mga := { s.mga with subscribers := Row.all { Subscriber.default with idleDoze := 60 } } }
    let t (good : Bool) := after (.frameEnd (.line 0) 1600 good []) s
    (t true).fcl.active.map (·.2.hits) = [1#32] ∧ ((t true).port 0).idleTimer = some 60000000 ∧
      (t false).fcl.active.map (·.2.hits) = [0#32] ∧ ((t false).port 0).idleTimer = some 7 := by decide

theorem test_witness_AgentFramesReachTheirStore :
    (let r : Reception := { classified .agent .bulk none 13 with result := some ⟨.agent, .agent, none, 4000, false, 5#3⟩ }
     let s := receiving .uplink (some r) 0 13
     s.reception .uplink = some r ∧ r.header ≠ none ∧ r.dropped = none ∧ r.queue = none ∧ s.mga.uplinkStore = none ∧ s.mga.exec = .idle ∧
       s.mga.resetWait = .none) ∧
      (let r : Reception := { fresh with header := some (header 0#12 0x88B5#16), cells := [] }
       (receiving .craft (some r) 0 0).reception .craft = some r) ∧
      ∀ why ∈ [DropReason.notAgent, .storeBusy],
        (receiving .craft (some { fresh with dropped := some why }) 0 0).reception .craft = some { fresh with dropped := some why } := by
  decide

/-! ### Shares and scheduling -/

theorem homes_sound (cUp : Nat) : Snapshot.Sound ⟨cUp, 256, 95, homes⟩ :=
  ⟨show (homes.map (·.port)).Nodup by decide, show ∀ c ∈ homes, 1 ≤ c.weight by decide, show 95 ≤ 100 by decide⟩

theorem test_witness_FloorsAreScaledWhenOvercommitted :
    (∀ cUp, Snapshot.Sound ⟨cUp, 256, 95, homes⟩) ∧ (∀ c ∈ homes, c.peak ≤ 1000000) ∧
      (let n : Snapshot := ⟨14993, 256, 95, homes⟩
       n.cUp ≤ 1000000 ∧ n.usable = n.floors ∧ 0 < n.floors) ∧
      Snapshot.usable ⟨256, 256, 95, homes⟩ = 0 ∧ Snapshot.usable ⟨10000, 256, 95, []⟩ = 9256 := ⟨homes_sound, by decide⟩

theorem test_witness_FilledSharesFit :
    (∀ cUp, Snapshot.Sound ⟨cUp, 256, 95, homes⟩) ∧ Snapshot.overcommitted ⟨40000, 256, 95, homes⟩ = false ∧
      Snapshot.overcommitted ⟨14995, 256, 95, homes⟩ = false := ⟨homes_sound, by decide⟩

/-- The uplink up, with L0 active and its queue UX as given. -/
def sharing (ux : List Descriptor) : State :=
  { State.reset with
    scu := { State.reset.scu with linkUp := true, activity := State.reset.scu.activity.set 0 (some 200000) }
    cbm := { State.reset.cbm with queues := State.reset.cbm.queues.set 0 ⟨ux, [], [], []⟩ } }

theorem test_witness_ShareTriggers :
    State.reset.scu.activity.get 0 = none ∧ (sharing []).scu.activity.get 0 = some 200000 ∧ (sharing []).queue (.ux 0) = [] ∧
      (sharing []).queue (.ub 0) = [] ∧ (sharing [desc (.ux 0) 64 1]).queue (.ux 0) ≠ [] ∧
      (sharing []).settings.capacitySource = .reported ∧ (sharing []).scu.linkUp = true ∧
      1000000 ≠ (sharing []).scu.latestReport.getD 0 ∧ State.reset.scu.linkUp = false := by decide

/-- The computation of the example in flight over a table of sequence 41. -/
def fading : State :=
  { State.reset with
    scu :=
      { State.reset.scu with
        computation := some ⟨⟨12000, 256, 95, homes⟩, false, Row.all false⟩, table := { State.reset.scu.table with sequence := 41#16 } } }

theorem test_witness_ComputationsInstall :
    State.reset.scu.computation = none ∧ (∃ c, State.reset.startComputation.scu.computation = some c) ∧ Ready State.reset ∧
      Ready State.reset.startComputation ∧
      (∃ c, fading.scu.computation = some c ∧ (c.install fading.scu.table).overcommitted ≠ fading.scu.table.overcommitted) ∧
      fading.noticeEnabled .overcommit = true ∧ fading.mga.destination = none ∧ fading.mga.notices.length < 32 ∧
      (∃ c ∈ (sharing []).snapshot.claims, c.port = 0) :=
  ⟨rfl, ⟨_, rfl⟩, ready_of _ rfl rfl rfl, ready_of _ rfl rfl rfl, ⟨_, rfl, by decide⟩, rfl, rfl, by decide, by decide⟩

/-- "Worked example: the radio fades": the OVERCOMMIT notice (R80). -/
theorem test_overcommit_notice :
    ((after .computationComplete fading).mga.notices.map (·.notice)).getLast? = some (.overcommit true 11156 14000 42#16) := by decide

/-- A frame of a queue in transmission on each link, CQ holding the frames given, the craft port's link up. -/
def sending (q : QueueId) (cq : List Descriptor) : State :=
  let x : Transmission := ⟨desc q 64 1, (desc q 64 1).image, 68⟩
  { State.reset with
    cbm := { State.reset.cbm with cq := cq }
    txs := { State.reset.txs with uplinkTx := some x, lineTx := Row.all (some x), craftTx := some x, craftLinkUp := true } }

theorem test_witness_BucketsRefill :
    State.reset.uplinkMayStart = false ∧ (shaped 0 0).uplinkMayStart = false ∧
      ({ State.reset with txs := { State.reset.txs with lineTx := Row.all (some ⟨desc (.dx 0) 64 1, (desc (.dx 0) 64 1).image, 64⟩) } } :
        State).txs.lineTx.get 0 ≠ none := by decide

/-- R94: DX before DB; a head of DX that does not fit lets nothing start; with DX empty DB is served; at a refill, a completion and an admission. -/
theorem test_line_choice :
    let s (dx db : List Descriptor) : State :=
      { State.reset with
        cbm := { State.reset.cbm with queues := State.reset.cbm.queues.set 0 ⟨[], [], dx, db⟩, downHeld := 4 }
        txs := { State.reset.txs with downBuckets := Row.all ⟨64, 0, 1000⟩ } }
    let dx (n : Nat) : List Descriptor := [desc (.dx 0) n 1]
    let db (n : Nat) : List Descriptor := [desc (.db 0) n 1]
    let seen (t : State) := ((t.txs.lineTx.get 0).map (·.desc.queue), (t.txs.downBuckets.get 0).tokens, (t.queue (.dx 0)).length, (t.queue (.db 0)).length)
    let busy (u : State) : State :=
      { u with txs := { u.txs with lineTx := u.txs.lineTx.set 0 (some ⟨desc (.db 0) 64 1, (desc (.db 0) 64 1).image, 64⟩) } }
    seen (after (.downstreamRefill 0) (s (dx 64) (db 64))) = (some (.dx 0), 0, 0, 1) ∧
      seen (after (.downstreamRefill 0) (s (dx 65) (db 64))) = (none, 64, 1, 1) ∧
      seen (after (.downstreamRefill 0) (s [] (db 64))) = (some (.db 0), 0, 0, 0) ∧
      seen (after (.downstreamRefill 0) (s [] (db 65))) = (none, 64, 0, 1) ∧
      seen (after (.lineCompletion 0) (busy (s (dx 64) (db 64)))) = (some (.dx 0), 0, 0, 1) := by decide

/-- R87: a link that comes up and a completion are events for a choice. -/
theorem test_choice_events :
    let s : State := { State.reset with cbm := { State.reset.cbm with aq := [desc .aq 64 1] } }
    (after (.uplinkLinkStateChange true) s).txs.uplinkTx = some (desc .aq 64 1).sent ∧
      (after .uplinkCompletion { s with scu := { s.scu with linkUp := true }, txs := (sending (.ux 0) []).txs }).txs.uplinkTx =
        some (desc .aq 64 1).sent := by decide

theorem test_witness_TheArbiterChooses :
    let s := arbiter 3 [desc (.ux 5) 600 5] (64, 100)
    let fits (s : State) (q : QueueId) (p : Port) : Bool :=
      match s.queue q with
      | [] => false
      | d :: _ => decide (d.length ≤ (s.txs.upBuckets.get p).tokens)
    s.txs.paused = true ∧ s.txs.uplinkTx = none ∧ s.scu.linkUp = true ∧ s.cbm.aq = [] ∧
      (fits s (.ux 5) 5 = true ∧ ∀ q, q - s.txs.expressPtr < 5 - s.txs.expressPtr → fits s (.ux q) q = false) ∧
      (let s := arbiter 6 [] (64, 100)
       (∀ q, fits s (.ux q) q = false) ∧ fits s (.ub 0) 0 = true) ∧
      (let s := arbiter 6 [] (63, 100)
       ∀ q, fits s (.ux q) q = false ∧ fits s (.ub q) q = false) ∧
      State.reset.scu.linkUp = false ∧ (desc .aq 64 1).result = none := by decide

/-- What leaves: a RETAG to the VID that is there already takes a new FCS, a FORWARD of a tagged frame goes as it came, a marked frame gains
four octets. -/
theorem test_what_leaves :
    let d (a : Action) (tag : Option Tag) (mark : Bool) : Descriptor :=
      { desc (.ub 0) 64 1 with
        result := some ⟨a, .uplink, some .bulk, 100, mark, 0#3⟩, image := ⟨⟨0#48, 0#48, tag, 0x0800#16⟩, [], false⟩ }
    let sent (a : Action) (tag : Option Tag) (mark : Bool) := ((d a tag mark).sent.sent.newFcs, (d a tag mark).sent.octets)
    sent .retag (some ⟨5#3, false, 100#12⟩) false = (true, 64) ∧ sent .forward (some ⟨5#3, false, 100#12⟩) false = (false, 64) ∧
      sent .forward (some ⟨5#3, false, 0#12⟩) false = (true, 64) ∧ sent .forward none true = (true, 68) := by decide

theorem test_witness_CompletionsAndTheCraftLink :
    State.reset.txs.uplinkTx = none ∧ State.reset.txs.lineTx.get 0 = none ∧ State.reset.txs.craftTx = none ∧
      (∃ x, (sending (.ux 0) []).txs.uplinkTx = some x ∧ x.desc.queue.area = .upstream) ∧
      (∃ x, (sending (.db 0) []).txs.lineTx.get 0 = some x ∧ x.desc.queue.area = .downstream) ∧
      (∃ x, (sending .cq [desc .cq 64 1]).txs.craftTx = some x) ∧ (sending .cq [desc .cq 64 1]).craftAlive = true ∧
      (sending .cq [desc .cq 64 1]).cbm.cq = [desc .cq 64 1] ∧ State.reset.csu.craftPowered = true ∧
      (∃ x, (sending .aq []).txs.uplinkTx = some x ∧ x.desc.queue = .aq) ∧ (sending .aq []).mga.destination = none ∧
      (∃ r, (reporting (aReport .uplink true (some 0)) 64).mga.exec = .reporting r ∧ r.offeredAt ≠ none) ∧
      ({ desc .aq 64 1 with agentKind := some (.report true) } : Descriptor).agentKind = some (.report true) ∧
      ({ State.reset with csu := { State.reset.csu with craftPowered := false } } : State).csu.craftPowered = false ∧
      (let s : State := { reporting (aReport .craft true (some 0)) 64 with cbm := (sending .cq [desc .cq 64 1]).cbm }
       s.cbm.cq ≠ [] ∧ (∃ r, s.mga.exec = .reporting r ∧ r.offeredAt ≠ none)) ∧
      (∃ d ∈ (sending .cq [{ desc .cq 64 1 with agentKind := some (.report true) }]).cbm.cq, d.agentKind = some (.report true)) :=
  ⟨rfl, by decide, rfl, ⟨_, rfl, rfl⟩, ⟨_, rfl, rfl⟩, ⟨_, rfl⟩, by decide, by decide, rfl, ⟨_, rfl, rfl⟩, rfl, ⟨_, rfl, nofun⟩, rfl, rfl,
    ⟨by decide, _, rfl, nofun⟩, ⟨_, List.mem_singleton.mpr rfl, rfl⟩⟩

/-- R96, R180, R191: a discard of CQ offers a kept report again and ends the wait of a directed reset for the report discarded. -/
theorem test_craft_discards :
    let cq : List Descriptor := [{ desc .cq 64 1 with agentKind := some (.report true) }]
    let t := after (.craftLinkChange false) { reporting (aReport .craft false (some 0)) 1 with cbm := { State.reset.cbm with cq := cq } }
    t.cbm.cq = [] ∧ t.txs.craftDiscards = 1 ∧ t.mga.resetWait = .over ∧ t.mail = [.directedReset, .reportPlacement] := by decide

/-! ### The flow table -/

/-- A state in a trial that was activated 5 s ago with the soak time given, or in none. -/
def trialing (soak : Option Nat) : State :=
  { State.reset with now := 5000000, fcl := { State.reset.fcl with trial := soak.map fun n => ⟨60000000, n, 0⟩ } }

/-- The parameters of an FT_WRITE: an index, an occupied octet, and the entry of the lane of reset or another. -/
def laneOctets (index vid0 vid1 : Octet) : List Octet := [index, 1#8, 1#8, 255#8, vid0, vid1, 3#8, 1#8, 255#8, 0#8, 0#8]

theorem test_witness_CandidateEdits :
    (∀ n, Ready (trialing n)) ∧ (trialing (some 0)).fcl.trial ≠ none ∧ (trialing none).fcl.trial = none ∧
      (laneOctets 0#8 15#8 160#8).length = 11 ∧ ftForm (laneOctets 0#8 15#8 160#8) ≠ .bad ∧
      ftForm (List.replicate 11 255#8) = .bad ∧ ftForm (255#8 :: 0#8 :: List.replicate 9 0#8) = .clear 255 ∧
      (match ftForm (laneOctets 255#8 15#8 160#8) with
       | .write n e => n = 255 ∧ Bank.holdsKey 255 e [(0, .lane)] = true ∧ State.reset.fcl.candidate.holdsKey 255 e = false
       | _ => False) :=
  ⟨fun _ => ready_of _ rfl rfl rfl, by decide, by decide, by decide, by decide, by decide, by decide, ⟨rfl, by decide, by decide⟩⟩

/-- The candidate holds the lane of reset, or nothing; a trial runs, or none. -/
def candidate (b : Bank) (soak : Option Nat) : State := { trialing soak with fcl := { (trialing soak).fcl with candidate := b } }

theorem test_witness_ActivationStartsATrial :
    (∀ b n, Ready (candidate b n)) ∧ [63#8, 27#8] = num2 16155 ∧ [63#8, 27#8, 0#8, 5#8] = num2 16155 ++ num2 5 ∧
      [255#8, 241#8] = num2 65521 ∧ 65520 < 65521 ∧ ¬(5 ≤ (candidate [(0, .lane)] none).settings.soakTime) ∧
      (candidate [(0, .lane)] none).fcl.candidate.check = 16155 ∧ (candidate [(0, .lane)] none).fcl.candidate.hasAgent = true ∧
      (candidate [] none).fcl.candidate.check = 0 ∧ (candidate [] none).fcl.candidate.hasAgent = false ∧ (candidate [] none).fcl.trial = none ∧
      (candidate [] (some 0)).fcl.trial ≠ none :=
  ⟨fun _ _ => ready_of _ rfl rfl rfl, by decide⟩

theorem test_witness_TheEndsOfATrial :
    (∀ n, Ready (trialing n)) ∧ (trialing none).fcl.trial = none ∧
      (∃ tr, (trialing (some 6)).fcl.trial = some tr ∧ (trialing (some 6)).now < tr.activatedAt + tr.soak * 1000000) ∧
      (∃ tr, (trialing (some 5)).fcl.trial = some tr ∧ tr.activatedAt + tr.soak * 1000000 = (trialing (some 5)).now) ∧
      (∃ tr, (trialing (some 0)).fcl.trial = some tr ∧ tr.soak = 0 ∧ tr.activatedAt ≤ (trialing (some 0)).now) ∧
      (let s := { trialing (some 0) with mga := { State.reset.mga with notices := [] } }
       s.noticeEnabled .trialReverted = true ∧ s.mga.destination = none ∧ s.mga.notices.length < 32) :=
  ⟨fun _ => ready_of _ rfl rfl rfl, rfl, ⟨_, rfl, by decide⟩, ⟨_, rfl, by decide⟩, ⟨_, rfl, rfl, by decide⟩, by decide⟩

/-! ### Pair tests -/

/-- A WAITING request for a port, with that port's number plus one as its id. -/
def request (p : Port) : Request := ⟨p.val + 1, p, .insulation, .waitIdle, .uplink, .normal, 0, .waiting⟩

/-- The policy ANY everywhere, the controller suspended or idle with the requests given, and every pair at rest in the controller's view. -/
def listed (st : ControllerState) (rs : List Request) : State :=
  { State.reset with
    ptc :=
      { State.reset.ptc with
        state := st, requests := rs, nextId := if rs = [] then 65535 else 9, view := Row.all ⟨.down, false, .none⟩ }
    mga := { State.reset.mga with subscribers := Row.all { Subscriber.default with policy := .any } } }

theorem sound_listed (rs : List Request) (h : rs = [] ∨ rs = (allPorts.take 8).map request) : (listed .suspended rs).ptc.Sound := by
  rcases h with rfl | rfl <;> constructor <;> decide

theorem test_witness_TestRequestsAreAccepted :
    (∀ st rs, Ready (listed st rs)) ∧ (∀ rs, rs = [] ∨ rs = (allPorts.take 8).map request → (listed .suspended rs).ptc.Sound) ∧
      State.reset.ptc.Sound ∧ (State.reset.sub 0).policy = .idleOnly ∧ TestMode.intrude ≠ .waitIdle ∧
      (listed .suspended ((allPorts.take 8).map request)).ptc.requests.length = 8 ∧
      (listed .suspended ((allPorts.take 7).map request)).ptc.requests.length < 8 ∧
      (∃ r ∈ (listed .suspended ((allPorts.take 7).map request)).ptc.requests, r.port = 0 ∧ r.kind = .insulation) ∧
      (let s := listed .idle []
       16 ≤ (16#8).toNat ∧ (s.sub 0).policy = .any ∧ s.ptc.state = .idle ∧ s.ptc.requests = [] ∧ s.ptc.nextId = 65535 ∧ s.ptc.blocked = false ∧
         s.ptc.shedMark = false ∧ (s.ptc.view.get 0).state = .down ∧ (s.ptc.view.get 0).phase = .none) :=
  ⟨fun _ _ => ready_of _ rfl rfl rfl, sound_listed, by constructor <;> decide, by decide⟩

theorem test_witness_ReportsBringASelection :
    (let s := listed .idle [request 0]
     s.ptc.state = .idle ∧ s.ptc.blocked = false ∧ s.ptc.shedMark = false ∧ s.ptc.requests = request 0 :: [] ∧
       (request 0).status = .waiting ∧ (s.sub 0).policy = .any ∧ ((s.ptc.view.set 15 ⟨.up, false, .none⟩).get 0).state = .down ∧
       (s.ptc.view.get 0).phase = .none) ∧
      (listed .suspended [request 0]).ptc.state ≠ .idle ∧
      (∀ b, (listed .idle [request 0]).reportsOf b = []) ∧
      (let s := { listed .idle [] with mail := [.portReport 0 .up false .none, .measureDone, .granted 1, .measurementItem ⟨1, fvItem⟩] }
       s.reportsOf .linePorts = [.portReport 0 .up false .none, .granted 1] ∧
         s.reportsOf .measurement = [.measureDone, .measurementItem ⟨1, fvItem⟩]) :=
  ⟨by decide, by decide, fun b => by cases b <;> decide, by decide⟩

/-- A request for L0 runs in the state given, with the pending outcome given. -/
def course (st : ControllerState) (o : Option TestOutcome) (suspend : Bool) : State :=
  let s := listed st [{ request 0 with status := .running }]
  { s with ptc := { s.ptc with course := some ⟨o, none, [], false⟩, suspendPending := suspend } }

theorem test_witness_TheCourseOfARequest :
    ∀ st ∈ [ControllerState.claim, .transferOut, .measure, .transferBack], ∀ o ∈ [none, some TestOutcome.aborted],
      let s := course st o false
      s.ptc.running = some { request 0 with status := .running } ∧ s.ptc.course = some ⟨o, none, [], false⟩ ∧ s.ptc.state = st ∧
        (request 0).id ≠ 65535 ∧ (listed .idle []).ptc.course = none ∧ s.reportsOf .linePorts = [] ∧ s.reportsOf .measurement = [] := by
  decide

/-- R102: GRANTED, sent after a report of the port, is not taken before it, and an item not before the one that was sent ahead of it. -/
theorem test_reports_in_order :
    let sent (ms : List Instr) (st : ControllerState) : State := { course st none false with mail := ms }
    let s := sent [.portReport 0 .test false .none, .granted 1] .claim
    let other := { fvItem with name := .fvAc }
    let items := sent [.measurementItem ⟨1, fvItem⟩, .measurementItem ⟨1, other⟩] .measure
    after (.granted 1) s = s ∧ (after (.granted 1) (after (.portReport 0 .test false .none) s)).ptc.state = .transferOut ∧
      after (.measurementItem ⟨1, other⟩) items = items ∧
      ((after (.measurementItem ⟨1, other⟩) (after (.measurementItem ⟨1, fvItem⟩) items)).ptc.course).map (·.items) = some [fvItem, other] := by
  decide

/-- R115: an item of another request joins no list, and a MEASURE_DONE still on its way when the next request enters MEASURE is dropped. -/
theorem test_late_answers :
    (after (.measurementItem ⟨2, fvItem⟩) (course .claim none false)).ptc.course = some ⟨none, none, [], false⟩ ∧
      (after (.measurementItem ⟨1, fvItem⟩) (course .measure none false)).ptc.course = some ⟨none, none, [fvItem], false⟩ ∧
      (after .outDone { course .transferOut none false with mail := [.measureDone, .outDone] }).mail =
        [.measureStart ⟨1, 0⟩ .insulation none] := by decide

theorem test_witness_RunningRequestsEnd :
    (∀ b, ∀ st ∈ [ControllerState.claim, .measure, .transferBack], ∀ o ∈ [none, some TestOutcome.fail],
      let s := course st o b
      s.ptc.running = some { request 0 with status := .running } ∧ s.ptc.course = some ⟨o, none, [], false⟩ ∧ s.ptc.suspendPending = b ∧
        s.ptc.state = st ∧ (∀ x ∈ s.ptc.requests, x.id = (request 0).id) ∧ s.reportsOf .linePorts = []) ∧
      let s : State := { course .claim none false with ptc := { (course .claim none false).ptc with view := Row.all ⟨.down, false, .gap⟩ } }
      s.ptc.requests = [{ request 0 with status := .running }] ∧ (s.sub 0).policy = .any ∧ (s.ptc.view.get 0).phase ≠ .none := by decide

theorem test_witness_EarlyEndings :
    (∀ st o b, Ready (course st o b)) ∧
      ∀ st ∈ [ControllerState.measure, .transferBack], ∀ o ∈ [none, some TestOutcome.pass, some .fail, some .relayFault],
        let s := course st o false
        s.ptc.running = some { request 0 with status := .running } ∧ s.ptc.course = some ⟨o, none, [], false⟩ ∧ s.ptc.state = st ∧
          s.ptc.record 1 = some { request 0 with status := .running } ∧ (request 0).id = 1 ∧ (request 0).port ≠ 15 ∧
            s.reportsOf .linePorts = [] :=
  ⟨fun _ _ _ => ready_of _ rfl rfl rfl, by decide⟩

theorem test_witness_WaitingRequestsEnd :
    (∀ st rs, Ready (listed st rs)) ∧ (listed .idle [request 0]).ptc.record 1 = some (request 0) ∧ (request 0).status = .waiting ∧
      (listed .idle [request 0]).ptc.record 65535 = none ∧
      (course .measure none false).ptc.record 1 = some { request 0 with status := .running } :=
  ⟨fun _ _ => ready_of _ rfl rfl rfl, by decide⟩

/-- The bus blocked by the test relay of L15, which reads as given. -/
def blockedBus (closed : Bool) : State :=
  let s := withPort 15 { held with testClosedSense := closed }
  { s with ptc := { s.ptc with blocked := true, blocking := s.ptc.blocking.set 15 true } }

theorem test_witness_SuspendResumeAndClear :
    (∀ st rs, Ready (listed st rs)) ∧ (∀ b, Ready (blockedBus b)) ∧ (listed .idle []).ptc.state ≠ .suspended ∧
      (listed .suspended []).ptc.state = .suspended ∧ (listed .suspended []).ptc.requests = [] ∧ State.reset.ptc.blocked = false ∧
      (blockedBus true).ptc.blocked = true ∧ (∃ p, ((blockedBus true).port p).testClosedSense = true) ∧
      (∀ p, ((blockedBus false).port p).testClosedSense = false) :=
  ⟨fun _ _ => ready_of _ rfl rfl rfl, fun _ => ready_of _ rfl rfl rfl, by decide⟩

/-! ### Measurement -/

/-- A run on pair 0 in a phase of a step, with `n` samples taken. -/
def run (kind : TestKind) (step : Nat) (phase : MeasPhase) (n : Nat) (stopped : Bool := false) : RunRecord :=
  ⟨1, 0, kind, some 105, step, phase, 1000, .default, stopped, { Accumulator.zero with taken := n }, ⟨false, false, false⟩, 212, MeasConfig.default.thresholds 212,
    .start⟩

/-- The Measurement Unit in that run, its source on or off. -/
def measuring (st : RunState) (source : Option SourceSetting) : State :=
  { State.reset with msu := { State.reset.msu with run := st, source := source } }

theorem test_witness_RunsStartStopAndEnd :
    State.reset.msu.run = .idle ∧ (measuring (.discharging 5) none).msu.run = .discharging 5 ∧
      (let r := run .full 0 .acquire 0
       (measuring (.running r) none).msu.run = .running r ∧ r.phase ≠ .gap) ∧
      (let r := run .full 0 .gap 0 true
       r.phase = .gap ∧ r.stopped = true) ∧
      (let r := run .full 0 .gap 0
       r.stopped = false ∧ (TestKind.steps r.kind)[r.step + 1]? = some (.fv, .rg)) ∧
      (let r := run .signature 0 .gap 0
       r.stopped = false ∧ (TestKind.steps r.kind)[r.step + 1]? = none) ∧
      State.reset.msu.kept = none ∧ (∀ e, ({ measuring (.discharging e) none with
        msu := { State.reset.msu with run := .discharging e, kept := some ⟨1, 15, .full, none⟩ } } : State).msu.kept = some ⟨1, 15, .full, none⟩) :=
  ⟨rfl, rfl, by decide, by decide, by decide, by decide, rfl, fun _ => rfl⟩

theorem test_witness_SamplesAreTaken :
    (let r := run .full 0 .acquire 0
     (TestKind.steps r.kind)[r.step]? = some (.fv, .tg) ∧ r.phase = .acquire) ∧
      (let r := run .signature 0 .settle 0
       (TestKind.steps r.kind)[r.step]? = some (.sig, .tr) ∧ r.phase = .settle) ∧
      (let r := run .full 0 .convert 79
       (measuring (.running r) none).msu.run = .running r ∧ (TestKind.steps r.kind)[r.step]? = some (.fv, .tg) ∧ r.acc.taken = 79 ∧
         (measuring (.running r) none).msu.config.hazardCode ≤ (600#12).toInt.natAbs ∧
         ¬(measuring (.running r) none).msu.config.hazardCode ≤ (599#12).toInt.natAbs) ∧
      (let r := run .insulation 0 .convert 31
       (TestKind.steps r.kind)[r.step]? = some (.ins, .tg) ∧ r.acc.taken = 31 ∧ (measuring (.running r) (some ⟨20, .positive⟩)).msu.source ≠ none) ∧
      (run .signature 0 .guard 3).acc.taken = 3 ∧ (run .signature 0 .guard 2).acc.taken + 1 < 4 ∧
      (let s := measuring (.running (run .signature 0 .base 799)) (some ⟨19, .positive⟩)
       (run .signature 0 .base 799).acc.taken + 1 = 20 * s.msu.config.baseWindow ∧ s.msu.source ≠ none) ∧
      (TestKind.steps .full)[2 + 1]? = some (.ins, .tg) ∧ (TestKind.steps .foreignVoltage)[2 + 1]? = none ∧
      (measuring (.running (run .full 2 .convert 79)) none).msu.source = none := by decide

/-- R124: the last FV sample of a step is followed by the next step's acquisition with no gap, and by MEASURE_DONE after the last step. -/
theorem test_fv_goes_on :
    let t (kind : TestKind) := after (.conversionSample 0#12 false) (measuring (.running (run kind 2 .convert 79)) none)
    (t .full).msu.path = some .tg ∧ (t .full).msu.source = some ⟨20, .positive⟩ ∧ (t .full).mail.length = 2 ∧
      (match (t .full).msu.run with | .running r => some (r.step, r.phase, r.due) | _ => none) = some (3, .acquire, 101000) ∧
      (t .foreignVoltage).msu.run = .idle ∧ (t .foreignVoltage).mail.drop 2 = [.measureDone] := by decide

theorem test_witness_ListenSamplesAreDecoded :
    (let r := run .signature 0 .listen 1999
     let s := measuring (.running r) (some ⟨19, .positive⟩)
     s.msu.run = .running r ∧ r.phase = .listen ∧ s.msu.source ≠ none ∧ r.acc.taken < 20 * s.msu.config.listenWindow ∧
       (r.decoder.sample r.thresholds s.msu.config.deglitch 700).stage ≠ .ended ∧
       (({ r.decoder with pulseStart := some 0, samples := 64, level := .one } : Decoder).sample r.thresholds s.msu.config.deglitch 700).stage =
         .ended) ∧
      (([true, false] : List Bool).length ≤ 9 ∧ Decoder.start.bits.length < 8) ∧
      (Decoder.start.stage = .waiting ∧ ({ Decoder.start with stage := .inFrame } : Decoder).stage = .inFrame ∧ Decoder.start.level = .zero ∧
        Decoder.start.rise < 2) ∧
      ((Decoder.start.pulse 65).endReason = some .stuck ∧ (Decoder.start.pulse 64).stage = .inFrame) ∧
      (let gap : Decoder := { Decoder.start with stage := .inFrame, gapStart := some 10, samples := 50 }
       (gap.sample (MeasConfig.default.thresholds 212) 6 0).endReason = some .gap ∧
         ({ gap with samples := 49 }.sample (MeasConfig.default.thresholds 212) 6 0).stage = .inFrame) ∧
      (let high : Decoder := { Decoder.start with level := .two, drop := 5, pulseStart := some 3 }
       (high.sample (MeasConfig.default.thresholds 212) 6 500).level = .one ∧
         ({ high with dropBelowFall1 := true }.sample (MeasConfig.default.thresholds 212) 6 300).level = .zero ∧
         ({ high with level := .one, up := 5 }.sample (MeasConfig.default.thresholds 212) 6 1300).level = .two) := by decide

/-! ### Line watch, cabinet and power -/

/-- The sweep timer runs and L0 is watched, with the counts given; its port stands as given. -/
def watching (r : PortRecord) (w : WatchRecord) : State :=
  { withPort 0 r with lwu := ⟨true, some ⟨100, 100000⟩, State.reset.lwu.records.set 0 w⟩ }

/-- A sweep that finds `v` on TG of pair 0 and wake energy as given. -/
def found (v : Int) (energy : Bool) : Row 16 PairSample := (Row.all ⟨0, 0, 0, false⟩ : Row 16 PairSample).set 0 ⟨v, 0, 0, energy⟩

def watched : WatchRecord := { WatchRecord.afterReset with fvWatched := true }

theorem test_witness_SweepsJudgeThePairs :
    State.reset.lwu.timer = none ∧ (watching inUp watched).lwu.timer = some ⟨100, 100000⟩ ∧
      ((watching inUp { watched with warnCount := 2 }).lwu.records.get 0).fvWatched = true ∧ (((found 300 false).get 0).wakeEnergy = false) ∧
      10 * (watching inUp watched).settings.warnLevel.volts ≤ ((found 300 false).get 0).tipGround.natAbs ∧
      ((watching inUp { watched with warnCount := 2, hazardCount := 2 }).lwu.records.get 0).hazardDeclared = false ∧
      (let s := watching { dozing with causes := ⟨true, false, true⟩ } { watched with wakeWatched := true, wakeSeen := true }
       (s.lwu.records.get 0).wakeWatched = true ∧ (s.lwu.records.get 0).wakeSeen = true ∧ ((found 0 true).get 0).wakeEnergy = true ∧
         (s.port 0).state = .doze ∧ (s.port 0).causes.shed = true) ∧
      (watching inUp watched).mga.faults.length ≤ 8 := by decide

/-- Contact K0 stands as given. -/
def contact (r : ContactRecord) : State :=
  { State.reset with csu := { State.reset.csu with contacts := State.reset.csu.contacts.set 0 r, craftHold := some 5 } }

theorem test_witness_ContactsAreDebounced :
    (let s := contact { ContactRecord.afterReset with lastSample := some true }
     (s.csu.contacts.get 0).lastSample = some ((1#8).getLsbD 0 != (s.csu.contacts.get 0).inverted) ∧ (s.csu.contacts.get 0).debounced = none) ∧
      (let s := contact ⟨true, false, true, true, some true, some false, some false⟩
       (s.csu.contacts.get 0).lastSample = some ((1#8).getLsbD 0 != (s.csu.contacts.get 0).inverted) ∧
         (s.csu.contacts.get 0).debounced = some false ∧ (s.csu.contacts.get 0).noticeEnable = true ∧ (s.csu.contacts.get 0).craftWake = true ∧
         s.noticeEnabled .contactChange = true ∧ s.mga.destination = none ∧ s.mga.notices.length ≤ 24) ∧
      State.reset.csu.craftHold = none ∧ (contact .afterReset).csu.craftHold = some 5 ∧
      (let s : State :=
         { receiving .craft (some { fresh with header := some (header 0#12 0x88B5#16), cells := [] }) 0 0 with
           csu := { State.reset.csu with stage := some .conserve, craftHold := some 5 } }
       s.csu.craftPowered = true ∧ (s.csu.stage != some .conserve || s.doorOpen) = false ∧ s.reception .craft ≠ none) := by decide

/-- The thermal latch set, at the temperature given. -/
def latched (v : Int) : State :=
  { withPort 0 { dozing with causes := ⟨false, true, false⟩ } with
    csu := { State.reset.csu with thermalLatch := true, temperature := some v, shutdownCondition := true, warnCondition := true } }

theorem latched_sound (v : Int) (p : Port) : ((latched v).port p).Sound := by
  by_cases h : p = 0
  · subst h
    have : (latched v).port 0 = { dozing with causes := ⟨false, true, false⟩ } := rfl
    rw [this]; constructor <;> decide
  · have : (latched v).port p = .afterReset := by
      have h' : ¬(0 = p.val) := fun e => h (Fin.ext e.symm)
      simp [latched, withPort, State.port, State.reset, Row.get, Row.set, Row.all, h']
    rw [this]; exact sound_afterReset

theorem test_witness_TemperatureAndTheLatch :
    (∀ v, Ready (latched v)) ∧ (∀ v p, ((latched v).port p).Sound) ∧ State.reset.csu.thermalLatch = false ∧ (latched 80).csu.thermalLatch = true ∧
      (∃ v, (latched 81).csu.temperature = some v ∧ (latched 81).settings.shutdownThreshold - 5 < v) ∧
      (¬∃ v, (latched 80).csu.temperature = some v ∧ (latched 80).settings.shutdownThreshold - 5 < v) ∧
      (latched 80).csu.shutdownCondition = true ∧ State.reset.csu.warnCondition = false ∧ State.reset.mga.faults.length ≤ 22 ∧
      ((withPort 0 inUp).port 0).state = .up ∧ ((withPort 0 lent).port 0).returnTarget = some .down :=
  ⟨fun _ => ready_of _ rfl rfl rfl, latched_sound, rfl, rfl, ⟨_, rfl, by decide⟩, by rintro ⟨v, ⟨⟩, h⟩; revert h; decide, by decide⟩

theorem test_witness_SupplySamplesDecideTheStage :
    (economy .economy).csu.stage = some .economy ∧ State.reset.csu.stage ≠ some .conserve ∧ State.reset.csu.craftPowered = true ∧
      (economy .conserve).noticeEnabled .stageChange = true ∧ (economy .conserve).mga.destination = none ∧
      (economy .conserve).mga.notices.length ≤ 30 ∧ (economy .conserve).mga.faults.length < 24 := by decide

theorem test_witness_EvaluationAdmitsWhatFits : settling.ParametersLegal ∧ (withPort 0 inUp).ParametersLegal ∧
    (withPort 0 inUp).pbu.sent (.port 0) ≠ some .shed ∧ ((withPort 0 inUp).port 0).state = .up :=
  ⟨test_witness_ParametersStayLegal.1,
    reset_legal _ rfl (by intro p; simp [withPort, State.sub, State.reset, Agent.afterPowerOn, Row.get, Row.all]) rfl, by decide⟩

/-! ### The management agent -/

/-- An agent frame for cabinet 0 with sequence number 7 and one directive, SHARE_READ, in a store. -/
def shareReadFrame (o : Origin) (version count : Octet) : AgentFrame :=
  ⟨o, 1#48, 4000, 0x88B5#16, [version, 1#8, 0#8, 0#8, 0#8, 7#8, count, 0#8, 0#8, 0#8, 0x30#8, 0#8, 0#8]⟩

def stored (o : Origin) (f : AgentFrame) : State :=
  match o with
  | .uplink => { State.reset with mga := { State.reset.mga with uplinkStore := some f } }
  | .craft => { State.reset with mga := { State.reset.mga with craftStore := some f } }

theorem test_witness_FramesAreTakenInAndAnswered :
    (∀ o, let f := shareReadFrame o 1#8 1#8
      let s := stored o f
      s.mga.exec = .idle ∧ s.mga.resetWait = .none ∧ f.origin = o ∧ f.ethertype = 0x88B5#16 ∧
        ((o = .uplink ∧ s.mga.uplinkStore = some f ∧ s.mga.craftStore = none) ∨ (o = .craft ∧ s.mga.craftStore = some f ∧ s.mga.uplinkStore = none)) ∧
        f.payload =
          [1#8, 1#8] ++ num2 s.mga.cabinet.toNat ++ num2 7 ++ [octet 1, 0#8, 0#8, 0#8] ++
            ([(⟨0x30#8, []⟩ : Directive)].flatMap fun x => x.code :: num2 x.params.length ++ x.params) ++ []) ∧
      (shareReadFrame .uplink 2#8 1#8).payload[0]? ≠ some 1#8 ∧ (shareReadFrame .uplink 1#8 0#8).payload[6]? = some 0#8 ∧
      (∃ n, (shareReadFrame .uplink 1#8 17#8).payload[6]? = some n ∧ 16 < n.toNat) ∧
      (∀ o b, (reporting (aReport o b none) 51).mga.exec = .reporting (aReport o b none) ∧
        ((aReport o b none).length + 127) / 128 = 64 - (reporting (aReport o b none) 51).cbm.reservedHeld ∧
        64 - (reporting (aReport o b none) 52).cbm.reservedHeld < ((aReport o b none).length + 127) / 128) ∧
      (waiting .over).mga.resetWait ≠ .none ∧ (aReport .uplink true (some 0)).offeredAt = some 0 ∧
      ((shareReadFrame .uplink 1#8 2#8).payload =
          [1#8, 1#8, 0#8, 0#8, 0#8, 7#8, octet 2, 0#8, 0#8, 0#8] ++
            ([(⟨0x30#8, []⟩ : Directive)].flatMap fun x => x.code :: num2 x.params.length ++ x.params) ++ []) ∧
      (shareReadFrame .uplink 1#8 1#8).payload =
          [1#8, 1#8, 0#8, 0#8, 0#8, 7#8, octet 1, 0#8, 0#8, 0#8] ++
            (([] : List Directive).flatMap fun x => x.code :: num2 x.params.length ++ x.params) ++ 0x30#8 :: 0#8 :: 0#8 :: [] :=
  ⟨fun o => by cases o <;> decide, by decide, by decide, ⟨_, rfl, by decide⟩, fun o b => ⟨rfl, by cases o <;> cases b <;> decide⟩, by decide, rfl,
    by decide, by decide⟩

/-- The frame in execution at its `index`-th of the directives SHARE_READ, BUDGET_READ, with an evaluation on its way or nothing. -/
def midFrame (index : Nat) (mail : List Instr) : State :=
  { State.reset with
    mail := mail
    mga := { State.reset.mga with exec := .executing ⟨shareReadFrame .uplink 1#8 2#8, 7, [⟨0x30#8, []⟩, ⟨0x64#8, []⟩], index, [], 0⟩ } }

/-- A frame goes on directive by directive and its report is built once all is quiet; while an evaluation is on its way nothing happens. -/
theorem test_frame_goes_on :
    let e (i : Nat) : Execution := ⟨shareReadFrame .uplink 1#8 2#8, 7, [⟨0x30#8, []⟩, ⟨0x64#8, []⟩], i, [], 0⟩
    (midFrame 1 []).mga.exec = .executing (e 1) ∧ (midFrame 1 []).quiet = true ∧ (midFrame 1 [.evaluation]).quiet = false ∧
      (e 0).directives[0]? = some ⟨0x30#8, []⟩ ∧ (e 1).directives[(e 1).index + 1]? = none ∧ (e 2).directives.length ≤ (e 2).index ∧
      (after (.shareRead .uplink []) (midFrame 0 [])).mail = [.budgetRead .uplink []] ∧
      (after (.budgetRead .uplink []) (midFrame 1 [])).mail = [.reportPlacement] ∧
      (after (.budgetRead .uplink []) (midFrame 1 [.evaluation])).mga.lastEntry = none :=
  ⟨rfl, by decide, by decide, rfl, rfl, by decide, by decide +kernel, by decide +kernel, by decide +kernel⟩

theorem test_witness_ReadsAnswerAndChangeNothing :
    Ready State.reset ∧ 16 ≤ (16#8).toNat ∧ 1 < (2#8).toNat ∧ 16 < (17#8).toNat ∧ 256 < (255#8).toNat + (2#8).toNat ∧ 4 < (5#8).toNat ∧
      (course .measure none false).ptc.requests.map (·.status) = [.running] ∧ (255#8).toNat + (1#8).toNat ≤ 256 ∧ (16#8).toNat ≤ 16 ∧ (1#8).toNat ≤ 1 ∧ num2 65535 = [255#8, 255#8] ∧
      counterGroupOf 0 ≠ none ∧ (after (.lock .uplink []) State.reset).mga.locked = true :=
  ⟨ready_of _ rfl rfl rfl, by decide⟩

/-- R188, R192: SET_READ sends the craft write policy and the nine enables first. -/
theorem test_set_read_order :
    (Settings.octets { Settings.default with craftPolicy := .never }).take 14 =
      [0#8, 1#8, 1#8, 1#8, 1#8, 1#8, 1#8, 1#8, 1#8, 1#8, 0#8, 0#8, 0#8, 10#8] := by decide

/-- Parameters outside their lists are BAD_PARAM (R23, R41, R100, R120, R187, R189). -/
theorem test_bad_params :
    let why (c : Instr) := (after c State.reset).mga.lastEntry.map (·.outcome)
    ∀ c ∈ [Instr.portEnable .uplink [16#8], .portWake .uplink [255#8], .portStatus .craft [16#8], .subRead .craft [16#8],
      .testRequest .uplink [16#8, 0#8, 0#8, 0#8], .testRequest .uplink [0#8, 4#8, 0#8, 0#8], .testRequest .uplink [0#8, 0#8, 2#8, 0#8],
      .testRequest .uplink [0#8, 0#8, 0#8, 2#8], .ftRead .craft [2#8, 0#8, 0#8], .ftRead .craft [0#8, 0#8, 17#8],
      .ftRead .craft [0#8, 255#8, 2#8], .testResult .craft [0#8, 0#8], .countersRead .uplink [5#8, 0#8], .countersRead .uplink [0#8, 2#8],
      .subWrite .uplink (16#8 :: 1#8 :: int4 0), .contactConfig .uplink (8#8 :: 1#8 :: int4 1)], why c = some .badParam := by decide

theorem test_witness_FieldWritesTakeEffect :
    (∀ st rs, Ready (listed st rs)) ∧ 16 ≤ (16#8).toNat ∧ 8 ≤ (8#8).toNat ∧ Settings.write 1 1 .default = none ∧ (∃ g, Settings.write 1 2 .default = some g ∧ g.ordered = true) ∧
      Subscriber.write 4 0 .default ≠ Subscriber.write 4 1 .default ∧ Subscriber.write 255 0 .default = none ∧
      (∃ u, Subscriber.write 11 3600 .default = some u ∧ u.idleDoze ≠ Subscriber.default.idleDoze) ∧
      MeasConfig.write 1 299 .default = none ∧ (∃ c, MeasConfig.write 2 5 .default = some c ∧ c.consistent = true) ∧
      (∃ c, MeasConfig.write 1 300 .default = some c ∧ c.consistent = false) ∧
      ContactRecord.write 1 2 .afterReset = none ∧ (∃ c, ContactRecord.write 1 1 .afterReset = some c) ∧
      (Subscriber.write 12 0 .default).map (·.wake) = some false ∧ (Subscriber.write 13 0 .default).map (·.watch) = some false ∧
      (let s := listed .idle [request 0]
       (s.ptc.state = .idle ∧ s.ptc.blocked = false ∧ s.ptc.shedMark = false) ∧ s.ptc.requests = request 0 :: [] ∧
         (request 0).status = .waiting ∧ (Subscriber.write 15 0 (s.sub 0)).map (·.policy) = some .noTest ∧
         (Subscriber.write 15 2 (s.sub 0)).map (·.policy) = some .any ∧ (s.ptc.view.get 0).phase = .none) ∧
      (let w : WatchRecord := { watched with warnCount := 3, warnDeclared := true }
       ((watching inUp w).lwu.records.get 0).fvWatched = true ∧ ((watching inUp w).lwu.records.get 0).warnDeclared = true) :=
  ⟨fun _ _ => ready_of _ rfl rfl rfl, by decide, by decide, by decide, ⟨_, rfl, by decide⟩, by decide, by decide, ⟨_, rfl, by decide⟩, by decide,
    ⟨_, rfl, by decide⟩, ⟨_, rfl, by decide⟩, by decide, ⟨_, rfl⟩, by decide⟩

/-- R146, R151: watch turned off ends the pair's watch, stops the timer, and reports the level that goes; R104: NO_TEST ends a waiting request, and
any other SUB_WRITE brings a selection. -/
theorem test_sub_write_brings :
    let w : WatchRecord := { watched with warnCount := 3, warnDeclared := true, lastReported := .warn, lastSample := some ⟨true, false, false⟩ }
    let off := after (.subWrite .uplink (0#8 :: 13#8 :: int4 0)) (watching inUp w)
    let ptc (field : Octet) (v : Int) := (after (.subWrite .uplink (0#8 :: field :: int4 v)) (listed .idle [request 0])).ptc
    off.lwu.records.get 0 = .afterReset ∧ off.lwu.timer = none ∧ off.mga.notices.length = 2 ∧
      (ptc 15#8 0).requests = [] ∧ (ptc 15#8 0).log.map (·.cause) = [some .policy] ∧ (ptc 15#8 2).state = .claim ∧ (ptc 4#8 2).state = .claim := by
  decide +kernel

/-- SET_WRITE of the wait limit (129) and of the craft hold time (194): they are settings, and a lower limit leaves no deadline behind. -/
theorem test_wait_limit_lowered :
    let s : State := { listed .suspended [request 0] with now := 10000000 }
    let t := after (.setWrite .uplink (octet 129 :: int4 10)) s
    t.settings.testWaitLimit = 10 ∧ 10 < s.settings.testWaitLimit ∧ t.ptc.requests = [] ∧ t.ptc.log.map (·.outcome) = [.expired] ∧
      (Settings.write 194 1 s.settings).isSome = true := by decide

/-- The frame in execution holds one directive, RESET, from the element manager. -/
def executing : State :=
  { State.reset with
    mga := { State.reset.mga with exec := .executing ⟨shareReadFrame .uplink 1#8 1#8, 7, [⟨0x79#8, []⟩], 0, [], 0⟩ } }

/-- The notice destination known, the link up, `n` NOTICE_TEST items waiting. -/
def noticing (n : Nat) (paused : Bool) : State :=
  { State.reset with
    scu := { State.reset.scu with linkUp := true }
    txs := { State.reset.txs with paused := paused }
    mga := { State.reset.mga with destination := some ⟨1#48, 4000⟩, notices := List.replicate n ⟨.noticeTest, 0⟩ } }

theorem test_witness_RefusalsAndTheLock :
    Ready State.reset ∧ (∃ e : Execution, executing.mga.exec = .executing e ∧ e.frame.origin = .uplink ∧ e.directives[e.index]? = some ⟨0x79#8, []⟩) ∧
      executing.comesUp .uplink 0x79#8 [] ∧ State.reset.craftPermitted = false ∧ State.reset.noticeEnabled .noticeTest = true ∧
      (State.reset.comesUp .craft 0x76#8 []) ∧ (after (.lock .uplink []) State.reset).mga.locked = true ∧ executing.quiet = true ∧
      { executing with mail := [.evaluation] }.quiet = false ∧ (∃ e, (midFrame 1 [.evaluation]).mga.exec = .executing e ∧ 0 < e.index) ∧
      (Ready (noticing 31 false) ∧ (noticing 31 false).mga.destination = some ⟨1#48, 4000⟩ ∧ (noticing 31 false).scu.linkUp = true ∧
        (noticing 31 false).cbm.aq = [] ∧ (noticing 31 false).uplinkMayStart = true ∧ (noticing 32 true).uplinkMayStart = false ∧
        State.reset.scu.linkUp = false) :=
  ⟨ready_of _ rfl rfl rfl, ⟨_, rfl, rfl, rfl⟩, by show State.turn _ _ _ ≠ _; decide, by decide, by decide,
    comes_alone _ _ _ _ rfl rfl, by decide, by decide, by decide, ⟨_, rfl, by decide⟩, ready_of _ rfl rfl rfl, by decide⟩

/-- R186, R193: NOTICE_TEST behind 31 and behind 32 waiting items: 16 items leave in a frame of 10 + 16 × 6 octets of payload, with ALERT set; with the
uplink paused the frame waits in AQ. -/
theorem test_notice_frame :
    let t (n : Nat) (paused : Bool) := after (.noticeTest .uplink []) (noticing n paused)
    let sent := (t 31 false).txs.uplinkTx.map (·.desc)
    (t 31 false).mga.notices.length = 16 ∧ (t 31 false).mga.lostMark = false ∧ (t 31 false).cbm.aq = [] ∧ (t 31 false).cbm.reservedHeld = 1 ∧
      (sent.map fun d => (d.length, d.image.payload.length, d.image.payload.take 10)) =
        some (128, 106, [1#8, 3#8, 0#8, 0#8, 0#8, 0#8, 16#8, 0#8, 1#8, 0#8]) ∧
      (t 32 true).mga.notices.length = 16 ∧ (t 32 true).mga.lostMark = true ∧ (t 32 true).cbm.aq.map (·.agentKind) = [some .notice] := by
  decide

end Sys2Proof.Tests
end

section
/-! SUPPORT. Rounding: what is lost when a total is handed out in whole parts. -/

namespace Sys2Proof

variable {α : Type} (l : List α) (g : α → Nat) (W : Nat)

theorem sum_div_add_sum_mod :
    W * (l.map fun a => g a / W).sum + (l.map fun a => g a % W).sum = (l.map g).sum := by
  rw [← List.sum_map_mul_left, ← List.sum_map_add]
  simp only [Nat.div_add_mod]

/-- Only the parts that do not divide evenly leave a remainder, each of at most `W - 1`. -/
theorem sum_mod_le (hW : 0 < W) :
    (l.map fun a => g a % W).sum ≤ (l.filter fun a => g a % W != 0).length * (W - 1) := by
  induction l with
  | nil => simp
  | cons a l ih =>
    have hmod : g a % W ≤ W - 1 := by have := Nat.mod_lt (g a) hW; omega
    by_cases h : g a % W = 0
    · simpa [h] using ih
    · simp [h, Nat.succ_mul]
      omega

variable {l g W} {r : Nat}

theorem sum_div_le (h : (l.map g).sum = W * r) : (l.map fun a => g a / W).sum ≤ r := by
  rcases Nat.eq_zero_or_pos W with rfl | hW
  · simp
  · have hsplit := sum_div_add_sum_mod l g W
    exact Nat.le_of_mul_le_mul_left (by omega) hW

/-- The loss is less than the number of parts that were rounded, or nothing when none was. -/
theorem rounding_loss_le (hW : 0 < W) (h : (l.map g).sum = W * r) :
    r - (l.map fun a => g a / W).sum ≤ (l.filter fun a => g a % W != 0).length - 1 := by
  have hsplit := sum_div_add_sum_mod l g W
  have hmods := sum_mod_le l g W hW
  set q := (l.map fun a => g a / W).sum
  set m := (l.filter fun a => g a % W != 0).length
  have hloss : W * (r - q) ≤ m * (W - 1) := by rw [Nat.mul_sub]; omega
  rcases Nat.eq_zero_or_pos m with hm | hm
  · rw [hm, Nat.zero_mul, Nat.le_zero, Nat.mul_eq_zero] at hloss
    omega
  · have hlt : W * (r - q) < W * m := hloss.trans_lt (by rw [Nat.mul_comm W m]; gcongr; omega)
    have := Nat.lt_of_mul_lt_mul_left hlt
    omega

theorem sum_map_ite (p : α → Bool) (f g : α → Nat) (l : List α) :
    (l.map fun a => if p a then f a else g a).sum = ((l.filter p).map f).sum + ((l.filter fun a => !p a).map g).sum := by
  induction l with
  | nil => rfl
  | cons a l ih => cases h : p a <;> simp [h, ih] <;> omega

end Sys2Proof
end

section
/-! SUPPORT. What a computation reads from a snapshot, and the entry it gives each port (R70 to R74). -/

namespace Sys2Proof.Machine

variable {n : Snapshot} {c d : Claim} {p : Port}

/-! ## Stages 0 and 1 -/

theorem Snapshot.usable_eq_toNat (n : Snapshot) :
    ((max 0 ((n.cUp : Int) - n.reserve)) * n.usablePercent / 100).toNat = n.usable := by
  have hsub : max 0 ((n.cUp : Int) - n.reserve) = ((n.cUp - n.reserve : Nat) : Int) := by omega
  rw [hsub]
  rfl

theorem Snapshot.usable_le (hpercent : n.usablePercent ≤ 100) : n.usable ≤ n.cUp - n.reserve :=
  Nat.div_le_of_le_mul (by rw [Nat.mul_comm 100]; gcongr)

theorem Claim.floor_le_ceiling (c : Claim) : c.floor ≤ c.ceiling := min_le_right _ _

theorem Claim.ceiling_le_peak (c : Claim) : c.ceiling ≤ c.peak := min_le_left _ _

theorem Snapshot.overcommitted_iff : n.overcommitted = true ↔ n.usable ≤ n.floors ∧ 0 < n.floors := by
  simp [Snapshot.overcommitted]

theorem Snapshot.floors_le_usable (h : n.overcommitted = false) : n.floors ≤ n.usable := by
  have := mt n.overcommitted_iff.mpr (by simp [h])
  omega

/-- There are sixteen ports, and a sound snapshot names each at most once. -/
theorem Snapshot.Sound.length_le (hn : n.Sound) : n.claims.length ≤ 16 := by
  simpa using hn.ports.length_le_card

theorem Snapshot.Sound.floors_le {m : Nat} (hn : n.Sound) (hpeak : ∀ c ∈ n.claims, c.peak ≤ m) : n.floors ≤ 16 * m :=
  calc n.floors ≤ n.claims.length * m := by
        simpa [Snapshot.floors] using List.sum_le_card_nsmul (n.claims.map Claim.floor) m fun x hx => by
          obtain ⟨c, hc, rfl⟩ := List.mem_map.mp hx
          exact (c.floor_le_ceiling.trans c.ceiling_le_peak).trans (hpeak c hc)
    _ ≤ 16 * m := by gcongr; exact hn.length_le

theorem Snapshot.Sound.eq_of_port (hn : n.Sound) (hc : c ∈ n.claims) (hd : d ∈ n.claims) (h : c.port = d.port) : c = d :=
  List.inj_on_of_nodup_map hn.ports hc hd h

/-! ## Entries by port -/

/-- In a list of results by port, the result of one claim among claims of different ports. -/
theorem find?_port {β : Type} {cs : List Claim} (g : Claim → β) (hcs : (cs.map (·.port)).Nodup) (hc : c ∈ cs) :
    (cs.map fun c => (c.port, g c)).find? (fun e => e.1 == c.port) = some (c.port, g c) := by
  induction cs with
  | nil => simp at hc
  | cons d cs ih =>
    obtain ⟨hd, hcs⟩ := List.nodup_cons.mp hcs
    rcases List.mem_cons.mp hc with rfl | hc
    · simp
    · have hne : d.port ≠ c.port := fun h => hd (List.mem_map.mpr ⟨c, hc, h.symm⟩)
      simpa [hne] using ih hcs hc

theorem find?_port_absent {β : Type} {cs : List Claim} (g : Claim → β) (h : ∀ c ∈ cs, c.port ≠ p) :
    (cs.map fun c => (c.port, g c)).find? (fun e => e.1 == p) = none := by
  simpa [List.find?_eq_none] using h

theorem Snapshot.compute_of_overcommitted (h : n.overcommitted = true) : n.compute = n.scaled := if_pos h

theorem Snapshot.compute_of_fits (h : n.overcommitted = false) : n.compute = n.filled := by
  simp [Snapshot.compute, h]

theorem Snapshot.outcome_overcommitted_iff (n : Snapshot) : n.compute.outcome = .overcommitted ↔ n.overcommitted = true := by
  cases h : n.overcommitted
  · rw [n.compute_of_fits h]
    simp only [Snapshot.filled]
    split <;> simp
  · simp [n.compute_of_overcommitted h, Snapshot.scaled]

/-- The entry of an eligible port when the floors are scaled (R72, R74). -/
theorem Snapshot.Sound.entryOf_scaled (hn : n.Sound) (h : n.overcommitted = true) (hc : c ∈ n.claims) :
    n.compute.entryOf c.port = ⟨c.floor * n.usable / n.floors, c.floor, c.ceiling, .scaled⟩ := by
  simp only [n.compute_of_overcommitted h, Snapshot.scaled, Shares.entryOf]
  rw [find?_port _ hn.ports hc]

/-- What the water-filling of a computation comes to (R73). -/
def Snapshot.fill (n : Snapshot) : Filled := waterFill 17 n.unsaturated (n.usable - n.floors)

/-- The entry of an eligible port when the floors fit (R73, R74). -/
theorem Snapshot.Sound.entryOf_filled (hn : n.Sound) (h : n.overcommitted = false) (hc : c ∈ n.claims) :
    n.compute.entryOf c.port =
      ⟨c.floor + n.fill.of c.port, c.floor, c.ceiling, if c.floor + n.fill.of c.port = c.ceiling then .saturated else .shared⟩ := by
  simp only [n.compute_of_fits h, Snapshot.filled, Shares.entryOf]
  rw [find?_port _ hn.ports hc]
  rfl

/-- A port outside the eligible set gets no entry of its own (R74, R76). -/
theorem Snapshot.entryOf_absent (h : ∀ c ∈ n.claims, c.port ≠ p) : n.compute.entryOf p = .none := by
  cases ho : n.overcommitted
  · simp only [n.compute_of_fits ho, Snapshot.filled, Shares.entryOf]
    rw [find?_port_absent _ h]
  · simp only [n.compute_of_overcommitted ho, Snapshot.scaled, Shares.entryOf]
    rw [find?_port_absent _ h]

/-- The floor and the ceiling of an entry are those the computation used, whichever case it took (R74). -/
theorem Snapshot.Sound.entryOf_bounds (hn : n.Sound) (hc : c ∈ n.claims) :
    (n.compute.entryOf c.port).floor = c.floor ∧ (n.compute.entryOf c.port).ceiling = c.ceiling := by
  cases h : n.overcommitted
  · simp [hn.entryOf_filled h hc]
  · simp [hn.entryOf_scaled h hc]

theorem Snapshot.Sound.entryOf_status (hn : n.Sound) (hc : c ∈ n.claims) :
    (n.compute.entryOf c.port).status =
      if n.overcommitted then .scaled
      else if (n.compute.entryOf c.port).grant = c.ceiling then .saturated else .shared := by
  cases h : n.overcommitted
  · simp [hn.entryOf_filled h hc]
  · simp [hn.entryOf_scaled h hc]

end Sys2Proof.Machine
end

section
/-! SUPPORT. The water-filling as a pour in rounds (R73): what one round pays and to whom, what the rounds come to, and that
`waterFill` makes exactly these rounds. -/

namespace Sys2Proof.Machine

/-- The headroom of an eligible port (R73, step 1). -/
def Claim.head (c : Claim) : Nat := c.ceiling - c.floor

/-- An eligible port as the water-filling sees it. -/
def Claim.filling (c : Claim) : Filling := { port := c.port, headroom := c.head, weight := c.weight }

/-- The water-filling between two rounds: the unsaturated ports and the remainder. -/
structure Pour where
  left : List Claim
  rest : Nat

namespace Pour

/-- What the round offers a port (R73, step 2). -/
def offer (w : Pour) (c : Claim) : Nat := w.rest * c.weight / (w.left.map (·.weight)).sum

/-- Whether the offer reaches the port's headroom (R73, step 2). -/
def fills (w : Pour) (c : Claim) : Bool := decide (c.head ≤ w.offer c)

/-- The saturating set (R73, step 2). -/
def full (w : Pour) : List Claim := w.left.filter w.fills

/-- Whether the round pays a port: the saturating ports only, or every port when none saturates (R73, steps 3 and 4). -/
def pays (w : Pour) (c : Claim) : Bool := w.full.isEmpty || w.fills c

/-- What a paid port receives: its headroom when it saturates, else its offer. -/
def amount (w : Pour) (c : Claim) : Nat := min c.head (w.offer c)

def paid (w : Pour) : List Claim := w.left.filter w.pays

/-- The round: the paid ports leave, and the remainder falls by what they received. -/
def next (w : Pour) : Pour :=
  { left := w.left.filter fun c => !w.pays c, rest := w.rest - (w.paid.map w.amount).sum }

/-- The pour after `k` rounds. -/
def after (w : Pour) (k : Nat) : Pour := next^[k] w

/-- What a port has received in the first `k` rounds. -/
def given : Pour → Nat → Claim → Nat
  | _, 0, _ => 0
  | w, k + 1, c => if c ∈ w.paid then w.amount c else w.next.given k c

variable {w : Pour} {c : Claim} {k : Nat}

/-! ## One round -/

theorem mem_paid : c ∈ w.paid ↔ c ∈ w.left ∧ w.pays c = true := List.mem_filter

theorem mem_next_left : c ∈ w.next.left ↔ c ∈ w.left ∧ c ∉ w.paid := by
  simp only [next, List.mem_filter, mem_paid]
  cases w.pays c <;> simp

theorem next_left_sublist (w : Pour) : w.next.left.Sublist w.left := List.filter_sublist

theorem pays_of_full (h : w.full ≠ []) : w.pays = w.fills := by
  funext c
  simp [pays, h]

theorem pays_of_none (h : w.full = []) (c : Claim) : w.pays c = true := by simp [pays, h]

theorem paid_of_full (h : w.full ≠ []) : w.paid = w.full := by rw [paid, pays_of_full h, full]

theorem paid_of_none (h : w.full = []) : w.paid = w.left := List.filter_eq_self.mpr fun c _ => pays_of_none h c

theorem next_left_of_none (h : w.full = []) : w.next.left = [] := by
  simp [next, pays_of_none h]

theorem next_of_nil (h : w.left = []) : w.next = w := by
  obtain ⟨left, rest⟩ := w
  subst h
  rfl

theorem amount_of_fills (h : w.fills c = true) : w.amount c = c.head := min_eq_left (of_decide_eq_true h)

theorem amount_of_not_fills (h : w.fills c = false) : w.amount c = w.offer c :=
  min_eq_right (Nat.le_of_lt (Nat.lt_of_not_le (of_decide_eq_false h)))

theorem amount_of_mem_full (h : c ∈ w.full) : w.amount c = c.head := amount_of_fills (List.mem_filter.mp h).2

theorem amount_of_none (h : w.full = []) (hc : c ∈ w.left) : w.amount c = w.offer c :=
  amount_of_not_fills (by simpa using List.filter_eq_nil_iff.mp h c hc)

/-- Each round pays some port, so it leaves fewer. -/
theorem next_left_length_lt (h : w.left ≠ []) : w.next.left.length < w.left.length := by
  have hpaid : w.paid ≠ [] := by
    by_cases hfull : w.full = []
    · rwa [paid_of_none hfull]
    · rwa [paid_of_full hfull]
  obtain ⟨c, hc⟩ := List.exists_mem_of_ne_nil _ hpaid
  obtain ⟨hleft, hpays⟩ := mem_paid.mp hc
  exact List.length_filter_lt_length_iff_exists.mpr ⟨c, hleft, by simp [hpays]⟩

theorem sum_weights (w : Pour) : (w.left.map fun c => w.rest * c.weight).sum = (w.left.map (·.weight)).sum * w.rest := by
  rw [List.sum_map_mul_left, Nat.mul_comm]

/-- The offers of one round sum to at most the remainder. -/
theorem sum_offer_le (w : Pour) : (w.left.map w.offer).sum ≤ w.rest := sum_div_le w.sum_weights

theorem sum_amount_le (w : Pour) : (w.paid.map w.amount).sum ≤ w.rest :=
  calc (w.paid.map w.amount).sum ≤ (w.paid.map w.offer).sum := List.sum_le_sum fun _ _ => min_le_right _ _
    _ ≤ (w.left.map w.offer).sum := (List.filter_sublist.map _).sum_le_sum fun _ _ => Nat.zero_le _
    _ ≤ w.rest := w.sum_offer_le

/-- Rounding the offers down loses less than one for each port that receives one. -/
theorem rest_sub_offers_lt (h : w.left ≠ []) (hweight : ∀ c ∈ w.left, 1 ≤ c.weight) :
    w.rest - (w.left.map w.offer).sum < w.left.length := by
  have hpos : 0 < (w.left.map (·.weight)).sum := by
    obtain ⟨c, hc⟩ := List.exists_mem_of_ne_nil _ h
    exact (hweight c hc).trans (List.le_sum_of_mem (List.mem_map_of_mem hc))
  have hloss := rounding_loss_le hpos w.sum_weights
  have hrounded := List.length_filter_le (fun c : Claim => w.rest * c.weight % (w.left.map (·.weight)).sum != 0) w.left
  have hlength := List.length_pos_iff.mpr h
  unfold offer
  omega

theorem next_rest_of_none (h : w.full = []) : w.next.rest = w.rest - (w.left.map w.offer).sum := by
  rw [next, paid_of_none h, List.map_congr_left fun c hc => amount_of_none h hc]

theorem next_rest_of_full (h : w.full ≠ []) : w.next.rest = w.rest - (w.full.map Claim.head).sum := by
  rw [next, paid_of_full h, List.map_congr_left fun c hc => amount_of_mem_full hc]

/-! ## The rounds one after the other -/

theorem after_zero (w : Pour) : w.after 0 = w := rfl

theorem after_succ (w : Pour) (k : Nat) : w.after (k + 1) = w.next.after k := rfl

theorem after_succ' (w : Pour) (k : Nat) : w.after (k + 1) = (w.after k).next := Function.iterate_succ_apply' _ _ _

theorem after_of_nil (h : w.left = []) (k : Nat) : w.after k = w := Function.iterate_fixed (next_of_nil h) k

theorem after_left_sublist (w : Pour) (k : Nat) : (w.after k).left.Sublist w.left := by
  induction k generalizing w with
  | zero => exact List.Sublist.refl _
  | succ k ih => exact (ih w.next).trans w.next_left_sublist

theorem given_of_not_mem (h : c ∉ w.left) : w.given k c = 0 := by
  induction k generalizing w with
  | zero => rfl
  | succ k ih => simp [given, mem_paid, h, ih fun hc => h (mem_next_left.mp hc).1]

theorem given_of_mem_after (h : c ∈ (w.after k).left) : w.given k c = 0 := by
  induction k generalizing w with
  | zero => rfl
  | succ k ih =>
    have hnext : c ∈ w.next.left := (w.next.after_left_sublist k).subset h
    rw [given, if_neg (mem_next_left.mp hnext).2, ih h]

/-- The last of `k + 1` rounds adds what it pays: no port is paid twice. -/
theorem given_succ (w : Pour) (k : Nat) (c : Claim) :
    w.given (k + 1) c = if c ∈ (w.after k).paid then (w.after k).amount c else w.given k c := by
  induction k generalizing w with
  | zero => rfl
  | succ k ih =>
    rw [given, ih, after_succ, given]
    by_cases hpaid : c ∈ w.paid
    · have hlater : c ∉ (w.next.after k).paid := fun h =>
        (mem_next_left.mp ((w.next.after_left_sublist k).subset (mem_paid.mp h).1)).2 hpaid
      simp [hpaid, hlater]
    · simp [hpaid]

/-- Nothing is lost: what the ports received and the remainder make up what there was to divide. -/
theorem sum_given_add_rest (w : Pour) (k : Nat) : (w.left.map (w.given k)).sum + (w.after k).rest = w.rest := by
  induction k generalizing w with
  | zero => simp [given, after_zero]
  | succ k ih =>
    have hround : (w.left.map (w.given (k + 1))).sum = (w.paid.map w.amount).sum + (w.next.left.map (w.next.given k)).sum := by
      rw [paid, show w.next.left = w.left.filter fun c => !w.pays c from rfl, ← sum_map_ite]
      exact congrArg _ (List.map_congr_left fun c hc => by simp [given, mem_paid, hc])
    have hpaid := w.sum_amount_le
    have hrest : w.next.rest = w.rest - (w.paid.map w.amount).sum := rfl
    have hlater := ih w.next
    rw [hround, after_succ]
    omega

theorem given_le_head (w : Pour) (k : Nat) (c : Claim) : w.given k c ≤ c.head := by
  induction k generalizing w with
  | zero => exact Nat.zero_le _
  | succ k ih =>
    rw [given]
    split
    · exact min_le_left _ _
    · exact ih w.next

/-- How the pour may end: with every port filled, or with a round that gave each unfilled port its offer by weight, and whose rounding left less
than one for each port. -/
theorem given_of_ended (hweight : ∀ c ∈ w.left, 1 ≤ c.weight) (hend : (w.after k).left = []) :
    (∀ c ∈ w.left, w.given k c = c.head) ∨
      ∃ rest weights, (w.after k).rest < w.left.length ∧
        ∀ c ∈ w.left, w.given k c = c.head ∨ w.given k c = rest * c.weight / weights := by
  induction k generalizing w with
  | zero =>
    have hnil : w.left = [] := hend
    simp [hnil]
  | succ k ih =>
    by_cases hleft : w.left = []
    · simp [hleft]
    by_cases hfull : w.full = []
    · refine .inr ⟨w.rest, (w.left.map (·.weight)).sum, ?_, fun c hc => .inr ?_⟩
      · rw [after_succ, after_of_nil (next_left_of_none hfull), next_rest_of_none hfull]
        exact rest_sub_offers_lt hleft hweight
      · rw [given, if_pos (by rwa [paid_of_none hfull]), amount_of_none hfull hc, offer]
    · have hpaid : ∀ c ∈ w.paid, w.given (k + 1) c = c.head := fun c hc => by
        rw [given, if_pos hc, amount_of_mem_full (by rwa [← paid_of_full hfull])]
      have hunpaid : ∀ c ∉ w.paid, w.given (k + 1) c = w.next.given k c := fun c hc => by rw [given, if_neg hc]
      have hnext : ∀ c ∈ w.left, c ∉ w.paid → c ∈ w.next.left := fun c hc hn => mem_next_left.mpr ⟨hc, hn⟩
      have hlength := next_left_length_lt hleft
      rcases ih (fun c hc => hweight c (mem_next_left.mp hc).1) hend with hall | ⟨rest, weights, hrest, hgiven⟩
      · refine .inl fun c hc => ?_
        by_cases hp : c ∈ w.paid
        · exact hpaid c hp
        · rw [hunpaid c hp, hall c (hnext c hc hp)]
      · refine .inr ⟨rest, weights, hrest.trans hlength, fun c hc => ?_⟩
        by_cases hp : c ∈ w.paid
        · exact .inl (hpaid c hp)
        · rw [hunpaid c hp]
          exact hgiven c (hnext c hc hp)

/-- With nothing to divide, the first round is the last. -/
theorem next_left_of_rest_zero (hhead : ∀ c ∈ w.left, 0 < c.head) (hrest : w.rest = 0) : w.next.left = [] :=
  next_left_of_none (List.filter_eq_nil_iff.mpr fun c hc => by
    have := hhead c hc
    simp only [fills, offer, hrest, Nat.zero_mul, Nat.zero_div, decide_eq_true_eq]
    omega)

/-! ## `waterFill` makes these rounds -/

/-- The water-filling of a pour. -/
def fill (w : Pour) (fuel : Nat) : Filled := waterFill fuel (w.left.map Claim.filling) w.rest

theorem fill_of_nil (h : w.left = []) (fuel : Nat) : w.fill fuel = ⟨[], w.rest, 0⟩ := by
  cases fuel <;> simp [fill, waterFill, h]

theorem full_map_filling (w : Pour) :
    (w.left.map Claim.filling).filter
        (fun f => decide (f.headroom ≤ Machine.offer w.rest ((w.left.map Claim.filling).map (·.weight)).sum f)) =
      w.full.map Claim.filling := by
  rw [List.filter_map, List.map_map]
  rfl

theorem others_map_filling (w : Pour) :
    (w.left.map Claim.filling).filter
        (fun f => !decide (f.headroom ≤ Machine.offer w.rest ((w.left.map Claim.filling).map (·.weight)).sum f)) =
      (w.left.filter fun c => !w.fills c).map Claim.filling := by
  rw [List.filter_map, List.map_map]
  rfl

/-- One round of `waterFill` is one round of the pour. -/
theorem fill_round (h : w.left ≠ []) (fuel : Nat) :
    w.fill (fuel + 1) =
      { allotments := w.paid.map (fun c => (c.port, w.amount c)) ++ (w.next.fill fuel).allotments
        rest := (w.next.fill fuel).rest, rounds := (w.next.fill fuel).rounds + 1 } := by
  unfold fill
  rw [waterFill, if_neg (by simpa using h)]
  simp only [full_map_filling, others_map_filling]
  by_cases hfull : w.full = []
  · have hrest := fill_of_nil (next_left_of_none hfull) fuel
    have hoffers : w.paid.map (fun c => (c.port, w.amount c)) = w.left.map fun c => (c.port, w.offer c) := by
      rw [paid_of_none hfull]
      exact List.map_congr_left fun c hc => by rw [amount_of_none hfull hc]
    rw [fill] at hrest
    rw [hrest, hoffers, next_rest_of_none hfull, if_pos (by simp [hfull])]
    simp only [List.map_map, List.append_nil]
    rfl
  · have hheads : w.paid.map (fun c => (c.port, w.amount c)) = w.full.map fun c => (c.port, c.head) := by
      rw [paid_of_full hfull]
      exact List.map_congr_left fun c hc => by rw [amount_of_mem_full hc]
    rw [hheads, next_rest_of_full hfull, if_neg (by simpa using hfull), next, pays_of_full hfull]
    simp only [List.map_map]
    rfl

/-- The pour has ended after the rounds `waterFill` makes, and not before; there are no more of them than ports. -/
theorem fill_rounds {fuel : Nat} (hfuel : w.left.length ≤ fuel) :
    (w.fill fuel).rounds ≤ w.left.length ∧ (∀ k < (w.fill fuel).rounds, (w.after k).left ≠ []) ∧
      (w.after (w.fill fuel).rounds).left = [] ∧ (w.fill fuel).rest = (w.after (w.fill fuel).rounds).rest := by
  induction fuel generalizing w with
  | zero =>
    have hleft : w.left = [] := List.length_eq_zero_iff.mp (by omega)
    simp [fill_of_nil hleft, after_zero, hleft]
  | succ fuel ih =>
    by_cases hleft : w.left = []
    · simp [fill_of_nil hleft, after_zero, hleft]
    have hlength := next_left_length_lt hleft
    obtain ⟨hrounds, hbefore, hend, hrest⟩ := ih (w := w.next) (by omega)
    rw [fill_round hleft]
    refine ⟨by dsimp only; omega, fun k hk => ?_, hend, hrest⟩
    cases k with
    | zero => exact hleft
    | succ k => exact hbefore k (by dsimp only at hk; omega)

theorem fill_of_absent {p : Port} {fuel : Nat} (h : ∀ c ∈ w.left, c.port ≠ p) : (w.fill fuel).of p = 0 := by
  induction fuel generalizing w with
  | zero => rfl
  | succ fuel ih =>
    by_cases hleft : w.left = []
    · simp [fill_of_nil hleft, Filled.of]
    have hpaid := find?_port_absent w.amount fun c hc => h c (mem_paid.mp hc).1
    have hlater : (w.next.fill fuel).of p = 0 := ih fun c hc => h c (mem_next_left.mp hc).1
    rw [fill_round hleft]
    simpa [Filled.of, List.find?_append, hpaid] using hlater

/-- The allotments of `waterFill` are what the ports received in its rounds. -/
theorem fill_of_port {fuel : Nat} (hports : (w.left.map (·.port)).Nodup) (hc : c ∈ w.left) :
    (w.fill fuel).of c.port = w.given (w.fill fuel).rounds c := by
  induction fuel generalizing w with
  | zero => rfl
  | succ fuel ih =>
    rw [fill_round (List.ne_nil_of_mem hc), given]
    have hsub : (w.paid.map (·.port)).Nodup := hports.sublist (List.filter_sublist.map _)
    by_cases hpaid : c ∈ w.paid
    · simp [Filled.of, List.find?_append, find?_port w.amount hsub hpaid, hpaid]
    · have hother : ∀ d ∈ w.paid, d.port ≠ c.port := fun d hd he =>
        hpaid (List.inj_on_of_nodup_map hports (mem_paid.mp hd).1 hc he ▸ hd)
      have hlater := ih (hports.sublist (w.next_left_sublist.map _)) (mem_next_left.mpr ⟨hc, hpaid⟩)
      rw [if_neg hpaid, ← hlater]
      simp [Filled.of, List.find?_append, find?_port_absent w.amount hother]

end Pour
end Sys2Proof.Machine
end

section
/-! The shares (04): the overcommitted case, and the case in which the floors fit. -/

namespace Sys2Proof.Machine

variable {n : Snapshot} {c d : Claim}

/-! ## The overcommitted case (R72) -/

theorem Snapshot.scaled_le_floor (h : n.usable ≤ n.floors) (c : Claim) : c.floor * n.usable / n.floors ≤ c.floor :=
  Nat.div_le_of_le_mul (by rw [Nat.mul_comm n.floors]; gcongr)

theorem Snapshot.sum_scaled (n : Snapshot) : (n.claims.map fun c => c.floor * n.usable).sum = n.floors * n.usable :=
  List.sum_map_mul_right _ _ _

/-- The grants of an overcommitted computation, added up. -/
theorem Snapshot.Sound.sum_grants_scaled (hn : n.Sound) (h : n.overcommitted = true) :
    (n.claims.map fun c => (n.compute.entryOf c.port).grant).sum = (n.claims.map fun c => c.floor * n.usable / n.floors).sum :=
  congrArg _ (List.map_congr_left fun c hc => by rw [hn.entryOf_scaled h hc])

theorem Snapshot.Sound.spare_scaled (hn : n.Sound) (h : n.overcommitted = true) :
    n.compute.spare = n.usable - (n.claims.map fun c => (n.compute.entryOf c.port).grant).sum := by
  rw [hn.sum_grants_scaled h, n.compute_of_overcommitted h, Snapshot.scaled]
  simp only [List.map_map]
  rfl

/-! ## The water-filling (R73) -/

/-- The water-filling before its first round (R73, step 1). -/
def Snapshot.pour (n : Snapshot) : Pour := { left := n.claims.filter fun c => decide (0 < c.head), rest := n.usable - n.floors }

theorem Snapshot.unsaturated_eq (n : Snapshot) : n.unsaturated = n.pour.left.map Claim.filling := by
  have hhead (c : Claim) : decide (c.floor < c.ceiling) = decide (0 < c.head) := by simp [Claim.head]
  simp only [Snapshot.unsaturated, hhead]
  rfl

theorem Snapshot.fill_eq (n : Snapshot) : n.fill = n.pour.fill 17 := by
  rw [Snapshot.fill, n.unsaturated_eq]
  rfl

theorem Snapshot.mem_pour_left : c ∈ n.pour.left ↔ c ∈ n.claims ∧ 0 < c.head := by simp [Snapshot.pour]

theorem Snapshot.pour_left_sublist (n : Snapshot) : n.pour.left.Sublist n.claims := List.filter_sublist

theorem Snapshot.Sound.pour_weight (hn : n.Sound) (hc : c ∈ n.pour.left) : 1 ≤ c.weight :=
  hn.weights c (n.pour_left_sublist.subset hc)

section Fits

variable (hn : n.Sound) (hfits : n.overcommitted = false)
include hn hfits

/-- The rounds of the computation are those of its pour, which is over after them and not before. -/
theorem Snapshot.Sound.pour_rounds :
    n.compute.rounds ≤ n.claims.length ∧ (∀ k < n.compute.rounds, (n.pour.after k).left ≠ []) ∧
      (n.pour.after n.compute.rounds).left = [] ∧ n.compute.spare = (n.pour.after n.compute.rounds).rest := by
  have hlength := n.pour_left_sublist.length_le
  have hports := hn.length_le
  have hcompute : n.compute.rounds = (n.pour.fill 17).rounds ∧ n.compute.spare = (n.pour.fill 17).rest := by
    rw [← n.fill_eq, n.compute_of_fits hfits]
    exact ⟨rfl, rfl⟩
  obtain ⟨hrounds, hpour⟩ := Pour.fill_rounds (w := n.pour) (fuel := 17) (by omega)
  rw [hcompute.1, hcompute.2]
  exact ⟨hrounds.trans hlength, hpour⟩

/-- A grant is the floor and what the rounds gave. -/
theorem Snapshot.Sound.grant_eq (hc : c ∈ n.claims) :
    (n.compute.entryOf c.port).grant = c.floor + n.pour.given n.compute.rounds c := by
  have hgrant : (n.compute.entryOf c.port).grant = c.floor + (n.pour.fill 17).of c.port := by
    rw [hn.entryOf_filled hfits hc, n.fill_eq]
  have hrounds : n.compute.rounds = (n.pour.fill 17).rounds := by
    rw [← n.fill_eq, n.compute_of_fits hfits]
    rfl
  rw [hgrant, hrounds]
  by_cases hleft : c ∈ n.pour.left
  · rw [Pour.fill_of_port (hn.ports.sublist (n.pour_left_sublist.map _)) hleft]
  · rw [Pour.given_of_not_mem hleft, Pour.fill_of_absent fun d hd hport => hleft ?_]
    rwa [← hn.eq_of_port (n.pour_left_sublist.subset hd) hc hport]

theorem Snapshot.Sound.floor_le_grant (hc : c ∈ n.claims) : c.floor ≤ (n.compute.entryOf c.port).grant := by
  rw [hn.grant_eq hfits hc]
  exact Nat.le_add_right _ _

theorem Snapshot.Sound.grant_le_ceiling_of_fits (hc : c ∈ n.claims) : (n.compute.entryOf c.port).grant ≤ c.ceiling := by
  have hgiven : n.pour.given n.compute.rounds c ≤ c.ceiling - c.floor := Pour.given_le_head _ _ _
  have hfloor := c.floor_le_ceiling
  rw [hn.grant_eq hfits hc]
  omega

theorem Snapshot.Sound.sum_grants_add_spare :
    (n.claims.map fun c => (n.compute.entryOf c.port).grant).sum + n.compute.spare = n.usable := by
  obtain ⟨-, -, -, hspare⟩ := hn.pour_rounds hfits
  have hpour := n.pour.sum_given_add_rest n.compute.rounds
  have hgrants : (n.claims.map fun c => (n.compute.entryOf c.port).grant).sum =
      n.floors + (n.claims.map (n.pour.given n.compute.rounds)).sum := by
    rw [Snapshot.floors, ← List.sum_map_add]
    exact congrArg _ (List.map_congr_left fun c hc => hn.grant_eq hfits hc)
  have hgiven : (n.claims.map (n.pour.given n.compute.rounds)).sum = (n.pour.left.map (n.pour.given n.compute.rounds)).sum := by
    have hoff : ∀ c ∈ n.claims, n.pour.given n.compute.rounds c =
        if decide (0 < c.head) then n.pour.given n.compute.rounds c else 0 := fun c hc => by
      split
      · rfl
      · next hhead => exact Pour.given_of_not_mem fun hleft => hhead (by simpa using (n.mem_pour_left.mp hleft).2)
    rw [List.map_congr_left hoff, sum_map_ite]
    simp [Snapshot.pour]
  have hrest : n.pour.rest = n.usable - n.floors := rfl
  have hfloors := n.floors_le_usable hfits
  omega

/-- A port below its ceiling is there only when the last round gave every such port its offer by weight, and rounding left the spare. -/
theorem Snapshot.Sound.offered_of_lt_ceiling (hc : c ∈ n.claims) (hlt : (n.compute.entryOf c.port).grant < c.ceiling) :
    n.compute.spare < n.claims.length ∧ ∃ rest weights, ∀ d ∈ n.claims, (n.compute.entryOf d.port).grant < d.ceiling →
      (n.compute.entryOf d.port).grant - d.floor = rest * d.weight / weights := by
  have hbelow : ∀ d ∈ n.claims, (n.compute.entryOf d.port).grant < d.ceiling →
      d ∈ n.pour.left ∧ n.pour.given n.compute.rounds d < d.head := fun d hd h => by
    rw [hn.grant_eq hfits hd] at h
    have hhead : n.pour.given n.compute.rounds d < d.ceiling - d.floor := by omega
    exact ⟨n.mem_pour_left.mpr ⟨hd, (Nat.zero_le _).trans_lt hhead⟩, hhead⟩
  obtain ⟨-, -, hend, hspare⟩ := hn.pour_rounds hfits
  have hlength := n.pour_left_sublist.length_le
  rcases Pour.given_of_ended (fun c hc => hn.pour_weight hc) hend with hall | ⟨rest, weights, hrest, hgiven⟩
  · obtain ⟨hleft, hhead⟩ := hbelow c hc hlt
    exact absurd (hall c hleft) hhead.ne
  · refine ⟨by omega, rest, weights, fun d hd h => ?_⟩
    obtain ⟨hleft, hhead⟩ := hbelow d hd h
    rw [hn.grant_eq hfits hd, Nat.add_sub_cancel_left]
    exact (hgiven d hleft).resolve_left hhead.ne

theorem Snapshot.Sound.grant_mono_weight (hc : c ∈ n.claims) (hd : d ∈ n.claims) (hcLt : (n.compute.entryOf c.port).grant < c.ceiling)
    (hdLt : (n.compute.entryOf d.port).grant < d.ceiling) (hweight : c.weight ≤ d.weight) :
    (n.compute.entryOf c.port).grant - c.floor ≤ (n.compute.entryOf d.port).grant - d.floor := by
  obtain ⟨-, rest, weights, hoffer⟩ := hn.offered_of_lt_ceiling hfits hc hcLt
  rw [hoffer c hc hcLt, hoffer d hd hdLt]
  gcongr

/-- Without a port, or without capacity, there is no second round. -/
theorem Snapshot.Sound.rounds_le_one (h : n.claims = [] ∨ n.usable = 0) : n.compute.rounds ≤ 1 := by
  obtain ⟨hlength, hbefore, -, -⟩ := hn.pour_rounds hfits
  rcases h with hclaims | husable
  · rw [hclaims] at hlength
    exact hlength.trans (Nat.zero_le 1)
  · have hrest : n.pour.rest = 0 := by simp [Snapshot.pour, husable]
    by_contra hrounds
    exact hbefore 1 (by omega) (Pour.next_left_of_rest_zero (fun c hc => (n.mem_pour_left.mp hc).2) hrest)

theorem Snapshot.Sound.grants_of_nothing (h : n.claims = [] ∨ n.usable = 0) :
    (∀ c ∈ n.claims, (n.compute.entryOf c.port).grant = c.floor) ∧ n.compute.spare = n.usable := by
  have htotal := hn.sum_grants_add_spare hfits
  rcases h with hclaims | husable
  · simpa [hclaims] using htotal
  · refine ⟨fun c hc => ?_, by omega⟩
    have hfloor := hn.floor_le_grant hfits hc
    have hgrant : (n.compute.entryOf c.port).grant ≤ _ :=
      List.le_sum_of_mem (List.mem_map_of_mem (f := fun c => (n.compute.entryOf c.port).grant) hc)
    omega

theorem Snapshot.Sound.outcome_of_fits :
    n.compute.outcome = if ∃ c ∈ n.claims, c.floor < (n.compute.entryOf c.port).grant then .shared else .floorOnly := by
  have hgrants : (∃ c ∈ n.claims, c.floor < (n.compute.entryOf c.port).grant) ↔ ∃ c ∈ n.claims, c.floor < c.floor + n.fill.of c.port :=
    exists_congr fun c => and_congr_right fun hc => by rw [hn.entryOf_filled hfits hc]
  rw [n.compute_of_fits hfits] at hgrants ⊢
  simp only [hgrants]
  simp [Snapshot.filled, Snapshot.fill]

theorem Snapshot.Sound.outcome_shared_iff :
    n.compute.outcome = .shared ↔ ∃ c ∈ n.claims, c.floor < (n.compute.entryOf c.port).grant := by
  rw [hn.outcome_of_fits hfits]
  split
  · next h => exact iff_of_true rfl h
  · next h => exact iff_of_false nofun h

theorem Snapshot.Sound.outcome_floorOnly_iff :
    n.compute.outcome = .floorOnly ↔ ∀ c ∈ n.claims, (n.compute.entryOf c.port).grant = c.floor := by
  rw [hn.outcome_of_fits hfits]
  split
  · next h =>
    obtain ⟨c, hc, hlt⟩ := h
    exact iff_of_false nofun fun hall => hlt.ne' (hall c hc)
  · next h => exact iff_of_true rfl fun c hc => (hn.floor_le_grant hfits hc).antisymm' (not_lt.mp fun hlt => h ⟨c, hc, hlt⟩)

theorem Snapshot.Sound.status_of_fits (hc : c ∈ n.claims) :
    ((n.compute.entryOf c.port).status = .saturated ↔ (n.compute.entryOf c.port).grant = c.ceiling) ∧
      ((n.compute.entryOf c.port).status = .shared ↔ (n.compute.entryOf c.port).grant < c.ceiling) := by
  have hceiling := hn.grant_le_ceiling_of_fits hfits hc
  rw [hn.entryOf_status hc, hfits, if_neg Bool.false_ne_true]
  split
  · next h => simp [h]
  · next h => simp [h, hceiling.lt_of_ne h]

end Fits

/-- No entry's grant is above its ceiling, whichever case the computation took. -/
theorem Snapshot.Sound.grant_le_ceiling (hn : n.Sound) (hc : c ∈ n.claims) : (n.compute.entryOf c.port).grant ≤ c.ceiling := by
  cases h : n.overcommitted
  · exact hn.grant_le_ceiling_of_fits h hc
  · rw [hn.entryOf_scaled h hc]
    exact (n.scaled_le_floor (n.overcommitted_iff.mp h).1 c).trans c.floor_le_ceiling

/-- A port with a peak of 0 gets nothing (R71). -/
theorem Snapshot.Sound.entry_of_peak_zero (hn : n.Sound) (hc : c ∈ n.claims) (hpeak : c.peak = 0) :
    (n.compute.entryOf c.port).ceiling = 0 ∧ (n.compute.entryOf c.port).floor = 0 ∧ (n.compute.entryOf c.port).grant = 0 := by
  obtain ⟨hfloor, hceiling⟩ := hn.entryOf_bounds hc
  have hzero := c.ceiling_le_peak
  have hle := c.floor_le_ceiling
  have hgrant := hn.grant_le_ceiling hc
  omega

/-! ## One round, as the rule words it (R73) -/

namespace Pour

variable {w : Pour} {k : Nat}

/-- Whether a port saturates in the round after `k` rounds: its offer reaches the headroom it has left. -/
def saturates (w : Pour) (k : Nat) (c : Claim) : Bool := decide (c.head - w.given k c ≤ (w.after k).offer c)

theorem saturates_eq_fills (hc : c ∈ (w.after k).left) : w.saturates k c = (w.after k).fills c := by
  rw [saturates, given_of_mem_after hc, Nat.sub_zero, fills]

theorem filter_saturates (w : Pour) (k : Nat) : (w.after k).left.filter (w.saturates k) = (w.after k).full :=
  List.filter_congr fun _ hc => saturates_eq_fills hc

theorem after_left_of_full (h : (w.after k).full ≠ []) :
    (w.after (k + 1)).left = (w.after k).left.filter fun c => !w.saturates k c := by
  rw [after_succ', next, pays_of_full h]
  exact List.filter_congr fun c hc => by rw [saturates_eq_fills hc]

theorem after_rest_of_full (h : (w.after k).full ≠ []) :
    (w.after (k + 1)).rest = (w.after k).rest - (((w.after k).left.filter (w.saturates k)).map fun c => c.head - w.given k c).sum := by
  rw [after_succ', next_rest_of_full h, filter_saturates]
  congr 2
  exact List.map_congr_left fun c hc => by rw [given_of_mem_after (List.mem_filter.mp hc).1, Nat.sub_zero]

theorem given_succ_of_full (h : (w.after k).full ≠ []) (c : Claim) :
    w.given (k + 1) c = if c ∈ (w.after k).left.filter (w.saturates k) then c.head else w.given k c := by
  rw [given_succ, filter_saturates, paid_of_full h]
  split
  · next hc => exact amount_of_mem_full hc
  · rfl

theorem given_succ_of_none (h : (w.after k).full = []) (c : Claim) :
    w.given (k + 1) c = if c ∈ (w.after k).left then w.given k c + (w.after k).offer c else w.given k c := by
  rw [given_succ, paid_of_none h]
  split
  · next hc => rw [amount_of_none h hc, given_of_mem_after hc, Nat.zero_add]
  · rfl

end Pour

/-! ## The statements -/

/-- Settles O32: the entries of an overcommitted computation are the scaled floors, and the spare is what rounding them down loses. -/
theorem floorsAreScaledWhenOvercommitted : Obligations.FloorsAreScaledWhenOvercommitted := by
  intro n hn hcUp hpeak usable ceiling floor floors entry given
  have husable : usable = n.usable := n.usable_eq_toNat
  clear_value usable
  subst husable
  have hle := n.usable_le hn.percent
  have hproduct (c : Claim) (hc : c ∈ n.claims) : c.floor * n.usable ≤ 1000000 * 1000000 :=
    Nat.mul_le_mul ((c.floor_le_ceiling.trans c.ceiling_le_peak).trans (hpeak c hc)) (by omega)
  refine ⟨rfl, by omega, by omega, fun h₁ h₂ h₃ => by simp [Snapshot.usable, h₁, h₂, h₃], rfl, hn.floors_le hpeak, fun c hc => ?_,
    n.outcome_overcommitted_iff.trans n.overcommitted_iff, fun hover hpos => ?_⟩
  · obtain ⟨hf, hc'⟩ := hn.entryOf_bounds hc
    exact ⟨hc', hf, hn.entry_of_peak_zero hc⟩
  have h : n.overcommitted = true := n.overcommitted_iff.mpr ⟨hover, hpos⟩
  have hentry (c : Claim) (hc : c ∈ n.claims) := hn.entryOf_scaled h hc
  have hgrant (c : Claim) (hc : c ∈ n.claims) : (entry c).grant = c.floor * n.usable / n.floors := congrArg (·.grant) (hentry c hc)
  have hgiven : given = (n.claims.map fun c => c.floor * n.usable / n.floors).sum := hn.sum_grants_scaled h
  have hsum : given ≤ n.usable := hgiven ▸ sum_div_le n.sum_scaled
  have hspare : n.compute.spare = n.usable - given := hn.spare_scaled h
  refine ⟨fun c hc => ⟨hgrant c hc, hproduct c hc, ?_, hn.grant_le_ceiling hc,
    congrArg (·.status) (hentry c hc)⟩, hsum, hspare, ?_, fun hzero => ⟨fun c hc => ?_, by omega⟩⟩
  · exact (hgrant c hc).trans_le (n.scaled_le_floor hover c)
  · rw [hspare, hgiven]
    exact rounding_loss_le hpos n.sum_scaled
  · rw [hgrant c hc, hzero, Nat.mul_zero, Nat.zero_div]

/-- Settles O33: the rounds are those of the pour, and the bounds, the total and the fairness are what its rounds keep. -/
theorem filledSharesFit : Obligations.FilledSharesFit := by
  intro n hn entry
  refine ⟨fun c hc => ?_, fun p hp => n.entryOf_absent hp, fun run table p hrun => ?_, fun hfits => ?_⟩
  · obtain ⟨hf, hc'⟩ := hn.entryOf_bounds hc
    exact ⟨hf, hc', hn.entryOf_status hc⟩
  · subst hrun
    exact Row.get_make _ p
  obtain ⟨hrounds, hbefore, hend, hspare⟩ := hn.pour_rounds hfits
  refine ⟨⟨fun k => (n.pour.after k).rest, fun k => (n.pour.after k).left, n.pour.given, rfl, rfl, fun _ => rfl,
    fun k hk => ⟨hbefore k hk, fun hsome => ?_, fun hnone => ?_⟩, .inl hend, hspare, fun c hc => hn.grant_eq hfits hc⟩,
    fun c hc => ⟨hn.floor_le_grant hfits hc, hn.grant_le_ceiling hc, hn.status_of_fits hfits hc⟩, hn.sum_grants_add_spare hfits,
    fun c hc hlt => (hn.offered_of_lt_ceiling hfits hc hlt).1,
    fun c hc d hd => hn.grant_mono_weight hfits hc hd, hrounds.trans hn.length_le,
    fun h => ⟨hn.rounds_le_one hfits h, hn.grants_of_nothing hfits h⟩,
    hn.outcome_shared_iff hfits, hn.outcome_floorOnly_iff hfits⟩
  · have hfull : (n.pour.after k).full ≠ [] := fun h => hsome ((n.pour.filter_saturates k).trans h)
    exact ⟨Pour.after_left_of_full hfull, Pour.after_rest_of_full hfull, fun c _ => Pour.given_succ_of_full hfull c⟩
  · have hfull : (n.pour.after k).full = [] := (n.pour.filter_saturates k).symm.trans hnone
    have hlast : (n.pour.after (k + 1)).left = [] := by rw [Pour.after_succ', Pour.next_left_of_none hfull]
    have hrest : (n.pour.after (k + 1)).rest = (n.pour.after k).rest - ((n.pour.after k).left.map (n.pour.after k).offer).sum := by
      rw [Pour.after_succ', Pour.next_rest_of_none hfull]
    have hlt := Pour.rest_sub_offers_lt (hbefore k hk) fun c hc => hn.pour_weight ((n.pour.after_left_sublist k).subset hc)
    exact ⟨by_contra fun h => hbefore (k + 1) (by omega) hlast, Pour.sum_offer_le _, hrest, hrest.trans_lt hlt,
      fun c _ => Pour.given_succ_of_none hfull c⟩

end Sys2Proof.Machine
end

section
/-! SUPPORT. What a command can do: the elementary changes of the state that every command but a reset is made of, each with what holds where it is
made. Every invariant that a step keeps is proved from these. -/

namespace Sys2Proof.Machine

/-- A condition is latched at a source of fault records (R183): a port that is held or holds reasons, a blocked test bus, the shutdown condition or the
thermal latch. -/
def State.latchedAt (s : State) : FaultSource → Prop
  | .line p => (s.port p).state = .held ∨ (s.port p).held.any = true
  | .testbus => s.ptc.blocked = true
  | .cabinet => s.csu.shutdownCondition = true ∨ s.csu.thermalLatch = true
  | .uplink => False

/-- What a command still owes between two of its elementary changes: the sources at which a condition may stand latched without its record, the frame
that is out of reception and whose cells are not yet returned or handed on, and whether the craft port's power is to be judged again. -/
structure Debt where
  latch : FaultSource → Prop
  loose : Option (Source × Reception)
  unjudged : Prop

namespace Debt

/-- Nothing is owed. -/
def none : Debt := { latch := fun _ => False, loose := .none, unjudged := False }

def owe (src : FaultSource) (d : Debt) : Debt := { d with latch := fun x => x = src ∨ d.latch x }

def pay (src : FaultSource) (d : Debt) : Debt := { d with latch := fun x => x ≠ src ∧ d.latch x }

/-- The debt `d` is owed within `e`: no more of it, and the same frame. -/
structure Within (d e : Debt) : Prop where
  latch : ∀ x, d.latch x → e.latch x
  loose : e.loose = d.loose
  unjudged : d.unjudged → e.unjudged

end Debt

/-- The record `r` may take the place of the record of port `p`: it keeps what holds of a record, borrows the port or the bus only when they are free,
and is latched only where that is owed. -/
structure PortRecord.Follows (d : Debt) (s : State) (p : Port) (r : PortRecord) : Prop where
  sound : (s.port p).Sound → r.Sound
  relays : (s.port p).RelaysFollow → r.RelaysFollow
  lent : r.state = .test → (s.port p).state = .test ∨ ∀ q, (s.port q).state ≠ .test
  bus : r.testClosedCmd = true → (s.port p).testClosedCmd = true ∨ ∀ q, q ≠ p → (s.port q).testClosedCmd = false
  latched : r.state = .held ∨ r.held.any = true → s.latchedAt (.line p) ∨ d.latch (.line p)

/-- A queue that a frame of a source may be put in (R32, R33). -/
def Source.feeds : Source → QueueId → Prop
  | .line p, q => q = .ux p ∨ q = .ub p
  | .uplink, q => q.area = .downstream
  | .craft, _ => True

/-- The reception `r` may take the place of the one from `src`, but for its cells: it has the queue it had or one that its source feeds, and stays dropped. -/
structure Reception.Follows (s : State) (src : Source) (r : Reception) : Prop where
  queue : ∀ q, r.queue = some q → Source.feeds src q ∨ ∃ old, s.reception src = some old ∧ old.queue = some q
  dropped : src ≠ .craft → r.dropped ≠ none → r.cells = [] ∨ ∃ old, s.reception src = some old ∧ old.dropped ≠ none ∧ old.cells = r.cells

/-- The elementary changes. `W` says whether the Pair Test Controller may be changed. -/
inductive Change (W : Prop) : Debt × State → Debt × State → Prop
  | weaken {d s} (e : Debt) (h : d.Within e) : Change W (d, s) (e, s)
  | settle {d s} (src : FaultSource) (h : ¬s.latchedAt src) : Change W (d, s) (d.pay src, s)
  | judged {d s} (h : s.CraftJudged) : Change W (d, s) ({ d with unjudged := False }, s)
  | mail {d s} (m : List Instr) : Change W (d, s) (d, { s with mail := m })
  | reach {d s} (t : Nat) : Change W (d, s) (d, s.reach t)
  | record {d s} (p : Port) (r : PortRecord) (h : r.Follows d s p) (same : r.state = (s.port p).state)
      (out : r.state = .up ∨ ((s.port p).rates = .none → r.rates = .none) ∧ ((s.port p).idleTimer = .none → r.idleTimer = .none)) :
      Change W (d, s) (d, { s with ports := s.ports.set p r })
  | install {d s} (p : Port) (r : PortRecord) (h : r.outOfUp.ordered.Follows d s p) : Change W (d, s) (d, s.installPort p r)
  | watch {d s} (x : Watch) : Change W (d, s) (d, { s with lwu := x })
  | budget {d s} (x : Budget) : Change W (d, s) (d, { s with pbu := x })
  | agent {d s} (a : Agent) (faults : a.faults = s.mga.faults) (subscribers : a.subscribers = s.mga.subscribers)
      (notices : s.mga.notices.length ≤ 32 → a.notices.length ≤ 32) : Change W (d, s) (d, { s with mga := a })
  | subscriber {d s} (p : Port) (u : Subscriber) (h : (s.sub p).Legal → u.Legal) :
      Change W (d, s) (d, { s with mga := { s.mga with subscribers := s.mga.subscribers.set p u } })
  | raise {d s} (src : FaultSource) (kind : FaultKind) (cause : Option RestartCause) (uptime : Nat) (h : kind.sourced src = true) :
      Change W (d, s) (if kind.latched then d.pay src else d, { s with mga := (s.mga.raise src kind cause uptime).1 })
  | clear {d s} (src : FaultSource) (kind : FaultKind) (h : kind.latched = true → d.latch src) : Change W (d, s) (d, s.clearFault src kind)
  | forget {d s} : Change W (d, s) (d, { s with mga := { s.mga with faults := s.mga.faults.filter (·.active) } })
  | drops {d s} (x : Row 16 BufferDrops) (n : Nat) : Change W (d, s) (d, { s with cbm := { s.cbm with drops := x, uplinkPoolFull := n } })
  | place {d s} (q : QueueId) (length : Nat) (image : FrameImage) (kind : AgentFrameKind) (room : s.hasRoom length = true)
      (h : q = .aq ∨ q = .cq) : Change W (d, s) (d, s.placeFrame q length image kind)
  | discard {d s} : Change W (d, s) (d, (s.freeCells .reserved (cellsOf s.cbm.cq)).setQueue .cq [])
  | buckets {d s} (up down : Row 16 Bucket)
      (h : ∀ p, s.QuietPort p → (s.port p).state ≠ .up →
        ((up.get p).tokens = 0 ∧ (up.get p).remainder = 0) ∧ (down.get p).tokens = 0 ∧ (down.get p).remainder = 0) :
      Change W (d, s) (d, { s with txs := { s.txs with upBuckets := up, downBuckets := down } })
  | scheduler {d s} (x : Scheduler)
      (h : x.uplinkTx = s.txs.uplinkTx ∧ x.lineTx = s.txs.lineTx ∧ x.craftTx = s.txs.craftTx ∧ x.upBuckets = s.txs.upBuckets ∧
        x.downBuckets = s.txs.downBuckets) : Change W (d, s) (d, { s with txs := x })
  | startUplink {d s} (q : QueueId) (free : s.txs.uplinkTx = none) (h : q.area ≠ .downstream) : Change W (d, s) (d, s.startUplink q)
  | startLine {d s} (p : Port) (q : QueueId) (free : s.txs.lineTx.get p = none) (h : q = .dx p ∨ q = .db p) :
      Change W (d, s) (d, s.startLine p q)
  | startCraft {d s} (x : Descriptor) (rest : List Descriptor) (free : s.txs.craftTx = none) (h : s.cbm.cq = x :: rest) :
      Change W (d, s) (d, { s.setQueue .cq rest with txs := { s.txs with craftTx := some x.sent } })
  | uplinkDone {d s} (t : Transmission) (h : s.txs.uplinkTx = some t) :
      Change W (d, s)
        (d, { s.freeCells t.desc.queue.area t.desc.cells.length with txs := Scheduler.countUplink t { s.txs with uplinkTx := none } })
  | lineDone {d s} (p : Port) (t : Transmission) (h : s.txs.lineTx.get p = some t) :
      Change W (d, s)
        (d, { s.freeCells t.desc.queue.area t.desc.cells.length with txs := { s.txs with lineTx := s.txs.lineTx.set p none } })
  | craftDone {d s} (t : Transmission) (h : s.txs.craftTx = some t) :
      Change W (d, s)
        (d, { s.freeCells .reserved t.desc.cells.length with
          txs := { s.txs with craftTx := none, craftFrames := count32 s.txs.craftFrames } })
  | frameStart {d s} (src : Source) (a : Area) (free : s.reception src = none) (area : sourceArea src = some a) (room : 1 ≤ s.areaFree a) :
      Change W (d, s) (d, (s.takeCells a 1).setReception src (some (.fresh (s.newCells a 1))))
  | nextCell {d s} (src : Source) (a : Area) (r : Reception) (h : s.reception src = some r) (undropped : r.dropped = none)
      (area : sourceArea src = some a) (room : 1 ≤ s.areaFree a) :
      Change W (d, s) (d, (s.takeCells a 1).setReception src (some { r with cells := r.cells ++ s.newCells a 1 }))
  | reception {d s} (src : Source) (r : Reception) (h : r.Follows s src) (cells : r.cells = Reception.held (s.reception src)) :
      Change W (d, s) (d, s.setReception src (some r))
  | dropFrame {d s} (src : Source) (why : DropReason) (r : Reception) (h : Reception.Follows s src { r with dropped := some why, cells := [] })
      (cells : r.cells = Reception.held (s.reception src)) : Change W (d, s) (d, s.dropFrame src why r)
  | takeOut {d s} (src : Source) (r : Reception) (h : s.reception src = some r) (free : d.loose = none) :
      Change W (d, s) ({ d with loose := some (src, r) }, s.setReception src none)
  | returnLoose {d s} (src : Source) (r : Reception) (h : d.loose = some (src, r)) :
      Change W (d, s) ({ d with loose := none }, s.returnCells src r.cells.length)
  | refuseLoose {d s} (src : Source) (r : Reception) (q : QueueId) (h : d.loose = some (src, r)) (hq : r.queue = some q) (hsrc : src ≠ .craft) :
      Change W (d, s) ({ d with loose := none }, s.freeCells q.area r.cells.length)
  | admitLoose {d s} (src : Source) (r : Reception) (p : Port) (x : Descriptor) (h : d.loose = some (src, r)) (hq : r.queue = some x.queue)
      (hsrc : src ≠ .craft) (cells : x.cells = r.cells) (hp : x.queue.port = some p) (up : (s.port p).state = .up) :
      Change W (d, s) ({ d with loose := none }, s.setQueue x.queue (s.queue x.queue ++ [x]))
  | emptyLoose {d s} (src : Source) (r : Reception) (h : d.loose = some (src, r)) (empty : r.dropped ≠ none ∨ src = .craft) :
      Change W (d, s) ({ d with loose := none }, s)
  | classifier {d s} (c : Classifier) (rx : c.rxLine = s.fcl.rxLine ∧ c.rxUplink = s.fcl.rxUplink ∧ c.rxCraft = s.fcl.rxCraft)
      (h : s.fcl.Sound → c.Sound) : Change W (d, s) (d, { s with fcl := c })
  | trigger {d s} : Change W (d, s) (d, s.trigger)
  | activity {d s} (x : Row 16 (Option Nat)) (h : ∀ p, x.get p ≠ none → (s.port p).state = .up ∨ s.scu.activity.get p ≠ none) :
      Change W (d, s) (d, { s with scu := { s.scu with activity := x } })
  | link {d s} (up : Bool) (report : Option Nat) : Change W (d, s) (d, { s with scu := { s.scu with linkUp := up, latestReport := report } })
  | shares {d s} (c : Computation) (h : s.scu.computation = some c) :
      Change W (d, s) (d, { s with scu := { s.scu with table := c.install s.scu.table } })
  | computed {d s} : Change W (d, s) (d, { s with scu := { s.scu with computation := none } })
  | ptc {d s} (x : PairTest) (w : W) (latch : x.blocked = true → s.ptc.blocked = true ∨ d.latch .testbus) :
      Change W (d, s) (d, { s with ptc := x })
  | msu {d s} (x : Measurement) (h : s.msu.config.Legal → x.config.Legal) : Change W (d, s) (d, { s with msu := x })
  | csu {d s} (x : Supervisor)
      (latch : x.shutdownCondition = true ∨ x.thermalLatch = true → s.latchedAt .cabinet ∨ d.latch .cabinet)
      (craft : d.unjudged ∨ (s.CraftJudged → State.CraftJudged { s with csu := x })) : Change W (d, s) (d, { s with csu := x })
  | settings {d s} (g : Settings) (legal : s.settings.Legal → g.Legal) (percent : s.settings.usablePercent ≤ 100 → g.usablePercent ≤ 100)
      (door : d.unjudged ∨ g.doorContact = s.settings.doorContact) : Change W (d, s) (d, { s with settings := g })

/-- A run of elementary changes. -/
def Run (W : Prop) : Debt × State → Debt × State → Prop := Relation.ReflTransGen (Change W)

theorem Change.run {W : Prop} {a b : Debt × State} (h : Change W a b) : Run W a b := .single h

theorem Run.refl {W : Prop} (a : Debt × State) : Run W a a := Relation.ReflTransGen.refl

theorem Run.trans {W : Prop} {a b c : Debt × State} (h : Run W a b) (k : Run W b c) : Run W a c := Relation.ReflTransGen.trans h k

/-- The last part of a run first: its end tells where the part before it ends. -/
theorem Run.after {W : Prop} {a b c : Debt × State} (k : Run W b c) (h : Run W a b) : Run W a c := h.trans k

/-- What every elementary change keeps, a run keeps. -/
theorem Run.keeps {W : Prop} {a b : Debt × State} (P : Debt × State → Prop) (hP : ∀ x y, Change W x y → P x → P y) (h : Run W a b)
    (ha : P a) : P b := by
  induction h with
  | refl => exact ha
  | tail _ hstep ih => exact hP _ _ hstep ih

end Sys2Proof.Machine
end

section
/-! SUPPORT. The shared operations as runs of elementary changes. -/

namespace Sys2Proof.Machine

variable {W : Prop} {d : Debt} {s : State}

/-! ## Debts -/

theorem Debt.owe_run (src : FaultSource) : Run W (d, s) (d.owe src, s) :=
  (Change.run (.weaken (d.owe src) ⟨fun _ h => Or.inr h, rfl, id⟩))

/-- What was owed at a source and has been paid is owed no longer. -/
theorem Debt.paid_run (src : FaultSource) : Run W ((d.owe src).pay src, s) (d, s) :=
  (Change.run (.weaken d ⟨fun _ h => (And.right h).resolve_left (And.left h), rfl, id⟩))

/-! ## Messages and the clock -/

theorem State.post_run (m : Instr) : Run W (d, s) (d, s.post m) := (Change.run (.mail _))

theorem State.taken_run (m : Instr) : Run W (d, s) (d, s.taken m) := (Change.run (.mail _))

theorem State.reach_run (t : Nat) : Run W (d, s) (d, s.reach t) := (Change.run (.reach t))

/-! ## Starting and placing frames -/

theorem State.startUplink_run {q : QueueId} (free : s.txs.uplinkTx = none) (h : q.area ≠ .downstream) : Run W (d, s) (d, s.startUplink q) :=
  (Change.run (.startUplink q free h))

theorem State.chargeUp_run (p : Port) (n : Nat) : Run W (d, s) (d, s.chargeUp p n) :=
  (Change.run (.buckets _ s.txs.downBuckets fun q hq _ => by
    rw [Row.get_modify]
    split
    · exact ⟨by simp [hq.up], hq.down⟩
    · exact ⟨hq.up, hq.down⟩))

theorem State.startExpress_run (p : Port) (free : s.txs.uplinkTx = none) : Run W (d, s) (d, s.startExpress p) :=
  ((chargeUp_run p _).trans (startUplink_run (q := .ux p) free nofun)).trans
    (Change.run (.scheduler _ ⟨rfl, rfl, rfl, rfl, rfl⟩))

theorem State.startBulk_run (p : Port) (free : s.txs.uplinkTx = none) : Run W (d, s) (d, s.startBulk p) :=
  ((chargeUp_run p _).trans (startUplink_run (q := .ub p) free nofun)).trans
    (Change.run (.scheduler _ ⟨rfl, rfl, rfl, rfl, rfl⟩))

theorem State.uplinkChoice_run : Run W (d, s) (d, s.uplinkChoice) := by
  unfold uplinkChoice
  split
  · next may =>
    have free : s.txs.uplinkTx = none := by
      simp only [uplinkMayStart, Bool.and_eq_true, Option.isNone_iff_eq_none] at may
      exact may.1.1
    split
    · split
      · exact startExpress_run _ free
      · split
        · exact startBulk_run _ free
        · exact .refl _
    · exact startUplink_run free nofun
  · exact .refl _

theorem State.lineChoice_run (p : Port) : Run W (d, s) (d, s.lineChoice p) := by
  unfold lineChoice
  split
  · exact .refl _
  · next busy =>
    have free : s.txs.lineTx.get p = none := by simpa using busy
    dsimp only
    split <;> split
    · exact (Change.run (.startLine p _ free (.inr rfl)))
    · exact .refl _
    · exact (Change.run (.startLine p _ free (.inl rfl)))
    · exact .refl _

theorem State.craftChoice_run : Run W (d, s) (d, s.craftChoice) := by
  unfold craftChoice
  split
  · next h =>
    split
    · exact .refl _
    · next x rest hcq =>
      simp only [Bool.and_eq_true, Option.isNone_iff_eq_none] at h
      exact (Change.run (.startCraft x rest h.1 hcq))
  · exact .refl _

/-! ## Notices, faults, and what a freed reserved cell sets off -/

theorem State.tryNoticeFrame_run : Run W (d, s) (d, s.tryNoticeFrame) := by
  unfold tryNoticeFrame
  split
  · exact .refl _
  · split
    · exact .refl _
    · extract_lets items octets built
      split
      · next room =>
        refine .trans (.trans (Change.run (.place .aq _ built.1 .notice room (.inl rfl))) ?_) uplinkChoice_run
        refine Change.run (.agent _ rfl rfl fun h => ?_)
        exact (List.length_drop ▸ Nat.sub_le _ _).trans h
      · exact .refl _

theorem Agent.queueNotice_length (item : NoticeItem) (a : Agent) (h : a.notices.length ≤ 32) : (a.queueNotice item).notices.length ≤ 32 := by
  unfold Agent.queueNotice Config.maxNotices
  dsimp only
  split
  · simp; omega
  · simp; omega

theorem Agent.queueNotice_kept (item : NoticeItem) (a : Agent) :
    (a.queueNotice item).faults = a.faults ∧ (a.queueNotice item).subscribers = a.subscribers := by
  unfold Agent.queueNotice
  dsimp only
  split <;> exact ⟨rfl, rfl⟩

theorem State.raiseNotice_run (n : Notice) : Run W (d, s) (d, s.raiseNotice n) := by
  unfold raiseNotice
  split
  · obtain ⟨hfaults, hsubs⟩ := Agent.queueNotice_kept { notice := n, uptime := s.uptime } s.mga
    exact (Change.run (.agent _ hfaults hsubs (Agent.queueNotice_length _ _))).trans tryNoticeFrame_run
  · exact .refl _

/-- A raise pays what is owed at its source when its kind is latched. -/
theorem State.raiseFault_pays (src : FaultSource) (kind : FaultKind) (h : kind.sourced src = true) (cause : Option RestartCause) :
    Run W (d, s) (if kind.latched then d.pay src else d, s.raiseFault src kind cause) := by
  refine (Change.run (.raise src kind cause s.uptime h)).trans ?_
  generalize (if kind.latched then d.pay src else d) = e
  unfold raiseFault
  dsimp only
  split
  · split
    · exact raiseNotice_run _
    · exact .refl _
  · exact .refl _

theorem State.raiseFault_run (src : FaultSource) (kind : FaultKind) (h : kind.sourced src = true) (cause : Option RestartCause) :
    Run W (d, s) (d, s.raiseFault src kind cause) := by
  refine (raiseFault_pays src kind h cause).trans ?_
  split
  · exact (Change.run (.weaken d ⟨fun _ h => And.right h, rfl, id⟩))
  · exact .refl _

theorem State.endResetWait_run : Run W (d, s) (d, s.endResetWait) :=
  .trans (Change.run (.agent { s.mga with resetWait := .over } rfl rfl id)) (post_run _)

theorem State.afterAgentFrames_run (ds : List Descriptor) : Run W (d, s) (d, s.afterAgentFrames ds) := by
  have hwait : Run W (d, s) (d, if ds.any Descriptor.answersReset then s.endResetWait else s) := by
    split
    · exact endResetWait_run
    · exact .refl _
  refine hwait.trans ?_
  unfold afterAgentFrames
  generalize (if ds.any Descriptor.answersReset then s.endResetWait else s) = u
  refine .trans ?_ tryNoticeFrame_run
  split
  · split
    · exact post_run _
    · exact .refl _
  · exact .refl _

theorem State.discardCraft_run : Run W (d, s) (d, s.discardCraft) := by
  unfold discardCraft
  dsimp only
  split
  · exact .refl _
  · exact .after (afterAgentFrames_run _) (.after (Change.run (.scheduler _ ⟨rfl, rfl, rfl, rfl, rfl⟩)) (Change.run .discard))

theorem State.callTakeIn_run : Run W (d, s) (d, s.callTakeIn) := by
  unfold callTakeIn
  split
  · exact post_run _
  · exact .refl _

/-! ## Shares and watches -/

theorem State.trigger_run : Run W (d, s) (d, s.trigger) := Change.run .trigger

theorem State.reportLevel_run (p : Port) : Run W (d, s) (d, s.reportLevel p) := by
  unfold reportLevel
  dsimp only
  split
  · exact .refl _
  · exact (Change.run (.watch _)).trans (raiseNotice_run _)

theorem State.settleSweepTimer_run : Run W (d, s) (d, s.settleSweepTimer) := by
  unfold settleSweepTimer
  split
  · split
    · exact (Change.run (.watch _))
    · exact .refl _
  · exact (Change.run (.watch _))

theorem State.clearFault_run {src : FaultSource} {kind : FaultKind} (h : kind.latched = false) : Run W (d, s) (d, s.clearFault src kind) :=
  (Change.run (.clear src kind (by simp [h])))

theorem State.rewatch_run (p : Port) : Run W (d, s) (d, s.rewatch p) := by
  have hlevel (c : Prop) [Decidable c] (u : State) : Run W (d, u) (d, if c then u.clearFault (.line p) .foreignVoltage else u) := by
    split
    · exact clearFault_run rfl
    · exact .refl _
  unfold rewatch
  dsimp only
  split
  · exact .trans (.trans (.trans (Change.run (.watch _)) settleSweepTimer_run) (hlevel _ _)) (reportLevel_run p)
  · exact .trans (Change.run (.watch _)) settleSweepTimer_run

/-! ## Port records -/

theorem State.modifyPort_run (p : Port) (f : PortRecord → PortRecord) (h : (f (s.port p)).Follows d s p)
    (same : (f (s.port p)).state = (s.port p).state)
    (out : (f (s.port p)).state = .up ∨
      ((s.port p).rates = none → (f (s.port p)).rates = none) ∧ ((s.port p).idleTimer = none → (f (s.port p)).idleTimer = none)) :
    Run W (d, s) (d, s.modifyPort p f) := Change.run (.record p _ h same out)

theorem State.installPort_run (p : Port) (r : PortRecord) (h : r.outOfUp.ordered.Follows d s p) : Run W (d, s) (d, s.installPort p r) :=
  (Change.run (.install p r h))

theorem State.changePort_run (p : Port) (r : PortRecord) (e : Bool) (h : r.outOfUp.ordered.Follows d s p) :
    Run W (d, s) (d, s.changePort p r e) := by
  have hpost (c : Prop) [Decidable c] (m : Instr) (u : State) : Run W (d, u) (d, if c then u else u.post m) := by
    split
    · exact .refl _
    · exact post_run m
  have hnotice (c : Prop) [Decidable c] (n : Notice) (u : State) : Run W (d, u) (d, if c then u else u.raiseNotice n) := by
    split
    · exact .refl _
    · exact raiseNotice_run n
  exact .after (hnotice _ _ _) (.after (hpost _ _ _) (.after (hpost _ _ _) (.after (rewatch_run p) (installPort_run p r h))))

end Sys2Proof.Machine
end

section
/-! SUPPORT. What holds of a Port Record that takes the place of another: the rules of a record, and each change of one that a command makes. -/

namespace Sys2Proof.Machine

variable {W : Prop} {d : Debt} {s : State} {p : Port} {r : PortRecord}

/-! ## The record as it is installed (R3, R5) -/

@[simp] theorem PortRecord.installed_state (r : PortRecord) : r.outOfUp.ordered.state = r.state := by
  unfold PortRecord.outOfUp PortRecord.ordered
  split <;> rfl

/-- A record as it is installed has rates and an idle timer in UP alone (R3). -/
theorem PortRecord.installed_out (r : PortRecord) :
    r.outOfUp.ordered.state = .up ∨ r.outOfUp.ordered.rates = none ∧ r.outOfUp.ordered.idleTimer = none := by
  unfold PortRecord.outOfUp PortRecord.ordered
  split
  · next h => exact .inl h
  · exact .inr ⟨rfl, rfl⟩

@[simp] theorem PortRecord.installed_held (r : PortRecord) : r.outOfUp.ordered.held = r.held := by
  unfold PortRecord.outOfUp PortRecord.ordered
  split <;> rfl

@[simp] theorem PortRecord.installed_testClosedCmd (r : PortRecord) : r.outOfUp.ordered.testClosedCmd = r.testClosedCmd := by
  unfold PortRecord.outOfUp PortRecord.ordered
  split <;> rfl

@[simp] theorem PortRecord.installed_relaysFollow (r : PortRecord) : r.outOfUp.ordered.RelaysFollow ↔ r.RelaysFollow := by
  unfold PortRecord.outOfUp PortRecord.ordered
  split <;> rfl

/-- What a record must hold so that it is sound once its rates, its idle timer and its transceiver order have followed its state (R3, R5). -/
structure PortRecord.Fits (r : PortRecord) : Prop where
  rates : r.state = .up → r.rates.isSome = true
  testRef : r.testRef.isSome ↔ r.state = .test
  returnTarget : r.returnTarget.isSome ↔ r.state = .test ∨ r.state = .held
  heldReasons : r.state = .held → r.held.any = true
  heldStates : r.held.any = true → r.state = .held ∨ r.state = .disabled
  isolated : r.position = .isolated ↔ r.held.any = true
  atRest : r.position = .isolated → r.transfer = none
  testing : r.position = .testing → r.state = .test
  heldOrder : r.heldOrder.isSome → r.state = .test ∧ r.transfer.isSome
  dozing : r.state = .doze → r.causes.isEmpty = false
  causes : r.causes.isEmpty = false → r.state = .doze ∨ (r.state = .test ∧ r.returnTarget = some .down)
  wakePending : r.wakePending = true → r.state = .doze ∨ (r.state = .test ∧ r.returnTarget = some .down)
  ordersOn : r.state = .training ∨ r.state = .up → r.orderOn = true

theorem PortRecord.Fits.normal (h : r.Fits) (hs : r.state = .down) : r.position = .normal := by
  cases hp : r.position with
  | normal => rfl
  | testing => simpa [hs] using h.testing hp
  | isolated => simpa [hs] using h.heldStates (h.isolated.mp hp)

theorem PortRecord.Fits.sound (h : r.Fits) : r.outOfUp.ordered.Sound := by
  have hnormal := h.normal
  obtain ⟨rates, testRef, returnTarget, heldReasons, heldStates, isolated, atRest, testing, heldOrder, dozing, causes, wake, on⟩ := h
  unfold PortRecord.outOfUp PortRecord.ordered
  by_cases hup : r.state = .up
  · rw [if_pos hup]
    constructor <;> simp_all
  · rw [if_neg hup]
    constructor <;> cases hs : r.state <;> simp_all

/-- A record that is sound fits. -/
theorem PortRecord.Sound.fits (h : r.Sound) : r.Fits where
  rates := h.rates.mpr
  testRef := h.testRef
  returnTarget := h.returnTarget
  heldReasons := h.heldReasons
  heldStates := h.heldStates
  isolated := h.isolated
  atRest := h.atRest
  testing := h.testing
  heldOrder := h.heldOrder
  dozing := h.dozing
  causes := h.causes
  wakePending := h.wakePending
  ordersOn hs := h.ordersOn (hs.elim .inl (.inr ∘ .inl))

/-- The relay fields of two records are the same. -/
structure PortRecord.SameRelays (a b : PortRecord) : Prop where
  position : b.position = a.position
  transfer : b.transfer = a.transfer
  line : b.lineClosedCmd = a.lineClosedCmd
  test : b.testClosedCmd = a.testClosedCmd

theorem PortRecord.SameRelays.refl (r : PortRecord) : r.SameRelays r := ⟨rfl, rfl, rfl, rfl⟩

theorem PortRecord.SameRelays.follow {a b : PortRecord} (h : a.SameRelays b) : a.RelaysFollow → b.RelaysFollow := by
  simp only [PortRecord.RelaysFollow, PortRecord.arrangement, h.position, h.transfer, h.line, h.test, imp_self]

/-- A record that leaves the relays and the held reasons alone, and neither borrows the port nor holds it. -/
theorem PortRecord.Follows.of_sameRelays (relays : (s.port p).SameRelays r) (held : r.held = (s.port p).held)
    (state : r.state = .test ∨ r.state = .held → r.state = (s.port p).state) (sound : (s.port p).Sound → r.Sound) : r.Follows d s p where
  sound := sound
  relays := relays.follow
  lent h := .inl ((state (.inl h)).symm.trans h)
  bus h := .inl (relays.test ▸ h)
  latched h := .inl (h.imp (fun h => (state (.inr h)).symm.trans h) (held ▸ ·))

theorem PortRecord.Follows.installed (relays : (s.port p).SameRelays r) (held : r.held = (s.port p).held)
    (state : r.state = .test ∨ r.state = .held → r.state = (s.port p).state) (fits : (s.port p).Sound → r.Fits) :
    r.outOfUp.ordered.Follows d s p where
  sound h := (fits h).sound
  relays h := r.installed_relaysFollow.mpr (relays.follow h)
  lent h := .inl ((state (.inl (r.installed_state ▸ h))).symm.trans (r.installed_state ▸ h))
  bus h := .inl (relays.test ▸ r.installed_testClosedCmd ▸ h)
  latched h := by
    rw [r.installed_state, r.installed_held, held] at h
    exact .inl (h.imp_left fun h => (state (.inr h)).symm.trans h)

/-! ## Doze causes -/

@[simp] theorem DozeCauses.put_true_isEmpty (c : DozeCauses) (x : DozeCause) : (c.put x true).isEmpty = false := by
  cases x <;> simp [DozeCauses.put, DozeCauses.isEmpty]

theorem DozeCauses.put_isEmpty_false {c : DozeCauses} {x : DozeCause} {b : Bool} (h : (c.put x b).isEmpty = false) (hb : b = false) :
    c.isEmpty = false := by
  subst hb
  cases x <;> revert h <;> rcases c with ⟨_ | _, _ | _, _ | _⟩ <;> decide

@[simp] theorem DozeCauses.empty_isEmpty : DozeCauses.empty.isEmpty = true := rfl

/-- The service states: those in which a port without a fault serves its subscriber or waits to (R1). -/
def serving : PortState → Bool
  | .down | .training | .up | .doze => true
  | .disabled | .test | .held => false

/-- A record in service that enters DOZE with causes (R14). -/
theorem PortRecord.Sound.doze (h : r.Sound) (hs : serving r.state = true) {c : DozeCauses} (hc : c.isEmpty = false) {w : Bool} {k : PortCounters} :
    ({ r with state := .doze, causes := c, wakePending := w, counters := k } : PortRecord).Fits := by
  obtain ⟨rates, idle, testRef, returnTarget, heldReasons, heldStates, isolated, atRest, testing, heldOrder, dozing, causes, wake, off, on⟩ := h
  constructor <;> cases hst : r.state <;> simp_all [serving]

/-- A record in service that enters DOWN without causes. -/
theorem PortRecord.Sound.down (h : r.Sound) (hs : serving r.state = true) {c : DozeCauses} (hc : c.isEmpty = true) {k : PortCounters} :
    ({ r with state := .down, causes := c, wakePending := false, counters := k } : PortRecord).Fits := by
  obtain ⟨rates, idle, testRef, returnTarget, heldReasons, heldStates, isolated, atRest, testing, heldOrder, dozing, causes, wake, off, on⟩ := h
  constructor <;> cases hst : r.state <;> simp_all [serving]

/-- What a record must hold so that its port may return to service with it (R18): it fits in DOZE with causes, and in DOWN without. -/
structure PortRecord.Returns (r : PortRecord) : Prop where
  doze : ∀ (c : DozeCauses) (w : Bool) (k : PortCounters), c.isEmpty = false →
    ({ r with state := .doze, causes := c, wakePending := w, counters := k } : PortRecord).Fits
  down : ∀ c : DozeCauses, c.isEmpty = true → ({ r with state := .down, causes := c, wakePending := false } : PortRecord).Fits

theorem PortRecord.Sound.returns (h : r.Sound) (hs : serving r.state = true) : r.Returns :=
  ⟨fun _ _ _ hc => h.doze hs hc, fun _ hc => h.down hs hc⟩

/-- A port that is DISABLED and holds no reasons may return to service as it is (R21). -/
theorem PortRecord.Sound.returns_of_disabled (h : r.Sound) (hs : r.state = .disabled) (hh : r.held.any = false) : r.Returns := by
  obtain ⟨rates, idle, testRef, returnTarget, heldReasons, heldStates, isolated, atRest, testing, heldOrder, dozing, causes, wake, off, on⟩ := h
  constructor
  · intro c w k hc
    constructor <;> simp_all
  · intro c hc
    constructor <;> simp_all

/-- A port in TEST whose relays are at rest at NORMAL may return to service once it is no longer lent (R20). -/
theorem PortRecord.Sound.returns_of_test (h : r.Sound) (hs : r.state = .test) (hp : r.position = .normal) (ht : r.transfer = none) :
    ({ r with testRef := none, returnTarget := none } : PortRecord).Returns := by
  obtain ⟨rates, idle, testRef, returnTarget, heldReasons, heldStates, isolated, atRest, testing, heldOrder, dozing, causes, wake, off, on⟩ := h
  constructor
  · intro c w k hc
    constructor <;> simp_all
  · intro c hc
    constructor <;> simp_all

/-- Out of DOZE, TEST a port has no causes and no wake pending. -/
theorem PortRecord.Sound.awake (h : r.Sound) (hs : r.state ≠ .doze) (ht : r.state ≠ .test) :
    r.causes.isEmpty = true ∧ r.wakePending = false := by
  constructor
  · by_contra hc
    simpa [hs, ht] using h.causes (by simpa using hc)
  · by_contra hc
    simpa [hs, ht] using h.wakePending (by simpa using hc)

theorem DozeCauses.eq_empty {c : DozeCauses} (h : c.isEmpty = true) : c = .empty := by
  revert h
  rcases c with ⟨_ | _, _ | _, _ | _⟩ <;> decide

/-- Causes that change on a port in DOZE or lent from service. -/
theorem PortRecord.Sound.recaused (h : r.Sound) {c : DozeCauses} {w : Bool}
    (hs : (r.state = .doze ∧ c.isEmpty = false) ∨ (r.state = .test ∧ r.returnTarget = some .down)) :
    ({ r with causes := c, wakePending := w } : PortRecord).Fits := by
  obtain ⟨rates, idle, testRef, returnTarget, heldReasons, heldStates, isolated, atRest, testing, heldOrder, dozing, causes, wake, off, on⟩ := h
  rcases hs with ⟨hs, hc⟩ | ⟨hs, hr⟩ <;> constructor <;> simp_all

/-- Causes that go on a port that is lent. -/
theorem PortRecord.Sound.uncaused (h : r.Sound) (hs : r.state = .test) {c : DozeCauses} (hc : c.isEmpty = true) :
    ({ r with causes := c } : PortRecord).Fits := by
  obtain ⟨rates, idle, testRef, returnTarget, heldReasons, heldStates, isolated, atRest, testing, heldOrder, dozing, causes, wake, off, on⟩ := h
  constructor <;> simp_all

/-- A port with causes left keeps a wake pending (R16). -/
theorem PortRecord.Sound.wakePends (h : r.Sound) {c : DozeCauses} (hc : c.isEmpty = false) (hr : r.causes.isEmpty = false) :
    ({ r with causes := c, wakePending := true } : PortRecord).Fits :=
  h.recaused ((h.causes hr).imp_left fun hs => ⟨hs, hc⟩)

/-! ## The held state (R11, R12) -/

@[simp] theorem HeldReasons.add_any (reason : HeldReason) (x : HeldReasons) : (x.add reason).any = true := by
  cases reason <;> simp [HeldReasons.add, HeldReasons.any]

theorem PortRecord.enterHeld_fits (r : PortRecord) (reason : HeldReason) : (r.enterHeld reason).Fits := by
  constructor <;> simp [PortRecord.enterHeld]

/-- A port that enters HELD commands both relays open. -/
theorem PortRecord.enterHeld_follows (reason : HeldReason) (hd : d.latch (.line p)) :
    ((s.port p).enterHeld reason).outOfUp.ordered.Follows d s p where
  sound _ := (PortRecord.enterHeld_fits _ reason).sound
  relays _ := (PortRecord.installed_relaysFollow _).mpr ⟨rfl, nofun⟩
  lent h := by simp [PortRecord.enterHeld] at h
  bus h := by simp [PortRecord.enterHeld] at h
  latched _ := .inr hd

/-- One more reason for a port that is latched already. -/
theorem PortRecord.Sound.heldAgain (h : r.Sound) (reason : HeldReason) (hs : r.state = .held ∨ r.held.any = true) {k : PortCounters} :
    ({ r with held := r.held.add reason, counters := k } : PortRecord).Sound := by
  have hany : r.held.any = true := hs.elim h.heldReasons id
  exact { h with
    heldReasons := fun _ => HeldReasons.add_any ..
    heldStates := fun _ => h.heldStates hany
    isolated := ⟨fun _ => HeldReasons.add_any .., fun _ => h.isolated.mpr hany⟩ }

end Sys2Proof.Machine
end

section
/-! SUPPORT. The operations on a line port as runs of elementary changes: doze causes, the power budget, return to service, the held state, wakes. -/

namespace Sys2Proof.Machine

variable {W : Prop} {d : Debt} {s : State} {p : Port} {r : PortRecord}

/-- A change of a port's record that leaves the relays and the held reasons alone, and neither borrows the port nor holds it. -/
theorem State.changePort_run_of_sameRelays (e : Bool) (relays : (s.port p).SameRelays r) (held : r.held = (s.port p).held)
    (state : r.state = .test ∨ r.state = .held → r.state = (s.port p).state) (fits : (s.port p).Sound → r.Fits) :
    Run W (d, s) (d, s.changePort p r e) :=
  changePort_run p r e (.installed relays held state fits)

theorem State.addDoze_run (p : Port) (c : DozeCause) : Run W (d, s) (d, s.addDoze p c) := by
  have hserving (hs : serving (s.port p).state = true) : Run W (d, s) (d, s.changePort p
      { s.port p with state := .doze, causes := DozeCauses.empty.put c true, counters := (s.port p).counters.dozed }) :=
    changePort_run_of_sameRelays _ ⟨rfl, rfl, rfl, rfl⟩ rfl (by simp) fun h => h.doze hs (by simp)
  unfold addDoze
  dsimp only
  split
  next hs => exact hserving (by rw [hs]; rfl)
  next hs => exact hserving (by rw [hs]; rfl)
  next hs => exact hserving (by rw [hs]; rfl)
  next hs => exact changePort_run_of_sameRelays _ ⟨rfl, rfl, rfl, rfl⟩ rfl (fun _ => rfl) fun h => h.recaused (.inl ⟨hs, by simp⟩)
  next hs =>
    split
    · next hr => exact changePort_run_of_sameRelays _ ⟨rfl, rfl, rfl, rfl⟩ rfl (fun _ => rfl) fun h => h.recaused (.inr ⟨hs, hr⟩)
    · exact .refl _
  next => exact .refl _
  next => exact .refl _

theorem State.removeShed_run (p : Port) : Run W (d, s) (d, s.removeShed p) := by
  unfold removeShed
  dsimp only
  split
  · split
    next hs =>
      split
      · next hc => exact changePort_run_of_sameRelays _ ⟨rfl, rfl, rfl, rfl⟩ rfl (by simp) fun h => h.down (by rw [hs]; rfl) hc
      · next hc => exact changePort_run_of_sameRelays _ ⟨rfl, rfl, rfl, rfl⟩ rfl (fun _ => rfl) fun h => h.recaused (.inl ⟨hs, by simpa using hc⟩)
    next hs =>
      split
      · next hr => exact changePort_run_of_sameRelays _ ⟨rfl, rfl, rfl, rfl⟩ rfl (fun _ => rfl) fun h => h.recaused (.inr ⟨hs, hr⟩)
      · exact .refl _
    next => exact .refl _
  · exact .refl _

/-! ## The power budget -/

theorem State.handOn_run (counted : Option Port) (x : LoadEntry) : Run W (d, s) (d, s.handOn counted x) := by
  unfold handOn
  dsimp only
  split
  · exact .refl _
  · split
    · split
      · exact Change.run (.budget _)
      · split
        · exact .after (addDoze_run _ _) (Change.run (.budget _))
        · exact .after (removeShed_run _) (Change.run (.budget _))
    · exact Change.run (.budget _)
    · split
      · exact .after (post_run _) (Change.run (.budget _))
      · exact .after (post_run _) (Change.run (.budget _))

/-- A fold of runs is a run. -/
theorem Run.foldl {α : Type} (f : State → α → State) (h : ∀ s x, Run W (d, s) (d, f s x)) (xs : List α) (s : State) :
    Run W (d, s) (d, xs.foldl f s) := by
  induction xs generalizing s with
  | nil => exact .refl _
  | cons x xs ih => exact (h s x).trans (ih _)

theorem State.evaluate_run (counted : Option Port) : Run W (d, s) (d, s.evaluate counted) :=
  .after (Run.foldl _ (fun _ x => handOn_run counted x) _ _) (Change.run (.budget _))

/-- A port returns to service with a record that fits it, leaves its relays where they follow, and holds no reason of its own. -/
theorem State.returnToService_run (p : Port) (r : PortRecord) (keepWake : Bool) (fits : (s.port p).Sound → r.Returns)
    (relays : (s.port p).RelaysFollow → r.RelaysFollow) (bus : r.testClosedCmd = true → (s.port p).testClosedCmd = true)
    (held : r.held.any = true → s.latchedAt (.line p) ∨ d.latch (.line p)) : Run W (d, s) (d, s.returnToService p r keepWake) := by
  have hsame : (s.evaluate (some p)).port p = s.port p := s.evaluate_counted p
  have hfollows (x : PortRecord) (hx : r.SameRelays x) (hheld : x.held = r.held) (hst : x.state ≠ .test ∧ x.state ≠ .held)
      (hfits : (s.port p).Sound → x.Fits) : x.outOfUp.ordered.Follows d (s.evaluate (some p)) p :=
    { sound := fun h => (hfits (hsame ▸ h)).sound
      relays := fun h => x.installed_relaysFollow.mpr (hx.follow (relays (hsame ▸ h)))
      lent := fun h => absurd (x.installed_state ▸ h) hst.1
      bus := fun h => .inl (hsame ▸ bus (hx.test ▸ x.installed_testClosedCmd ▸ h))
      latched := fun h => by
        rw [x.installed_state, x.installed_held, hheld] at h
        simpa only [latchedAt, hsame] using held (h.resolve_left hst.2) }
  unfold returnToService
  dsimp only
  refine (evaluate_run (some p)).trans ?_
  split
  · next hc => exact changePort_run _ _ _ (hfollows _ ⟨rfl, rfl, rfl, rfl⟩ rfl (by simp) fun h => (fits h).down _ hc)
  · next hc => exact changePort_run _ _ _ (hfollows _ ⟨rfl, rfl, rfl, rfl⟩ rfl (by simp) fun h => (fits h).doze _ _ _ (by simpa using hc))

/-- A port in service returns to service as it is. -/
theorem State.returnToService_run_of_serving (p : Port) {c : DozeCauses} {w : Bool} (keepWake : Bool) (hs : serving (s.port p).state = true) :
    Run W (d, s) (d, s.returnToService p { s.port p with causes := c, wakePending := w } keepWake) :=
  returnToService_run _ _ _ (fun h => ⟨(h.returns hs).doze, (h.returns hs).down⟩) id id fun h => .inl (.inr h)

theorem State.removeDoze_run (p : Port) (c : DozeCause) : Run W (d, s) (d, s.removeDoze p c) := by
  unfold removeDoze
  dsimp only
  split
  · split
    next hs =>
      split
      · exact returnToService_run_of_serving p _ (by rw [hs]; rfl)
      · next hc => exact changePort_run_of_sameRelays _ ⟨rfl, rfl, rfl, rfl⟩ rfl (fun _ => rfl) fun h => h.recaused (.inl ⟨hs, by simpa using hc⟩)
    next hs =>
      split
      · next hr => exact changePort_run_of_sameRelays _ ⟨rfl, rfl, rfl, rfl⟩ rfl (fun _ => rfl) fun h => h.recaused (.inr ⟨hs, hr⟩)
      · exact .refl _
    next => exact .refl _
  · exact .refl _

theorem State.wake_run (p : Port) (fromTest : Bool) : Run W (d, s) (d, s.wake p fromTest) := by
  unfold wake
  dsimp only
  split
  · next hs =>
    split
    · next hc =>
      split
      · exact removeDoze_run p _
      · next hdoze =>
        have htest := (hs.resolve_left hdoze).2
        exact changePort_run_of_sameRelays _ ⟨rfl, rfl, rfl, rfl⟩ rfl (fun _ => rfl) fun h => h.uncaused htest hc
    · next hc =>
      have hleft : (DozeCauses.put .idle false (s.port p).causes).isEmpty = false := by simpa using hc
      exact changePort_run_of_sameRelays _ ⟨rfl, rfl, rfl, rfl⟩ rfl (fun _ => rfl) fun h =>
        h.wakePends hleft (DozeCauses.put_isEmpty_false hleft rfl)
  · exact .refl _

/-! ## The held state -/

theorem heldFault_sourced (reason : HeldReason) (p : Port) : (heldFault reason).sourced (.line p) = true := by
  cases reason <;> rfl

theorem heldFault_latched (reason : HeldReason) : (heldFault reason).latched = true := by
  cases reason <;> rfl

/-- A hold latches the port and records it (R11, R12, R183). -/
theorem State.hold_run (p : Port) (reason : HeldReason) : Run W (d, s) (d, s.hold p reason) := by
  unfold hold
  dsimp only
  split
  · next hs =>
    have hlatched : (s.port p).state = .held ∨ (s.port p).held.any = true := hs.imp_right And.right
    refine .after (raiseFault_run _ _ (heldFault_sourced reason p) _) (modifyPort_run p _ ?_ rfl (.inr ⟨id, id⟩))
    exact { sound := fun h => h.heldAgain reason hlatched, relays := id, lent := .inl, bus := .inl, latched := fun _ => .inl hlatched }
  · have hheld : Run W (d, s) (d, (s.changePort p ((s.port p).enterHeld reason)).raiseFault (.line p) (heldFault reason)) := by
      refine (Debt.owe_run (.line p)).trans ((changePort_run p _ false (PortRecord.enterHeld_follows (d := d.owe (.line p)) reason (Or.inl rfl))).trans ?_)
      refine (raiseFault_pays _ _ (heldFault_sourced reason p) none).trans ?_
      rw [heldFault_latched, if_pos rfl]
      exact Debt.paid_run _
    split
    · exact .after (post_run _) hheld
    · exact hheld

/-- A record changed in its rates counters or timers alone keeps what holds of it. -/
theorem State.countPort_run (p : Port) (f : PortCounters → PortCounters) : Run W (d, s) (d, s.countPort p f) :=
  modifyPort_run p _ (.of_sameRelays ⟨rfl, rfl, rfl, rfl⟩ rfl (fun _ => rfl) fun h => { h with }) rfl (.inr ⟨id, id⟩)

theorem State.mismatch_run (p : Port) : Run W (d, s) (d, s.mismatch p) :=
  .after (hold_run p _) (.after (post_run _) (countPort_run p _))

/-- The watches follow when the Line Watch Unit is armed. -/
theorem State.arm_run : Run W (d, s) (d, s.arm) := by
  unfold arm
  split
  · exact .refl _
  · exact .after (Run.foldl _ (fun _ p => rewatch_run p) _ _) (Change.run (.watch _))

end Sys2Proof.Machine
end

section
/-! SUPPORT. The commands of the Line Port Controller as runs of elementary changes. -/

namespace Sys2Proof.Machine

variable {W : Prop} {d : Debt} {s t : State} {p : Port} {r : PortRecord}

/-! ## Line events (R6) -/

theorem State.loseLink_run (p : Port) : Run W (d, s) (d, s.loseLink p) := by
  have hdown (hs : serving (s.port p).state = true) (hd : (s.port p).state ≠ .doze) (k : PortCounters) :
      Run W (d, s) (d, s.changePort p { s.port p with state := .down, counters := k }) :=
    changePort_run_of_sameRelays _ ⟨rfl, rfl, rfl, rfl⟩ rfl (by simp) fun h => by
      obtain ⟨hcauses, hwake⟩ := h.awake hd (fun ht => by simp [ht, serving] at hs)
      simpa [← hwake] using h.down hs hcauses (k := k)
  unfold loseLink
  dsimp only
  split
  next hs => exact hdown (by rw [hs]; rfl) (by simp [hs]) _
  next hs => exact hdown (by rw [hs]; rfl) (by simp [hs]) _
  next => exact .refl _

/-- A port in service without causes that trains or is up. -/
theorem PortRecord.Sound.linked (h : r.Sound) (hs : r.state = .down ∨ r.state = .training ∨ r.state = .up) (hon : r.orderOn = true)
    {st : PortState} {q : Option Rates} (hst : st = .training ∨ st = .up ∧ q.isSome = true) {i : Option Nat} {k : PortCounters} :
    ({ r with state := st, rates := q, idleTimer := i, counters := k } : PortRecord).Fits := by
  obtain ⟨rates, idle, testRef, returnTarget, heldReasons, heldStates, isolated, atRest, testing, heldOrder, dozing, causes, wake, off, on⟩ := h
  rcases hst with rfl | ⟨rfl, hq⟩ <;> rcases hs with hs | hs | hs <;> constructor <;> simp_all

theorem State.enterUp_run (p : Port) (rates : Rates) (hs : (s.port p).state = .down ∨ (s.port p).state = .training ∨ (s.port p).state = .up)
    (hon : (s.port p).orderOn = true) : Run W (d, s) (d, s.enterUp p rates) :=
  .after trigger_run (changePort_run_of_sameRelays _ ⟨rfl, rfl, rfl, rfl⟩ rfl (by simp) fun h => h.linked hs hon (.inr ⟨rfl, rfl⟩))

theorem State.replaceRates_run (p : Port) (rates : Rates) (hs : (s.port p).state = .up) : Run W (d, s) (d, s.replaceRates p rates) :=
  .after trigger_run (modifyPort_run p _ (.of_sameRelays ⟨rfl, rfl, rfl, rfl⟩ rfl (fun _ => rfl) fun h =>
    { h with rates := iff_of_true rfl hs }) rfl (.inl hs))

theorem execTrainingStarted_run (h : execTrainingStarted p s = .next t) : Run W (d, s) (d, t) := by
  have htrain (hs : (s.port p).state = .down ∨ (s.port p).state = .training ∨ (s.port p).state = .up) (hon : (s.port p).orderOn = true)
      (k : PortCounters) : Run W (d, s) (d, s.changePort p { s.port p with state := .training, counters := k }) :=
    State.changePort_run_of_sameRelays _ ⟨rfl, rfl, rfl, rfl⟩ rfl (by simp) fun h => h.linked hs hon (.inl rfl)
  unfold execTrainingStarted at h
  dsimp only at h
  split at h
  · next hon =>
    split at h <;> cases h
    next hs => exact htrain (.inl hs) hon _
    next hs => exact htrain (.inr (.inr hs)) hon _
    next => exact .refl _
  · cases h; exact .refl _

theorem execTrained_run {up down : Nat} (h : execTrained p up down s = .next t) : Run W (d, s) (d, t) := by
  unfold execTrained at h
  dsimp only at h
  split at h
  · next hon =>
    split at h
    · cases h; exact State.loseLink_run p
    · split at h <;> cases h
      next hs => exact State.enterUp_run p _ (.inl hs) hon
      next hs => exact State.enterUp_run p _ (.inr (.inl hs)) hon
      next hs => exact State.replaceRates_run p _ hs
      next => exact .refl _
  · cases h; exact .refl _

theorem execRateChanged_run {up down : Nat} (h : execRateChanged p up down s = .next t) : Run W (d, s) (d, t) := by
  unfold execRateChanged at h
  dsimp only at h
  split at h
  · split at h
    · cases h; exact State.loseLink_run p
    · split at h <;> cases h
      next hs => exact State.replaceRates_run p _ hs
      next => exact .refl _
  · cases h; exact .refl _

theorem execLinkLost_run (h : execLinkLost p s = .next t) : Run W (d, s) (d, t) := by
  unfold execLinkLost at h
  split at h <;> cases h
  · exact State.loseLink_run p
  · exact .refl _

end Sys2Proof.Machine
end

section
/-! SUPPORT. Relay transfers, the requests of the Pair Test Controller and the Measurement Unit as runs of elementary changes. -/

namespace Sys2Proof.Machine

variable {W : Prop} {d : Debt} {s t : State} {p : Port} {r : PortRecord}

/-- The last entry written at an index stands. -/
theorem set_set_self {n : Nat} {α : Type} (v : Row n α) (i : Fin n) (x y : α) : (v.set i x).set i y = v.set i y :=
  Row.ext fun j => by simp only [Row.get_set]; split <;> rfl

/-! ## Records on a transfer (R8, R9) -/

/-- A port in TEST whose relays move. -/
theorem PortRecord.Sound.moving (h : r.Sound) (hs : r.state = .test) {pos : RelayPosition} (hp : pos ≠ .isolated) (x : Transfer) {l c : Bool} :
    ({ r with position := pos, transfer := some x, lineClosedCmd := l, testClosedCmd := c } : PortRecord).Sound := by
  obtain ⟨rates, idle, testRef, returnTarget, heldReasons, heldStates, isolated, atRest, testing, heldOrder, dozing, causes, wake, off, on⟩ := h
  constructor <;> simp_all

/-- A transfer that goes on into its SETTLE, to the position it moved to or back to NORMAL. -/
theorem PortRecord.Sound.made (h : r.Sound) (ht : r.transfer.isSome = true) {pos : RelayPosition} (hp : pos = .normal ∨ pos = r.position)
    (x : Transfer) {l c : Bool} :
    ({ r with position := pos, transfer := some x, lineClosedCmd := l, testClosedCmd := c } : PortRecord).Sound := by
  have hne : pos ≠ .isolated := by
    rintro rfl
    rcases hp with hp | hp
    · simp at hp
    · simp [h.atRest hp.symm] at ht
  have hany : r.held.any ≠ true := fun hi => by simp [h.atRest (h.isolated.mpr hi)] at ht
  exact { h with
    isolated := iff_of_false hne hany
    atRest := fun hi => absurd hi hne
    testing := fun hpos => h.testing (hp.elim (fun hn => by simp [hn] at hpos) fun hr => hr.symm.trans hpos)
    heldOrder := fun ho => ⟨(h.heldOrder ho).1, rfl⟩
    ordersOn := fun hs => h.ordersOn (by simpa using hs.imp_right fun hs => Or.inl (hs.resolve_right (by simp))) }

/-- A transfer that has ended, with the order that was kept over it taken away. -/
theorem PortRecord.Sound.ended (h : r.Sound) : ({ r with transfer := none, heldOrder := none } : PortRecord).Fits := by
  have hfits := h.fits
  exact { hfits with atRest := fun _ => rfl, heldOrder := nofun }

theorem PortRecord.RelaysFollow.ended (h : r.RelaysFollow) {x : Transfer} (hx : r.transfer = some x) (hp : x.phase = .settle) :
    ({ r with transfer := none, heldOrder := none } : PortRecord).RelaysFollow := by
  obtain ⟨harr, hpos⟩ := h
  obtain ⟨kind, phase, ends⟩ := x
  subst hp
  have hpos := hpos _ hx
  refine ⟨?_, nofun⟩
  cases kind <;> simp_all [PortRecord.arrangement, TransferKind.target]

/-- During a GAP both relays are commanded open. -/
theorem PortRecord.RelaysFollow.gap (h : r.RelaysFollow) {x : Transfer} (hx : r.transfer = some x) (hp : x.phase = .gap) :
    r.lineClosedCmd = false ∧ r.testClosedCmd = false ∧ r.position = x.kind.target := by
  obtain ⟨harr, hpos⟩ := h
  simp only [PortRecord.arrangement, hx, hp, Prod.mk.injEq] at harr
  exact ⟨harr.1, harr.2, hpos x hx⟩

/-- With no transfer under way the relays are commanded as the position says. -/
theorem PortRecord.RelaysFollow.rest (h : r.RelaysFollow) (hx : r.transfer = none) :
    (r.lineClosedCmd = true ↔ r.position = .normal) ∧ (r.testClosedCmd = true ↔ r.position = .testing) := by
  have harr := h.1
  simp only [PortRecord.arrangement, hx] at harr
  cases hp : r.position <;> simp_all

/-! ## Starting a transfer and keeping an order (R8, R20) -/

theorem State.startOutward_run (hs : (s.port p).state = .test) (ht : (s.port p).transfer = none) (hp : (s.port p).position = .normal) :
    Run W (d, s) (d, s.startOutward p) := by
  refine modifyPort_run p _ ?_ rfl (.inr ⟨id, id⟩)
  exact
    { sound := fun h => h.moving hs (pos := .testing) nofun _
      relays := fun h => ⟨by
        have htest : (s.port p).testClosedCmd = false := by simpa [hp] using (h.rest ht).2
        simp [PortRecord.arrangement, gapOf, htest], by simp [gapOf, TransferKind.target]⟩
      lent := .inl
      bus := .inl
      latched := .inl }

theorem State.startBack_run (hs : (s.port p).state = .test) (ht : (s.port p).transfer = none) (hp : (s.port p).position = .testing) :
    Run W (d, s) (d, s.startBack p) := by
  refine modifyPort_run p _ ?_ rfl (.inr ⟨id, id⟩)
  exact
    { sound := fun h => h.moving hs (pos := .normal) nofun _
      relays := fun h => ⟨by
        have hline : (s.port p).lineClosedCmd = false := by simpa [hp] using (h.rest ht).1
        simp [PortRecord.arrangement, gapOf, hline], by simp [gapOf, TransferKind.target]⟩
      lent := .inl
      bus := nofun
      latched := .inl }

theorem State.keepOrder_run (o : HeldOrder) (hs : (s.port p).state = .test) (ht : (s.port p).transfer.isSome = true) :
    Run W (d, s) (d, s.keepOrder p o) :=
  modifyPort_run p _ (.of_sameRelays ⟨rfl, rfl, rfl, rfl⟩ rfl (fun _ => rfl) fun h => { h with heldOrder := fun _ => ⟨hs, ht⟩ }) rfl (.inr ⟨id, id⟩)

theorem State.orderOut_run (hs : (s.port p).state = .test) : Run W (d, s) (d, s.orderOut p) := by
  unfold orderOut
  dsimp only
  split
  · next ht => exact keepOrder_run _ hs ht
  · next ht =>
    split
    next hp => exact startOutward_run hs (by simpa using ht) hp
    next => exact post_run _
    next => exact .refl _

theorem State.orderBack_run (hs : (s.port p).state = .test) : Run W (d, s) (d, s.orderBack p) := by
  unfold orderBack
  dsimp only
  split
  · next ht => exact keepOrder_run _ hs ht
  · next ht =>
    split
    next hp => exact startBack_run hs (by simpa using ht) hp
    next => exact post_run _
    next => exact .refl _

/-- A port that has been lent and goes back DISABLED (R20). -/
theorem PortRecord.Sound.backDisabled (h : r.Sound) (hs : r.state = .test) (hp : r.position = .normal) (ht : r.transfer = none) :
    ({ r with testRef := none, returnTarget := none, state := .disabled, causes := .empty, wakePending := false } : PortRecord).Fits := by
  obtain ⟨rates, idle, testRef, returnTarget, heldReasons, heldStates, isolated, atRest, testing, heldOrder, dozing, causes, wake, off, on⟩ := h
  constructor <;> simp_all

theorem State.carryOutRelease_run (hs : (s.port p).state = .test) (ht : (s.port p).transfer = none) (hp : (s.port p).position = .normal) :
    Run W (d, s) (d, s.carryOutRelease p) := by
  have hpost (x : Option Nat) (u : State) :
      Run W (d, u) (d, match x with | some id => u.post (.released id) | none => u) := by
    split
    · exact post_run _
    · exact .refl _
  refine .after (hpost _ _) ?_
  split
  · exact changePort_run_of_sameRelays _ ⟨rfl, rfl, rfl, rfl⟩ rfl (by simp) fun h => h.backDisabled hs hp ht
  · split
    · exact returnToService_run p _ _ (fun h => h.returns_of_test hs hp ht) id id fun h => .inl (.inr h)
    · next hc =>
      exact changePort_run_of_sameRelays _ ⟨rfl, rfl, rfl, rfl⟩ rfl (by simp) fun h =>
        (h.returns_of_test hs hp ht).doze _ _ _ (by simpa using hc)

theorem State.orderRelease_run (hs : (s.port p).state = .test) : Run W (d, s) (d, s.orderRelease p) := by
  unfold orderRelease
  dsimp only
  split
  · next ht => exact keepOrder_run _ hs ht
  · next ht =>
    have ht : (s.port p).transfer = none := by simpa using ht
    split
    next hp => exact carryOutRelease_run hs ht hp
    next hp =>
      refine .after (keepOrder_run _ ?_ ?_) (startBack_run hs ht hp)
      · simpa [startBack, port_modifyPort] using hs
      · simp [startBack, port_modifyPort]
    next => exact .refl _

/-! ## The phases of a transfer (R8, R9, R10) -/

theorem State.makeAfterGap_run {x : Transfer} (hx : (s.port p).transfer = some x) (hp : x.phase = .gap) :
    Run W (d, s) (d, s.makeAfterGap p x.kind) := by
  have hsome : (s.port p).transfer.isSome = true := by simp [hx]
  have hmake (hk : x.kind ≠ .outward) : Run W (d, s)
      (d, s.modifyPort p fun r => { r with lineClosedCmd := true, transfer := some (s.settleOf x.kind) }) := by
    refine modifyPort_run p _ ?_ rfl (.inr ⟨id, id⟩)
    exact
      { sound := fun h => h.made hsome (.inr rfl) _
        relays := fun h => by
          obtain ⟨-, htest, hpos⟩ := h.gap hx hp
          refine ⟨?_, by simp [settleOf, hpos]⟩
          cases hkind : x.kind <;> simp_all [PortRecord.arrangement, settleOf]
        lent := .inl
        bus := .inl
        latched := .inl }
  unfold makeAfterGap
  split
  next hk =>
    split
    · refine modifyPort_run p _ ?_ rfl (.inr ⟨id, id⟩)
      exact
        { sound := fun h => h.made hsome (.inl rfl) _
          relays := fun h => by
            obtain ⟨-, htest, -⟩ := h.gap hx hp
            exact ⟨by simp [PortRecord.arrangement, settleOf, htest], by simp [settleOf, TransferKind.target]⟩
          lent := .inl
          bus := .inl
          latched := .inl }
    · next hfree =>
      refine modifyPort_run p _ ?_ rfl (.inr ⟨id, id⟩)
      exact
        { sound := fun h => h.made hsome (.inr rfl) _
          relays := fun h => by
            obtain ⟨hline, -, hpos⟩ := h.gap hx hp
            exact ⟨by simp [PortRecord.arrangement, settleOf, hline], by simp [settleOf, hpos, hk]⟩
          lent := .inl
          bus := fun _ => .inr fun q hq => by
            simp only [busOccupied, List.any_eq_true, mem_allPorts, true_and, not_exists] at hfree
            simpa [hq] using And.left (by simpa [hq] using hfree q)
          latched := .inl }
  next hk => exact hmake (by simp [hk])
  next hk => exact hmake (by simp [hk])
  next hk => exact hmake (by simp [hk])

theorem State.installPort_of_same (h : r.state = (s.port p).state) :
    s.installPort p r = { s with ports := s.ports.set p r.outOfUp.ordered } := by
  unfold installPort
  simp [h]

theorem State.modifyPort_of_eq {f : PortRecord → PortRecord} (h : f (s.port p) = s.port p) : s.modifyPort p f = s := by
  have hset : s.ports.modify p f = s.ports := by
    unfold Row.modify
    rw [show f (Row.get s.ports p) = Row.get s.ports p from h, Row.set_get]
  simp only [modifyPort, hset]

/-- The state in which the order kept over a transfer starts: the phase is none, the end is reported and answered, no order is kept (R8, R20). -/
def State.transferEnded (p : Port) (kind : TransferKind) (s : State) : State :=
  let u := (s.installPort p { s.port p with transfer := none }).post (.portReport p (s.port p).state (s.port p).held.any .none)
  ({ u with mail := u.mail ++ transferAnswer kind } : State).modifyPort p fun r => { r with heldOrder := none }

theorem State.transferEnded_state (q : Port) (kind : TransferKind) : ((s.transferEnded p kind).port q).state = (s.port q).state := by
  by_cases hq : q = p
  · subst hq
    simp [transferEnded, port, modifyPort]
  · simp [transferEnded, port, modifyPort, Row.get_modify_ne _ _ hq, Row.get_set_ne _ _ hq]

/-- A transfer's end is that state, and the start of the order that was kept. -/
theorem State.endTransfer_eq (p : Port) (kind : TransferKind) (s : State) :
    s.endTransfer p kind =
      match (s.port p).heldOrder with
      | none => s.transferEnded p kind
      | some o =>
        if (s.port p).state = .test then
          match o with
          | .transferOut => (s.transferEnded p kind).orderOut p
          | .transferBack => (s.transferEnded p kind).orderBack p
          | .release => (s.transferEnded p kind).orderRelease p
        else s.transferEnded p kind := by
  have hstate := s.transferEnded_state (p := p) p kind
  unfold transferEnded at hstate ⊢
  unfold endTransfer startHeldOrder
  dsimp only at hstate ⊢
  generalize hu : (State.mk _ _ _ _ _ _ _ _ _ _ _ _ _ _ _ _ : State) = u at hstate ⊢
  have horder : (u.port p).heldOrder = (s.port p).heldOrder := by
    rw [← hu]
    simp only [port, post_ports, installPort_frame, Row.get_set_self]
    unfold PortRecord.outOfUp PortRecord.ordered
    split <;> rfl
  rw [horder]
  cases ho : (s.port p).heldOrder with
  | none =>
    refine (modifyPort_of_eq ?_).symm
    have hu : (u.port p).heldOrder = none := horder.trans ho
    simp only [← hu]
  | some o =>
    cases o <;> dsimp only <;> rw [hstate] <;> rfl

theorem State.transferEnded_run {x : Transfer} (hx : (s.port p).transfer = some x) (hp : x.phase = .settle) :
    Run W (d, s) (d, s.transferEnded p x.kind) := by
  have hrecord : ({ ({ s.port p with transfer := none } : PortRecord).outOfUp.ordered with heldOrder := none } : PortRecord) =
      ({ s.port p with transfer := none, heldOrder := none } : PortRecord).outOfUp.ordered := by
    unfold PortRecord.outOfUp
    split <;> rfl
  have hstate : s.transferEnded p x.kind =
      { s with
        ports := s.ports.set p ({ s.port p with transfer := none, heldOrder := none } : PortRecord).outOfUp.ordered
        mail := s.mail ++ [.portReport p (s.port p).state (s.port p).held.any .none] ++ transferAnswer x.kind } := by
    rw [← hrecord]
    unfold transferEnded
    rw [installPort_of_same (r := { s.port p with transfer := none }) rfl]
    simp only [modifyPort, Row.modify, post, Row.get_set_self, set_set_self]
  rw [hstate]
  refine .trans (Change.run (.record p ({ s.port p with transfer := none, heldOrder := none } : PortRecord).outOfUp.ordered ?_ (PortRecord.installed_state _) ((PortRecord.installed_out _).imp_right fun h => ⟨fun _ => h.1, fun _ => h.2⟩)))
    (Change.run (.mail _))
  exact
    { sound := fun h => h.ended.sound
      relays := fun h => (PortRecord.installed_relaysFollow _).mpr (h.ended hx hp)
      lent := fun h => .inl (by simpa using h)
      bus := fun h => .inl (by simpa using h)
      latched := fun h => by
        rw [PortRecord.installed_state, PortRecord.installed_held] at h
        exact .inl h }

theorem State.endTransfer_run {x : Transfer} (hx : (s.port p).transfer = some x) (hp : x.phase = .settle) :
    Run W (d, s) (d, s.endTransfer p x.kind) := by
  rw [endTransfer_eq]
  have hended : Run W (d, s) (d, s.transferEnded p x.kind) := transferEnded_run hx hp
  split
  · exact hended
  · split
    · next hs =>
      have hs : ((s.transferEnded p x.kind).port p).state = .test := (transferEnded_state p x.kind).trans hs
      split
      · exact hended.trans (orderOut_run hs)
      · exact hended.trans (orderBack_run hs)
      · exact hended.trans (orderRelease_run hs)
    · exact hended

theorem execGapEnd_run (h : execGapEnd p s = .next t) : Run W (d, s) (d, t) := by
  unfold execGapEnd at h
  dsimp only at h
  split at h
  next x hx =>
    split at h
    next hp =>
      split at h <;> cases h
      · exact .after (State.makeAfterGap_run hx hp) (State.reach_run _)
      · exact .after (State.mismatch_run p) (State.reach_run _)
    next => cases h; exact .refl _
  next => cases h; exact .refl _

theorem execSettleEnd_run (h : execSettleEnd p s = .next t) : Run W (d, s) (d, t) := by
  unfold execSettleEnd at h
  dsimp only at h
  split at h
  next x hx =>
    split at h
    next hp =>
      split at h <;> cases h
      · exact .after (State.endTransfer_run hx hp) (State.reach_run _)
      · exact .after (State.mismatch_run p) (State.reach_run _)
    next => cases h; exact .refl _
  next => cases h; exact .refl _

theorem execRelaySenseChange_run {relay : Relay} {closed : Bool} (h : execRelaySenseChange p relay closed s = .next t) :
    Run W (d, s) (d, t) := by
  have hsense : Run W (d, s) (d, s.modifyPort p (PortRecord.sense relay closed)) := by
    refine State.modifyPort_run p _ ?_ (by cases relay <;> rfl) (by cases relay <;> exact .inr ⟨id, id⟩)
    cases relay <;> exact .of_sameRelays ⟨rfl, rfl, rfl, rfl⟩ rfl (fun _ => rfl) fun h => { h with }
  unfold execRelaySenseChange at h
  dsimp only at h
  split at h
  · cases h; exact .refl _
  · split at h <;> cases h
    · exact hsense.trans (State.mismatch_run p)
    · exact hsense

theorem execIdleTimerExpiry_run (h : execIdleTimerExpiry p s = .next t) : Run W (d, s) (d, t) := by
  unfold execIdleTimerExpiry at h
  split at h <;> cases h
  · exact .after (State.addDoze_run p _) (State.reach_run _)
  · exact .refl _

/-! ## Requests of the Pair Test Controller and the Measurement Unit (R19, R20, R11) -/

/-- A port that may be taken: no port is in TEST, it is not held and holds no reasons, and no transfer runs (R19). -/
theorem State.denies_false {allowUp : Bool} (h : s.denies p allowUp = false) :
    (∀ q, (s.port q).state ≠ .test) ∧ (s.port p).state ≠ .held ∧ ¬((s.port p).state = .disabled ∧ (s.port p).held.any = true) ∧
      (s.port p).transfer = none := by
  simp only [denies, Bool.or_eq_false_iff, List.any_eq_false, mem_allPorts, true_imp_iff, beq_iff_eq, Option.isSome_eq_false_iff,
    Option.isNone_iff_eq_none, Bool.and_eq_false_iff] at h
  obtain ⟨⟨⟨⟨htest, hheld⟩, hdisabled⟩, hrest⟩, -⟩ := h
  exact ⟨htest, by simpa using hheld, by simpa [← imp_iff_not_or] using hdisabled, hrest⟩

theorem PortRecord.Sound.lent (h : r.Sound) (ht : r.state ≠ .test) (hh : r.state ≠ .held) (hd : ¬(r.state = .disabled ∧ r.held.any = true))
    (hrest : r.transfer = none) {id : Nat} :
    ({ r with state := .test, testRef := some id, returnTarget := some (if r.state = .disabled then .disabled else .down) } : PortRecord).Fits := by
  obtain ⟨rates, idle, testRef, returnTarget, heldReasons, heldStates, isolated, atRest, testing, heldOrder, dozing, causes, wake, off, on⟩ := h
  constructor <;> simp_all <;> grind

theorem State.lend_run {allowUp : Bool} (id : Nat) (h : s.denies p allowUp = false) : Run W (d, s) (d, s.lend id p) := by
  obtain ⟨htest, hheld, hdisabled, hrest⟩ := denies_false h
  refine .after (post_run _) (changePort_run p _ _ ?_)
  exact
    { sound := fun h => (h.lent (htest p) hheld hdisabled hrest).sound
      relays := fun h => (PortRecord.installed_relaysFollow _).mpr h
      lent := fun _ => .inr htest
      bus := fun h => .inl (PortRecord.installed_testClosedCmd _ ▸ h)
      latched := fun h => by
        rw [PortRecord.installed_state, PortRecord.installed_held] at h
        exact .inl (.inr (h.resolve_left (by simp))) }

theorem execTake_run {id : Nat} {allowUp : Bool} (h : execTake id p allowUp s = .next t) : Run W (d, s) (d, t) := by
  unfold execTake at h
  dsimp only at h
  split at h <;> cases h
  · exact .after (State.post_run _) (State.taken_run _)
  · next hd => exact .after (State.lend_run id (by simpa using hd)) (State.taken_run _)

theorem execTransferOut_run (h : execTransferOut p s = .next t) : Run W (d, s) (d, t) := by
  unfold execTransferOut at h
  dsimp only at h
  split at h <;> cases h
  · next hs => exact .after (State.orderOut_run hs) (State.taken_run _)
  · exact State.taken_run _

theorem execTransferBack_run (h : execTransferBack p s = .next t) : Run W (d, s) (d, t) := by
  unfold execTransferBack at h
  dsimp only at h
  split at h <;> cases h
  · next hs => exact .after (State.orderBack_run hs) (State.taken_run _)
  · exact State.taken_run _

theorem execRelease_run (h : execRelease p s = .next t) : Run W (d, s) (d, t) := by
  unfold execRelease at h
  dsimp only at h
  split at h <;> cases h
  · next hs => exact .after (State.orderRelease_run hs) (State.taken_run _)
  · exact State.taken_run _

theorem execHazardReport_run {path : SensePath} {code : BitVec 12} (h : execHazardReport p path code s = .next t) :
    Run W (d, s) (d, t) := by
  cases h
  exact .after (State.hold_run p _) (State.taken_run _)

end Sys2Proof.Machine
end

section
/-! SUPPORT. Directives, and those of the Line Port Controller, as runs of elementary changes. -/

namespace Sys2Proof.Machine

variable {W : Prop} {d : Debt} {s t : State} {p : Port} {r : PortRecord}

/-! ## Carrying out a directive (R178) -/

/-- A directive's answer is a run from the state it is given, whether its entry is cut or not. -/
structure Answer.Runs (W : Prop) (d : Debt) (s : State) (a : Answer) : Prop where
  state : Run W (d, s) (d, a.state)
  ifCut : Run W (d, s) (d, a.ifCut)

theorem Answer.Runs.doneWith (data : List Octet) (h : Run W (d, s) (d, t)) : (doneWith data t).Runs W d s := ⟨h, h⟩

theorem Answer.Runs.refuse (o : DirectiveOutcome) : (refuse o s).Runs W d s := ⟨.refl _, .refl _⟩

theorem State.noteEntry_run (x : OutcomeEntry) : Run W (d, s) (d, s.noteEntry x) := Change.run (.agent _ rfl rfl id)

theorem State.advance_run (e : Execution) : Run W (d, s) (d, s.advance e) := by
  unfold advance
  split
  · exact .after (post_run _) (Change.run (.agent _ rfl rfl id))
  · split
    · exact .after (post_run _) (Change.run (.agent _ rfl rfl id))
    · exact .after (post_run _) (Change.run (.agent _ rfl rfl id))

theorem State.enterAnswer_run (code : Octet) (e : Execution) {a : Answer} (ended : Bool) (h : a.Runs W d s) :
    Run W (d, s) (d, State.enterAnswer code e a ended) := by
  unfold enterAnswer
  dsimp only
  split
  · exact .after (advance_run _) (.after (noteEntry_run _) h.state)
  · exact .after (advance_run _) (.after (noteEntry_run _) h.ifCut)

theorem State.answer_run (o : Origin) (lengthGood : Bool) (demands : Demands) {body : State → Answer} (h : (body s).Runs W d s) :
    (s.answer o lengthGood demands body).Runs W d s := by
  unfold answer
  split
  · exact .refuse _
  · exact h

/-- A directive is a run when its owner's part of it is one, from any state. -/
theorem State.direct_run {o : Origin} {code : Octet} {params : List Octet} {lengthGood : Bool} {demands : Demands} {body : State → Answer}
    (h : ∀ u, (body u).Runs W d u) : Run W (d, s) (d, s.direct o code params lengthGood demands body) := by
  unfold direct
  dsimp only
  split
  · exact .refl _
  · exact .after (noteEntry_run _) (answer_run o _ _ (h s)).state
  · exact (taken_run _).trans (enterAnswer_run _ _ _ (answer_run o _ _ (h _)))

/-- A read directive answers with data and changes nothing. -/
theorem State.direct_run_of_read {o : Origin} {code : Octet} {params : List Octet} {lengthGood : Bool} {demands : Demands}
    {body : State → Answer} (h : ∀ u, (body u).state = u ∧ (body u).ifCut = u) :
    Run W (d, s) (d, s.direct o code params lengthGood demands body) :=
  direct_run fun u => ⟨(h u).1.symm ▸ .refl _, (h u).2.symm ▸ .refl _⟩

theorem onPort_run {params : List Octet} {body : Port → State → Answer} (h : ∀ p, (body p s).Runs W d s) : (onPort params body s).Runs W d s := by
  unfold onPort
  split
  · exact h _
  · exact .refuse _

/-! ## PORT_ENABLE and PORT_DISABLE (R21, R22) -/

/-- A port in TEST that is to return to service, or DISABLED and then without causes (R21, R22). -/
theorem PortRecord.Sound.retargeted (h : r.Sound) (hs : r.state = .test) {c : DozeCauses} {w : Bool} {x : ReturnTarget}
    (hc : x = .disabled → c.isEmpty = true ∧ w = false) :
    ({ r with returnTarget := some x, causes := c, wakePending := w } : PortRecord).Fits := by
  obtain ⟨rates, idle, testRef, returnTarget, heldReasons, heldStates, isolated, atRest, testing, heldOrder, dozing, causes, wake, off, on⟩ := h
  cases x <;> constructor <;> simp_all

theorem State.portEnable_run (p : Port) : (s.portEnable p).Runs W d s := by
  unfold portEnable
  dsimp only
  split
  next hs =>
    split
    · exact .refuse _
    · next hh =>
      have hh : (s.port p).held.any = false := by simpa using hh
      exact .doneWith _ (.after arm_run (returnToService_run p _ _ (fun h => h.returns_of_disabled hs hh) id id fun h => .inl (.inr h)))
  next => exact .refuse _
  next hs =>
    split
    · exact .doneWith _ (.after arm_run (changePort_run_of_sameRelays _ ⟨rfl, rfl, rfl, rfl⟩ rfl (fun _ => rfl) fun h =>
        h.retargeted hs nofun))
    · exact .doneWith _ arm_run
  all_goals exact .doneWith _ arm_run

theorem execPortEnable_run {o : Origin} {params : List Octet} (h : execPortEnable o params s = .next t) : Run W (d, s) (d, t) := by
  cases h
  exact State.direct_run fun _ => onPort_run State.portEnable_run

/-- A port in service that is disabled. -/
theorem PortRecord.Sound.disabled (h : r.Sound) (hs : serving r.state = true) :
    ({ r with state := .disabled, causes := .empty, wakePending := false } : PortRecord).Fits := by
  obtain ⟨rates, idle, testRef, returnTarget, heldReasons, heldStates, isolated, atRest, testing, heldOrder, dozing, causes, wake, off, on⟩ := h
  constructor <;> cases hst : r.state <;> simp_all [serving]

/-- A held port that is disabled keeps its reasons (R22). -/
theorem PortRecord.Sound.heldDisabled (h : r.Sound) (hs : r.state = .held) :
    ({ r with state := .disabled, returnTarget := none } : PortRecord).Fits := by
  obtain ⟨rates, idle, testRef, returnTarget, heldReasons, heldStates, isolated, atRest, testing, heldOrder, dozing, causes, wake, off, on⟩ := h
  constructor <;> simp_all

theorem State.portDisable_run (p : Port) : Run W (d, s) (d, s.portDisable p) := by
  have hserving (hs : serving (s.port p).state = true) :
      Run W (d, s) (d, s.changePort p { s.port p with state := .disabled, causes := .empty, wakePending := false }) :=
    changePort_run_of_sameRelays _ ⟨rfl, rfl, rfl, rfl⟩ rfl (by simp) fun h => h.disabled hs
  have hpost (x : Option Nat) (u : State) :
      Run W (d, u) (d, match x with | some id => u.post (.portDisabledReport id) | none => u) := by
    split
    · exact post_run _
    · exact .refl _
  unfold portDisable
  dsimp only
  split
  next hs => exact hserving (by rw [hs]; rfl)
  next hs => exact hserving (by rw [hs]; rfl)
  next hs => exact hserving (by rw [hs]; rfl)
  next hs => exact hserving (by rw [hs]; rfl)
  next hs => exact changePort_run_of_sameRelays _ ⟨rfl, rfl, rfl, rfl⟩ rfl (by simp) fun h => h.heldDisabled hs
  next hs =>
    exact .after (hpost _ _) (changePort_run_of_sameRelays _ ⟨rfl, rfl, rfl, rfl⟩ rfl (fun _ => rfl) fun h =>
      h.retargeted hs (fun _ => ⟨rfl, rfl⟩))
  next => exact .refl _

theorem execPortDisable_run {o : Origin} {params : List Octet} (h : execPortDisable o params s = .next t) : Run W (d, s) (d, t) := by
  cases h
  exact State.direct_run fun _ => onPort_run fun p => .doneWith _ (State.portDisable_run p)

/-! ## PORT_CLEAR and PORT_WAKE (R13, R16) -/

/-- A port on its restoring transfer, its reasons gone (R9, R13), in a state without a held order, lent or held. -/
theorem PortRecord.Sound.restored (h : r.Sound) (hs : r.state = .held ∨ r.state = .disabled) {x : Transfer} {l c : Bool} :
    ({ r with held := .empty, lineClosedCmd := l, testClosedCmd := c, position := .normal, transfer := some x, state := .disabled,
              returnTarget := none } : PortRecord).Fits ∧
      ({ r with held := .empty, lineClosedCmd := l, testClosedCmd := c, position := .normal, transfer := some x,
                returnTarget := none } : PortRecord).Returns := by
  obtain ⟨rates, idle, testRef, returnTarget, heldReasons, heldStates, isolated, atRest, testing, heldOrder, dozing, causes, wake, off, on⟩ := h
  have hany : HeldReasons.empty.any = false := rfl
  refine ⟨?_, ?_, ?_⟩
  · rcases hs with hs | hs <;> constructor <;> simp_all
  · intro c w k hc
    rcases hs with hs | hs <;> constructor <;> simp_all
  · intro c hc
    rcases hs with hs | hs <;> constructor <;> simp_all

theorem State.restored_relaysFollow (p : Port) (s : State) : (s.restored p).RelaysFollow :=
  ⟨rfl, fun x hx => by cases hx; rfl⟩

/-- A port that has returned to service is in DOWN or DOZE, with the held reasons of the record it returned with. -/
theorem State.port_returnToService (p : Port) (r : PortRecord) (w : Bool) (s : State) :
    ((s.returnToService p r w).port p).state ≠ .held ∧ ((s.returnToService p r w).port p).held = r.held := by
  unfold returnToService
  dsimp only
  split <;> simp [port_changePort]

theorem State.portClear_run (p : Port) : (s.portClear p).Runs W d s := by
  unfold portClear
  dsimp only
  split
  · next hs =>
    split
    · exact .refuse _
    · have howe : Run W (d, s) (d.owe (.line p), (s.clearFault (.line p) .relayMismatch).clearFault (.line p) .hazard) :=
        (Debt.owe_run _).trans ((Change.run (.clear _ _ fun _ => Or.inl rfl)).trans (Change.run (.clear _ _ fun _ => Or.inl rfl)))
      generalize hu : (s.clearFault (.line p) .relayMismatch).clearFault (.line p) .hazard = u at howe ⊢
      have hport : u.port p = s.port p := by rw [← hu]; rfl
      have hstate : (u.port p).state = .held ∨ (u.port p).state = .disabled := hport ▸ hs.imp_right And.left
      have hpaid {v : State} (hv : ¬v.latchedAt (.line p)) (h : Run W (d.owe (.line p), u) (d.owe (.line p), v)) : Run W (d, s) (d, v) :=
        howe.trans (h.trans ((Change.run (.settle _ hv)).trans (Debt.paid_run _)))
      have hreturns (x : PortRecord) (hheld : x.held = .empty) (hstate : x.state = .disabled) (htest : x.testClosedCmd = false)
          (hrelays : x.RelaysFollow) (hfits : (u.port p).Sound → x.Fits) : x.outOfUp.ordered.Follows (d.owe (.line p)) u p :=
        { sound := fun h => (hfits h).sound
          relays := fun _ => x.installed_relaysFollow.mpr hrelays
          lent := fun h => by simp [hstate] at h
          bus := fun h => by simp [htest] at h
          latched := fun _ => .inr (Or.inl rfl) }
      split
      · next hd =>
        have hd' : (u.port p).state = .disabled := hd
        refine .doneWith _ (hpaid ?_ (installPort_run p _ (hreturns _ rfl hd rfl (restored_relaysFollow p u) fun h => ?_)))
        · simp [latchedAt, port_installPort, hd', State.restored, HeldReasons.any, HeldReasons.empty]
        · have hnone : (u.port p).returnTarget = none := by
            have hd : (u.port p).state = .disabled := hd
            simpa [hd] using h.returnTarget
          have hfit := (h.restored hstate (x := u.settleOf .restoring) (l := true) (c := false)).1
          have hd : PortState.disabled = (u.port p).state := hd.symm
          rw [hd, ← hnone] at hfit
          exact hfit
      · split
        · refine .doneWith _ (hpaid ?_ (changePort_run p _ _ (hreturns _ rfl rfl rfl (restored_relaysFollow p u) fun h => (h.restored hstate).1)))
          simp [latchedAt, port_changePort, State.restored, HeldReasons.any, HeldReasons.empty]
        · refine .doneWith _ (hpaid ?_ (returnToService_run p _ _ (fun h => (h.restored hstate).2) (fun _ => restored_relaysFollow p u) nofun nofun))
          obtain ⟨hne, hheld⟩ := port_returnToService p { u.restored p with returnTarget := none } false u
          simp only [latchedAt, hheld, hne, false_or]
          exact nofun
  · exact .refuse _

theorem execPortClear_run {o : Origin} {params : List Octet} (h : execPortClear o params s = .next t) : Run W (d, s) (d, t) := by
  cases h
  exact State.direct_run fun _ => onPort_run State.portClear_run

theorem execPortWake_run {o : Origin} {params : List Octet} (h : execPortWake o params s = .next t) : Run W (d, s) (d, t) := by
  cases h
  refine State.direct_run fun u => onPort_run fun p => ?_
  unfold State.portWake
  split
  · exact .doneWith _ (State.wake_run p _)
  · exact .doneWith _ (State.wake_run p _)
  · exact .refuse _

/-- A directive that answers with data alone. -/
theorem onPort_read {params : List Octet} {data : Port → State → List Octet} (u : State) :
    (onPort params (fun p s => doneWith (data p s) s) u).state = u ∧ (onPort params (fun p s => doneWith (data p s) s) u).ifCut = u := by
  unfold onPort
  split <;> exact ⟨rfl, rfl⟩

theorem execPortStatus_run {o : Origin} {params : List Octet} (h : execPortStatus o params s = .next t) : Run W (d, s) (d, t) := by
  cases h
  exact State.direct_run_of_read onPort_read

end Sys2Proof.Machine
end

section
/-! SUPPORT. Frames in reception as runs of elementary changes. -/

namespace Sys2Proof.Machine

variable {W : Prop} {d : Debt} {s t : State} {src : Source} {r : Reception}

/-! ## Starts, cells, headers -/

/-- The reception `r` gets a header, a hit, or is marked dropped while it holds no cell. -/
theorem Reception.Follows.same {x : Reception} (h : s.reception src = some r) (queue : x.queue = r.queue)
    (dropped : src ≠ .craft → x.dropped ≠ none → x.cells = [] ∨ r.dropped ≠ none ∧ r.cells = x.cells) : x.Follows s src :=
  { queue := fun _ hq => .inr ⟨r, h, queue ▸ hq⟩
    dropped := fun hsrc hd => (dropped hsrc hd).imp_right fun hx => ⟨r, h, hx⟩ }

theorem Reception.held_eq (h : s.reception src = some r) : Reception.held (s.reception src) = r.cells := by
  rw [h]; rfl

theorem State.setStaleHeader_run (b : Bool) : Run W (d, s) (d, s.setStaleHeader b) :=
  Change.run (.classifier _ ⟨rfl, rfl, rfl⟩ fun h => ⟨h.active, h.candidate, h.path, h.fallback, h.mark⟩)

/-- A frame that starts without a cell. -/
theorem State.startEmpty_run (r : Reception) (h : s.reception src = none) (queue : r.queue = none) (cells : r.cells = []) :
    Run W (d, s) (d, s.setReception src (some r)) :=
  Change.run (.reception src r ⟨fun q hq => by simp [queue] at hq, fun _ _ => .inl cells⟩ (by rw [cells, h]; rfl))

theorem execFrameStart_run (h : execFrameStart src s = .next t) : Run W (d, s) (d, t) := by
  unfold execFrameStart at h
  split at h
  · cases h; exact .refl _
  · next hfree =>
    have hfree : s.reception src = none := by simpa using hfree
    split at h
    · next a ha =>
      split at h
      · next hroom => cases h; exact Change.run (.frameStart src a hfree ha hroom)
      · cases h; exact State.startEmpty_run _ hfree rfl rfl
    · have hstale : (s.setStaleHeader !s.craftAlive).reception src = none := by
        rw [← hfree]
        cases src <;> rfl
      dsimp only at h
      split at h
      · cases h; exact (State.setStaleHeader_run _).trans (State.startEmpty_run _ hstale rfl rfl)
      · cases h; exact State.setStaleHeader_run _

theorem State.dropFrame_run (why : DropReason) (old : Reception) (h : s.reception src = some old) (cells : r.cells = old.cells)
    (queue : ∀ q, r.queue = some q → Source.feeds src q ∨ old.queue = some q) : Run W (d, s) (d, s.dropFrame src why r) :=
  Change.run (.dropFrame src why r ⟨fun q hq => (queue q hq).imp_right fun hq => ⟨old, h, hq⟩, fun _ _ => .inl rfl⟩
    (cells.trans (Reception.held_eq h).symm))

theorem execCellRequest_run (h : execCellRequest src s = .next t) : Run W (d, s) (d, t) := by
  unfold execCellRequest at h
  split at h
  · next r a hr ha =>
    split at h
    · cases h; exact .refl _
    · next hgo =>
      obtain ⟨-, hdropped, -⟩ : ¬(r.header.isNone = true) ∧ ¬(r.dropped.isSome = true) ∧ ¬Config.maxFrameCells ≤ r.cells.length := by
        simpa only [not_or] using hgo
      split at h
      · next hroom =>
        have hone : 1 ≤ r.needs s.settings.expressReserve := by
          unfold Reception.needs
          split <;> omega
        cases h
        exact Change.run (.nextCell src a r hr (by simpa using hdropped) ha (hone.trans hroom))
      · cases h; exact State.dropFrame_run _ r hr rfl fun _ hq => .inr hq
  · cases h; exact .refl _

/-- A frame of a direction is queued for a queue that its source feeds (R32, R33). -/
theorem classify_feeds {e : FlowEntry} {arrival : Option Port} {vid : Nat} {mark : Bool} {priority : BitVec 3} {q : QueueId}
    (h : (s.classify e arrival vid mark priority).2 = some q)
    (hsrc : (∃ p, src = .line p ∧ e.direction = .up ∧ arrival = some p) ∨ (src = .uplink ∧ e.direction = .down)) : Source.feeds src q := by
  have hqueue (p : Port) (hp : e.queuedFor arrival = some p) (cls : FrameClass) : Source.feeds src (queueOf e.direction cls p) := by
    rcases hsrc with ⟨p', rfl, hdir, rfl⟩ | ⟨rfl, hdir⟩
    · obtain rfl : p' = p := by simpa [FlowEntry.queuedFor, hdir] using hp
      cases cls <;> simp [queueOf, hdir, Source.feeds]
    · cases cls <;> simp [queueOf, hdir, Source.feeds, QueueId.area]
  unfold State.classify at h
  dsimp only at h
  split at h
  · next hp => cases h; exact hqueue _ hp _
  · next hp => cases h; exact hqueue _ hp _
  · cases h

/-- An entry that a lookup finds has the key looked up (R30, R31). -/
theorem Bank.lookup_direction {b : Bank} {dir : Direction} {port : Option Port} {vid : Nat} {e : FlowEntry}
    (h : Bank.lookup b dir port vid = some e) : e.direction = dir := by
  unfold Bank.lookup at h
  obtain ⟨x, hx, rfl⟩ := Option.map_eq_some_iff.mp h
  have hkey := List.find?_some hx
  simp only [Bool.and_eq_true, beq_iff_eq] at hkey
  exact hkey.1.1

theorem State.headerHit_run (area : Area) (e : FlowEntry) (old : Reception) (res : Result × Option QueueId)
    (h : s.reception src = some old) (hold : old.dropped = none) (cells : r.cells = old.cells) (queue : r.queue = old.queue)
    (dropped : r.dropped = old.dropped) (feeds : ∀ q, res.2 = some q → Source.feeds src q) :
    Run W (d, s) (d, s.headerHit src area e r res) := by
  unfold headerHit
  dsimp only
  split
  · exact dropFrame_run _ old h cells fun _ hq => .inr (queue ▸ hq)
  · split
    · exact dropFrame_run _ old h cells fun _ hq => .inl (feeds _ hq)
    · exact Change.run (.reception src _ ⟨fun q hq => .inl (feeds q hq), fun _ hd => absurd (dropped.trans hold) hd⟩
        (cells.trans (Reception.held_eq h).symm))

theorem State.lookupFrame_run (area : Area) (dir : Direction) (arrival : Option Port) (vid : Nat) (mark : Bool) (priority : BitVec 3)
    (old : Reception) (h : s.reception src = some old) (hold : old.dropped = none) (cells : r.cells = old.cells)
    (queue : r.queue = old.queue) (dropped : r.dropped = old.dropped)
    (hsrc : (∃ p, src = .line p ∧ dir = .up ∧ arrival = some p) ∨ (src = .uplink ∧ dir = .down)) :
    Run W (d, s) (d, s.lookupFrame src area dir arrival vid mark priority r) := by
  unfold lookupFrame
  split
  · exact dropFrame_run _ old h cells fun _ hq => .inr (queue ▸ hq)
  · next e he =>
    exact headerHit_run area e old _ h hold cells queue dropped fun _ hq => classify_feeds hq (Bank.lookup_direction he ▸ hsrc)

theorem State.upstream_run (p : Port) (x : FrameHeader) (old : Reception) (h : s.reception (.line p) = some old) (hold : old.dropped = none)
    (cells : r.cells = old.cells) (queue : r.queue = old.queue) (dropped : r.dropped = old.dropped) :
    Run W (d, s) (d, s.upstream p x r) := by
  have hdrop (why : DropReason) : Run W (d, s) (d, s.dropFrame (.line p) why r) :=
    dropFrame_run why old h cells fun _ hq => .inr (queue ▸ hq)
  have hlookup (vid : Nat) (mark : Bool) (priority : BitVec 3) :
      Run W (d, s) (d, s.lookupFrame (.line p) .upstream .up (some p) vid mark priority r) :=
    lookupFrame_run _ _ _ _ _ _ old h hold cells queue dropped (.inl ⟨p, rfl, rfl, rfl⟩)
  unfold upstream
  split
  · exact hdrop _
  · split
    · split
      · exact hdrop _
      · exact hlookup _ _ _
    · exact hlookup _ _ _

theorem State.downstream_run (x : FrameHeader) (old : Reception) (h : s.reception .uplink = some old) (hold : old.dropped = none)
    (cells : r.cells = old.cells) (queue : r.queue = old.queue) (dropped : r.dropped = old.dropped) :
    Run W (d, s) (d, s.downstream x r) := by
  unfold downstream
  split
  · exact dropFrame_run _ old h cells fun _ hq => .inr (queue ▸ hq)
  · exact lookupFrame_run _ _ _ _ _ _ old h hold cells queue dropped (.inr ⟨rfl, rfl⟩)

/-- A frame that stays dropped gets its header. -/
theorem State.headerOnly_run {x : Option FrameHeader} (h : s.reception src = some r) :
    Run W (d, s) (d, s.setReception src (some { r with header := x })) :=
  Change.run (.reception src _ (.same h rfl fun _ hd => .inr ⟨hd, rfl⟩) (Reception.held_eq h).symm)

theorem execUpstreamHeader_run {p : Port} {o : HeaderOctets} (h : execUpstreamHeader p o s = .next t) : Run W (d, s) (d, t) := by
  unfold execUpstreamHeader at h
  dsimp only at h
  split at h
  · cases h; exact .refl _
  · next r hr =>
    split at h
    · cases h; exact .refl _
    · split at h
      · cases h; exact State.headerOnly_run hr
      · next hd => cases h; exact State.upstream_run p _ r hr (by simpa using hd) rfl rfl rfl

theorem execDownstreamHeader_run {o : HeaderOctets} (h : execDownstreamHeader o s = .next t) : Run W (d, s) (d, t) := by
  unfold execDownstreamHeader at h
  dsimp only at h
  split at h
  · cases h; exact .refl _
  · next r hr =>
    split at h
    · cases h; exact .refl _
    · split at h
      · cases h; exact State.headerOnly_run hr
      · next hd => cases h; exact State.downstream_run _ r hr (by simpa using hd) rfl rfl rfl

theorem execCraftHeader_run {o : HeaderOctets} (h : execCraftHeader o s = .next t) : Run W (d, s) (d, t) := by
  unfold execCraftHeader at h
  dsimp only at h
  split at h
  · next r hr =>
    split at h
    · cases h; exact .refl _
    · cases h; exact Change.run (.reception .craft _ (.same hr rfl fun hne => absurd rfl hne) (Reception.held_eq hr).symm)
  · next hfree =>
    split at h
    · cases h; exact State.setStaleHeader_run _
    · split at h <;> cases h
      · exact State.startEmpty_run _ hfree rfl rfl
      · exact .refl _

/-! ## The end of a frame -/

/-- The classifier with other drop counters or marks. -/
theorem State.classifier_run (c : Classifier) (rx : c.rxLine = s.fcl.rxLine ∧ c.rxUplink = s.fcl.rxUplink ∧ c.rxCraft = s.fcl.rxCraft)
    (h : s.fcl.Sound → c.Sound) : Run W (d, s) (d, { s with fcl := c }) := Change.run (.classifier c rx h)

/-- What a classifier's soundness speaks of (R37, R42). -/
theorem Classifier.Sound.of_same {c x : Classifier} (h : c.Sound) (active : x.active = c.active) (candidate : x.candidate = c.candidate)
    (trial : x.trial = c.trial) (mark : x.mark = c.mark) : x.Sound :=
  { active := active ▸ h.active, candidate := candidate ▸ h.candidate, path := active ▸ h.path
    fallback := candidate ▸ trial ▸ h.fallback, mark := mark ▸ trial ▸ h.mark }

theorem State.countLine_run (p : Port) (f : LineDrops → LineDrops) : Run W (d, s) (d, s.countLine p f) :=
  classifier_run _ ⟨rfl, rfl, rfl⟩ fun h => h.of_same rfl rfl rfl rfl

theorem State.countUplink_run (f : UplinkDrops → UplinkDrops) : Run W (d, s) (d, s.countUplink f) :=
  classifier_run _ ⟨rfl, rfl, rfl⟩ fun h => h.of_same rfl rfl rfl rfl

theorem State.countCraft_run (f : CraftDrops → CraftDrops) : Run W (d, s) (d, s.countCraft f) :=
  classifier_run _ ⟨rfl, rfl, rfl⟩ fun h => h.of_same rfl rfl rfl rfl

theorem State.countBuffer_run (p : Port) (f : BufferDrops → BufferDrops) : Run W (d, s) (d, s.countBuffer p f) := Change.run (.drops _ _)

theorem State.countLength_run (src : Source) : Run W (d, s) (d, s.countLength src) := by
  unfold countLength
  cases src with
  | line p => exact countLine_run _ _
  | uplink => exact countUplink_run _
  | craft => exact countCraft_run _

theorem State.countFcs_run (src : Source) : Run W (d, s) (d, s.countFcs src) := by
  unfold countFcs
  cases src with
  | line p => exact countLine_run _ _
  | uplink => exact countUplink_run _
  | craft => exact countCraft_run _

theorem State.countDrop_run (src : Source) (why : DropReason) (r : Reception) : Run W (d, s) (d, s.countDrop src why r) := by
  unfold countDrop
  split
  · cases src with
    | line p => exact countBuffer_run _ _
    | uplink =>
      unfold countPoolFull
      dsimp only
      split
      · exact countBuffer_run _ _
      · exact Change.run (.drops _ _)
    | craft => exact .refl _
  · cases src with
    | line p => exact countLine_run _ _
    | uplink => exact countUplink_run _
    | craft => exact countCraft_run _

/-- A bank with other counters and stamps in its entries is as sound. -/
theorem Bank.Sound.map {b : Bank} (h : b.Sound) (f : Nat × FlowEntry → Nat × FlowEntry) (index : ∀ x, (f x).1 = x.1)
    (made : ∀ x, (f x).2.wellMade = x.2.wellMade) (key : ∀ x y, (f x).2.sameKey (f y).2 = x.2.sameKey y.2) : Bank.Sound (b.map f) :=
  { rising := List.pairwise_map.mpr (h.rising.imp fun hxy => by rwa [index, index])
    within := by
      simp only [List.mem_map, forall_exists_index, and_imp, forall_apply_eq_imp_iff₂]
      exact fun x hx => index x ▸ h.within x hx
    made := by
      simp only [List.mem_map, forall_exists_index, and_imp, forall_apply_eq_imp_iff₂]
      exact fun x hx => made x ▸ h.made x hx
    keys := List.pairwise_map.mpr (h.keys.imp fun hxy => by rwa [key]) }

/-- A bank holds an AGENT entry after counting as before. -/
theorem Bank.hasAgent_map {b : Bank} (f : Nat × FlowEntry → Nat × FlowEntry) (action : ∀ x, (f x).2.action = x.2.action) :
    Bank.hasAgent (b.map f) = Bank.hasAgent b := by
  simp only [Bank.hasAgent, List.any_map, Function.comp_def, action]

theorem Bank.Sound.countHit {b : Bank} (h : b.Sound) (stamp : Nat) : Bank.Sound (countHit stamp b) := by
  refine h.map _ (fun x => ?_) (fun x => ?_) (fun x y => ?_)
  · split <;> rfl
  · split <;> rfl
  · split <;> split <;> rfl

theorem Bank.hasAgent_countHit (stamp : Nat) (b : Bank) : Bank.hasAgent (countHit stamp b) = Bank.hasAgent b :=
  hasAgent_map _ fun x => by split <;> rfl

theorem State.countHits_run (r : Reception) : Run W (d, s) (d, s.countHits r) := by
  unfold countHits
  split
  · exact .refl _
  · exact classifier_run _ ⟨rfl, rfl, rfl⟩ fun h =>
      { active := h.active.countHit _, candidate := h.candidate.countHit _, path := (Bank.hasAgent_countHit _ _).trans h.path
        fallback := fun ht => (Bank.hasAgent_countHit _ _).trans (h.fallback ht), mark := h.mark }

theorem State.restartIdle_run (p : Port) : Run W (d, s) (d, s.restartIdle p) := by
  unfold restartIdle
  dsimp only
  split
  · next hup => exact modifyPort_run p _ (.of_sameRelays ⟨rfl, rfl, rfl, rfl⟩ rfl (fun _ => rfl) fun h => { h with idleTimer := fun _ => hup.1 }) rfl (.inl hup.1)
  · exact .refl _

theorem State.receivedGood_run (src : Source) (length : Nat) : Run W (d, s) (d, s.receivedGood src length) := by
  cases src with
  | line p => exact (countPort_run p _).trans (restartIdle_run p)
  | uplink => exact .refl _
  | craft => exact .refl _

/-! ## Admission (R55) -/

theorem State.reportActivity_run (p : Port) (hup : (s.port p).state = .up) : Run W (d, s) (d, s.reportActivity p) := by
  have hactive : Run W (d, s) (d, { s with scu := { s.scu with
      activity := s.scu.activity.set p (some (s.now + ms s.settings.activityWindow)) } }) :=
    Change.run (.activity _ fun q hq => by
      by_cases h : q = p
      · exact .inl (h ▸ hup)
      · rw [Row.get_set_ne _ _ h] at hq
        exact .inr hq)
  unfold reportActivity
  dsimp only
  split
  · exact hactive
  · exact hactive.trans trigger_run

theorem State.admitted_run (q : QueueId) (hup : ∀ p, q.port = some p → (s.port p).state = .up) : Run W (d, s) (d, s.admitted q) := by
  unfold admitted
  split
  · exact (reportActivity_run _ (hup _ rfl)).trans uplinkChoice_run
  · exact (reportActivity_run _ (hup _ rfl)).trans uplinkChoice_run
  · exact (restartIdle_run _).trans (lineChoice_run _)
  · exact (restartIdle_run _).trans (lineChoice_run _)
  · exact .refl _
  · exact .refl _

/-- What becomes of the cells of a frame that is out of reception. -/
def Debt.freed (d : Debt) : Debt := { d with loose := .none }

theorem State.acceptDescriptor_run (p : Port) (x : Descriptor) (hd : d.loose = some (src, r)) (hq : r.queue = some x.queue)
    (hsrc : src ≠ .craft) (cells : x.cells = r.cells) (hp : x.queue.port = some p) :
    Run W (d, s) (d.freed, s.acceptDescriptor p x) := by
  have hrefuse (f : BufferDrops → BufferDrops) :
      Run W (d, s) (d.freed, (s.freeCells x.queue.area x.cells.length).countBuffer p f) := by
    rw [cells]
    exact (Change.run (.refuseLoose src r _ hd hq hsrc)).trans (countBuffer_run p f)
  unfold acceptDescriptor
  split
  · exact hrefuse _
  · next hup =>
    have hup : (s.port p).state = .up := by simpa using hup
    split
    · exact hrefuse _
    · refine (Change.run (.admitLoose src r p x hd hq hsrc cells hp hup)).trans (admitted_run _ fun p' hp' => ?_)
      obtain rfl : p = p' := Option.some.inj (hp.symm.trans hp')
      simpa [State.port] using hup

theorem State.handOver_run (f : AgentFrame) : Run W (d, s) (d, s.handOver f) := by
  unfold handOver
  split
  · split
    · exact Change.run (.agent _ rfl rfl id)
    · exact .after callTakeIn_run (Change.run (.agent _ rfl rfl id))
  · exact .after callTakeIn_run (Change.run (.agent _ rfl rfl id))

theorem State.handOnFrame_run (length : Nat) (payload : List Octet) (hd : d.loose = some (src, r)) :
    Run W (d, s) (d.freed, s.handOnFrame src length payload r) := by
  have hreturn : Run W (d, s) (d.freed, s.returnCells src r.cells.length) := Change.run (.returnLoose src r hd)
  unfold handOnFrame
  split
  · exact (Change.run (.emptyLoose _ r hd (.inr rfl))).trans (handOver_run _)
  · next hcraft hh hres hq =>
    split
    · next p hp =>
      exact acceptDescriptor_run p _ hd hq (fun hc => hcraft hc) rfl hp
    · exact hreturn
  · exact hreturn.trans (handOver_run _)
  · exact hreturn

theorem State.endGood_run (length : Nat) (payload : List Octet) (hd : d.loose = some (src, r)) :
    Run W (d, s) (d.freed, s.endGood src length payload r) := by
  have hcounted : Run W (d, s) (d, (s.receivedGood src length).countHits r) := (receivedGood_run src length).trans (countHits_run r)
  unfold endGood
  dsimp only
  split
  · next hwhy =>
    exact hcounted.trans ((Change.run (.emptyLoose src r hd (.inl (by simp [hwhy])))).trans (countDrop_run src _ r))
  · exact hcounted.trans (handOnFrame_run length payload hd)

/-- The end of a frame takes it out of reception, and its cells are returned or handed on with it (R25, R26). -/
theorem State.endFrame_run (src : Source) (length : Nat) (fcsGood : Bool) (payload : List Octet) (hd : d.loose = none) :
    Run W (d, s) (d, s.endFrame src length fcsGood payload) := by
  have hfreed (x : Source × Reception) : ({ d with loose := some x } : Debt).freed = d := by
    simp only [Debt.freed, ← hd]
  unfold endFrame
  split
  · exact .refl _
  · next r hr =>
    refine (Change.run (.takeOut src r hr hd)).trans ?_
    generalize s.setReception src none = u
    have hreturn : Run W ({ d with loose := some (src, r) }, u) (d, u.returnCells src r.cells.length) := by
      conv => rhs; rw [← hfreed (src, r)]
      exact Change.run (.returnLoose src r rfl)
    dsimp only
    split
    · exact hreturn.trans (countLength_run src)
    · split
      · exact hreturn.trans (countFcs_run src)
      · conv => rhs; rw [← hfreed (src, r)]
        exact endGood_run length payload rfl

theorem execFrameEnd_run {length : Nat} {fcsGood : Bool} {payload : List Octet} (hd : d.loose = none)
    (h : execFrameEnd src length fcsGood payload s = .next t) : Run W (d, s) (d, t) := by
  unfold execFrameEnd at h
  split at h <;> cases h
  · exact State.setStaleHeader_run _
  · exact State.endFrame_run src length fcsGood payload hd

end Sys2Proof.Machine
end

section
/-! SUPPORT. The Share Computation Unit's, the Transmit Scheduler's and the flow table's commands as runs of elementary changes. -/

namespace Sys2Proof.Machine

variable {W : Prop} {d : Debt} {s t : State} {p : Port}

/-! ## The Share Computation Unit -/

theorem execActivityTimerExpiry_run (h : execActivityTimerExpiry p s = .next t) : Run W (d, s) (d, t) := by
  unfold execActivityTimerExpiry at h
  split at h
  · cases h; exact .refl _
  · next e he =>
    dsimp only at h
    refine (State.reach_run e).trans ?_
    split at h <;> cases h
    · exact .after State.trigger_run (Change.run (.activity _ fun q hq => .inr fun hnone => hq (by
        by_cases hqp : q = p
        · rw [hqp, Row.get_set_self]
        · rw [Row.get_set_ne _ _ hqp]; exact hnone)))
    · exact Change.run (.activity _ fun q hq => .inr (by
        by_cases hqp : q = p
        · rw [hqp]; exact fun hnone => absurd (he.symm.trans hnone) nofun
        · rwa [Row.get_set_ne _ _ hqp] at hq))

theorem execCapacityReport_run {capacity : Nat} (h : execCapacityReport capacity s = .next t) : Run W (d, s) (d, t) := by
  unfold execCapacityReport at h
  dsimp only at h
  split at h <;> cases h
  · exact .after State.trigger_run (Change.run (.link s.scu.linkUp _))
  · exact Change.run (.link s.scu.linkUp _)

theorem execUplinkLinkStateChange_run {up : Bool} (h : execUplinkLinkStateChange up s = .next t) : Run W (d, s) (d, t) := by
  unfold execUplinkLinkStateChange at h
  split at h
  · cases h; exact .refl _
  · split at h <;> cases h
    · exact .after State.uplinkChoice_run (.after State.tryNoticeFrame_run (.after (State.clearFault_run rfl)
        (.after State.trigger_run (Change.run (.link true s.scu.latestReport)))))
    · exact .after (State.raiseFault_run _ _ rfl _) (.after State.trigger_run (Change.run (.link false s.scu.latestReport)))

theorem State.installShares_run (c : Computation) (h : s.scu.computation = some c) : Run W (d, s) (d, s.installShares c) := by
  have hshares : Run W (d, s) (d, { s with scu := { s.scu with table := c.install s.scu.table } }) := Change.run (.shares c h)
  unfold installShares
  dsimp only
  split
  · exact hshares
  · exact hshares.trans (raiseNotice_run _)

theorem execComputationComplete_run (h : execComputationComplete s = .next t) : Run W (d, s) (d, t) := by
  unfold execComputationComplete at h
  split at h
  · cases h; exact .refl _
  · next c hc =>
    dsimp only at h
    have hidle : Run W (d, s) (d, { s.installShares c with scu := { (s.installShares c).scu with computation := none } }) :=
      (State.installShares_run c hc).trans (Change.run .computed)
    split at h <;> cases h
    · exact hidle.trans State.trigger_run
    · exact hidle

theorem execShareRead_run {o : Origin} {params : List Octet} (h : execShareRead o params s = .next t) : Run W (d, s) (d, t) := by
  cases h
  exact State.direct_run_of_read fun _ => ⟨rfl, rfl⟩

theorem execShareRecompute_run {o : Origin} {params : List Octet} (h : execShareRecompute o params s = .next t) : Run W (d, s) (d, t) := by
  cases h
  exact State.direct_run fun _ => .doneWith _ State.trigger_run

/-! ## The Transmit Scheduler -/

/-- A refill from a rate of 0 leaves an empty bucket empty (R84). -/
theorem Bucket.refill_zero {depth now : Nat} {b : Bucket} (h : b.tokens = 0 ∧ b.remainder = 0) :
    (Bucket.refill 0 depth now b).tokens = 0 ∧ (Bucket.refill 0 depth now b).remainder = 0 := by
  simp [Bucket.refill, h.1, h.2]

/-- One row's entry refilled, the others as they were. -/
theorem emptyAfterRefill {v : Row 16 Bucket} {p q : Port} {rate depth now : Nat} (h : (v.get q).tokens = 0 ∧ (v.get q).remainder = 0)
    (hrate : q = p → rate = 0) :
    ((v.modify p (Bucket.refill rate depth now)).get q).tokens = 0 ∧ ((v.modify p (Bucket.refill rate depth now)).get q).remainder = 0 := by
  rw [Row.get_modify]
  split
  · next hq => subst hq; rw [hrate rfl]; exact Bucket.refill_zero h
  · exact h

theorem execUpstreamRefill_run (h : execUpstreamRefill p s = .next t) : Run W (d, s) (d, t) := by
  cases h
  refine (State.reach_run _).trans (.after State.uplinkChoice_run (Change.run (.buckets _ _ fun q hq _ => ⟨?_, hq.down⟩)))
  exact emptyAfterRefill hq.up fun hqp => by subst hqp; rw [hq.grant]; rfl

theorem execDownstreamRefill_run (h : execDownstreamRefill p s = .next t) : Run W (d, s) (d, t) := by
  cases h
  refine (State.reach_run _).trans (.after (State.lineChoice_run p) (Change.run (.buckets _ _ fun q hq hout => ⟨hq.up, ?_⟩)))
  refine emptyAfterRefill hq.down fun hqp => ?_
  subst hqp
  unfold State.downRate
  split
  · next hup _ => exact absurd hup hout
  · rfl

/-- The scheduler with another mark, its buckets and transmitters as they were. -/
theorem State.scheduler_run (x : Scheduler) (h : x.uplinkTx = s.txs.uplinkTx ∧ x.lineTx = s.txs.lineTx ∧ x.craftTx = s.txs.craftTx ∧
    x.upBuckets = s.txs.upBuckets ∧ x.downBuckets = s.txs.downBuckets) : Run W (d, s) (d, { s with txs := x }) :=
  Change.run (.scheduler x h)

theorem execPauseChange_run {on : Bool} (h : execPauseChange on s = .next t) : Run W (d, s) (d, t) := by
  unfold execPauseChange at h
  dsimp only at h
  split at h <;> cases h
  · exact .after State.uplinkChoice_run (State.scheduler_run _ ⟨rfl, rfl, rfl, rfl, rfl⟩)
  · exact State.scheduler_run _ ⟨rfl, rfl, rfl, rfl, rfl⟩

theorem execUplinkCompletion_run (h : execUplinkCompletion s = .next t) : Run W (d, s) (d, t) := by
  unfold execUplinkCompletion at h
  split at h
  · cases h; exact .refl _
  · next x hx =>
    cases h
    refine (Change.run (.uplinkDone x hx)).trans (.after State.uplinkChoice_run ?_)
    split
    · exact State.afterAgentFrames_run _
    · exact .refl _

theorem execLineCompletion_run (h : execLineCompletion p s = .next t) : Run W (d, s) (d, t) := by
  unfold execLineCompletion at h
  split at h
  · cases h; exact .refl _
  · next x hx =>
    cases h
    exact (Change.run (.lineDone p x hx)).trans (.after (State.lineChoice_run p) (State.countPort_run p _))

theorem execCraftCompletion_run (h : execCraftCompletion s = .next t) : Run W (d, s) (d, t) := by
  unfold execCraftCompletion at h
  split at h
  · cases h; exact .refl _
  · next x hx =>
    cases h
    exact (Change.run (.craftDone x hx)).trans (.after State.craftChoice_run (State.afterAgentFrames_run _))

theorem execCraftLinkChange_run {up : Bool} (h : execCraftLinkChange up s = .next t) : Run W (d, s) (d, t) := by
  unfold execCraftLinkChange at h
  dsimp only at h
  split at h <;> cases h
  · exact .after State.craftChoice_run (State.scheduler_run _ ⟨rfl, rfl, rfl, rfl, rfl⟩)
  · exact .after State.discardCraft_run (State.scheduler_run _ ⟨rfl, rfl, rfl, rfl, rfl⟩)

/-! ## Banks (R37 to R40) -/

theorem Bank.Sound.nil : Bank.Sound [] := ⟨.nil, nofun, nofun, .nil⟩

theorem Bank.Sound.clear {b : Bank} (h : b.Sound) (index : Nat) : Bank.Sound (b.clear index) :=
  { rising := h.rising.filter _
    within := fun x hx => h.within x (List.mem_of_mem_filter hx)
    made := fun x hx => h.made x (List.mem_of_mem_filter hx)
    keys := h.keys.filter _ }

theorem Bank.mem_insert {index : Nat} {e : FlowEntry} {b : Bank} {x : Nat × FlowEntry} :
    x ∈ Bank.insert index e b ↔ x = (index, e) ∨ x ∈ b := by
  induction b with
  | nil => simp [Bank.insert]
  | cons y ys ih =>
    unfold Bank.insert
    split
    · exact List.mem_cons
    · rw [List.mem_cons, ih, List.mem_cons, or_left_comm]

theorem Bank.insert_pairwise {R : Nat × FlowEntry → Nat × FlowEntry → Prop} {index : Nat} {e : FlowEntry} {b : Bank}
    (h : b.Pairwise R) (before : ∀ x ∈ b, index < x.1 → R (index, e) x) (after : ∀ x ∈ b, ¬index < x.1 → R x (index, e))
    (rising : b.Pairwise fun x y => x.1 < y.1) : (Bank.insert index e b).Pairwise R := by
  induction b with
  | nil => exact List.pairwise_singleton _ _
  | cons y ys ih =>
    rw [List.pairwise_cons] at h rising
    unfold Bank.insert
    split
    · next hlt =>
      refine List.pairwise_cons.mpr ⟨fun x hx => ?_, List.pairwise_cons.mpr h⟩
      refine before x hx ?_
      rcases List.mem_cons.mp hx with rfl | hx
      · exact hlt
      · exact hlt.trans (rising.1 x hx)
    · next hge =>
      refine List.pairwise_cons.mpr ⟨fun x hx => ?_, ih h.2 (fun x hx => before x (.tail _ hx)) (fun x hx => after x (.tail _ hx)) rising.2⟩
      rcases Bank.mem_insert.mp hx with rfl | hx
      · exact after y (.head _) hge
      · exact h.1 x hx

theorem FlowEntry.sameKey_comm (x y : FlowEntry) : x.sameKey y = y.sameKey x := by
  simp only [FlowEntry.sameKey, Bool.beq_comm (a := x.direction), Bool.beq_comm (a := x.port), Bool.beq_comm (a := x.vid)]

/-- An entry whose key no other index holds is put in its place (R40). -/
theorem Bank.Sound.put {b : Bank} (h : b.Sound) {index : Nat} {e : FlowEntry} (within : index < 256) (made : e.wellMade = true)
    (free : b.holdsKey index e = false) : Bank.Sound (b.put index e) := by
  have hclear := h.clear index
  have hother (x : Nat × FlowEntry) (hx : x ∈ b.clear index) : x.1 ≠ index ∧ x.2.sameKey e = false := by
    obtain ⟨hmem, hne⟩ := List.mem_filter.mp hx
    have hne : x.1 ≠ index := by simpa using hne
    have hkey := List.any_eq_false.mp free x hmem
    exact ⟨hne, by simpa [hne] using hkey⟩
  exact
    { rising := insert_pairwise hclear.rising (fun _ _ hlt => hlt)
        (fun x hx hge => lt_of_le_of_ne (Nat.le_of_not_lt hge) (hother x hx).1) hclear.rising
      within := fun x hx => (mem_insert.mp hx).elim (fun hx => hx ▸ within) (hclear.within x)
      made := fun x hx => (mem_insert.mp hx).elim (fun hx => hx ▸ made) (hclear.made x)
      keys := insert_pairwise hclear.keys (fun x hx _ => (FlowEntry.sameKey_comm _ _).trans (hother x hx).2)
        (fun x hx _ => (hother x hx).2) hclear.rising }

/-- What a copied bank's entries are: those of the bank it was copied from but for hit counters and stamps (R39). -/
theorem Bank.copied_eq_mapIdx (b : Bank) (stamp : Nat) :
    Bank.copied stamp b = b.mapIdx fun i x => (x.1, { x.2 with hits := 0#32, stamp := stamp + i }) := by
  induction b generalizing stamp with
  | nil => rfl
  | cons x xs ih => simp [Bank.copied, ih, Nat.add_assoc, Nat.add_comm 1]

theorem Bank.forall_mem_copied {b : Bank} {stamp : Nat} {P : Nat × FlowEntry → Prop}
    (h : ∀ x ∈ b, ∀ n, P (x.1, { x.2 with hits := 0#32, stamp := n })) : ∀ x ∈ Bank.copied stamp b, P x := by
  induction b generalizing stamp with
  | nil => nofun
  | cons y ys ih =>
    intro x hx
    rcases List.mem_cons.mp hx with rfl | hx
    · exact h y (.head _) _
    · exact ih (fun z hz => h z (.tail _ hz)) x hx

theorem Bank.copied_pairwise {b : Bank} {stamp : Nat} {R S : Nat × FlowEntry → Nat × FlowEntry → Prop} (h : b.Pairwise R)
    (hS : ∀ x y, R x y → ∀ m n, S (x.1, { x.2 with hits := 0#32, stamp := m }) (y.1, { y.2 with hits := 0#32, stamp := n })) :
    (Bank.copied stamp b).Pairwise S := by
  induction b generalizing stamp with
  | nil => exact .nil
  | cons y ys ih =>
    rw [List.pairwise_cons] at h
    exact List.pairwise_cons.mpr ⟨forall_mem_copied fun x hx n => hS y x (h.1 x hx) _ n, ih h.2⟩

theorem Bank.Sound.copied {b : Bank} (h : b.Sound) (stamp : Nat) : Bank.Sound (Bank.copied stamp b) :=
  { rising := copied_pairwise h.rising fun _ _ hxy _ _ => hxy
    within := forall_mem_copied fun x hx _ => h.within x hx
    made := forall_mem_copied fun x hx _ => h.made x hx
    keys := copied_pairwise h.keys fun _ _ hxy _ _ => hxy }

/-! ## The flow table's directives (R39 to R46) -/

/-- Outside a trial the candidate is edited and the classifier stays sound. -/
theorem Classifier.Sound.edited {c : Classifier} (h : c.Sound) (ht : c.trial = none) {b : Bank} (hb : b.Sound) {n : Nat} :
    ({ c with candidate := b, mark := .open, nextStamp := n } : Classifier).Sound :=
  { active := h.active, candidate := hb, path := h.path, fallback := by simp [ht], mark := by simp [ht] }

theorem Classifier.Sound.reverted {c : Classifier} (h : c.Sound) (ht : c.trial.isSome = true) :
    ({ c.swap with mark := .rejected, trial := none } : Classifier).Sound :=
  { active := h.candidate, candidate := h.active, path := h.fallback ht, fallback := nofun, mark := by simp }

theorem State.revertTrial_run (ht : s.fcl.trial.isSome = true) : Run W (d, s) (d, s.revertTrial) :=
  classifier_run _ ⟨rfl, rfl, rfl⟩ fun h => h.reverted ht

theorem execTrialTimerExpiry_run (h : execTrialTimerExpiry s = .next t) : Run W (d, s) (d, t) := by
  unfold execTrialTimerExpiry at h
  split at h
  · cases h; exact .refl _
  · next x hx =>
    cases h
    refine .after (State.raiseNotice_run _) (.after (State.revertTrial_run ?_) (State.reach_run _))
    exact Option.isSome_iff_exists.mpr ⟨x, hx⟩

theorem State.ftClear_run : Answer.Runs W d s s.ftClear := by
  unfold ftClear
  split
  · exact .refuse _
  · next ht => exact .doneWith _ (classifier_run _ ⟨rfl, rfl, rfl⟩ fun h => h.edited (by simpa using ht) .nil)

theorem execFtCandidateClear_run {o : Origin} {params : List Octet} (h : execFtCandidateClear o params s = .next t) :
    Run W (d, s) (d, t) := by
  cases h
  exact State.direct_run fun _ => State.ftClear_run

theorem execFtCandidateCopy_run {o : Origin} {params : List Octet} (h : execFtCandidateCopy o params s = .next t) : Run W (d, s) (d, t) := by
  cases h
  refine State.direct_run fun u => ?_
  unfold State.ftCopy
  split
  · exact .refuse _
  · next ht => exact .doneWith _ (State.classifier_run _ ⟨rfl, rfl, rfl⟩ fun h => h.edited (by simpa using ht) (h.active.copied _))

/-- A written entry stands together and its index is one of the bank (R40). -/
theorem ftForm_write {params : List Octet} {index : Nat} {e : FlowEntry} (h : ftForm params = .write index e) :
    index < 256 ∧ e.wellMade = true := by
  unfold ftForm at h
  split at h
  · next index' _ _ _ _ _ _ _ _ _ _ =>
    split at h
    · cases h
    · split at h
      · split at h
        · extract_lets retag e at h
          split at h
          · next hmade => obtain ⟨rfl, rfl⟩ := FtForm.write.inj h; exact ⟨index'.isLt, hmade⟩
          · cases h
        · cases h
      · cases h
  · cases h

theorem State.ftWrite_run (params : List Octet) : (s.ftWrite params).Runs W d s := by
  unfold ftWrite
  split
  · exact .refuse _
  · split
    · exact .refuse _
    · next ht => exact .doneWith _ (classifier_run _ ⟨rfl, rfl, rfl⟩ fun h => h.edited (by simpa using ht) (h.candidate.clear _))
  · next index e hform =>
    obtain ⟨hindex, hmade⟩ := ftForm_write hform
    split
    · exact .refuse _
    · next ht =>
      split
      · exact .refuse _
      · next hkey =>
        refine .doneWith _ (classifier_run _ ⟨rfl, rfl, rfl⟩ fun h => h.edited (by simpa using ht) (h.candidate.put hindex ?_ ?_))
        · exact hmade
        · exact Bool.eq_false_iff.mpr hkey

theorem execFtWrite_run {o : Origin} {params : List Octet} (h : execFtWrite o params s = .next t) : Run W (d, s) (d, t) := by
  cases h
  exact State.direct_run fun _ => State.ftWrite_run params

theorem execFtRead_run {o : Origin} {params : List Octet} (h : execFtRead o params s = .next t) : Run W (d, s) (d, t) := by
  cases h
  refine State.direct_run_of_read fun u => ?_
  unfold State.ftRead
  split
  · split <;> exact ⟨rfl, rfl⟩
  · exact ⟨rfl, rfl⟩

theorem State.ftActivate_run (params : List Octet) : (s.ftActivate params).Runs W d s := by
  unfold ftActivate
  split
  · exact .refuse _
  · dsimp only
    split
    · exact .refuse _
    · split
      · exact .refuse _
      · split
        · exact .refuse _
        · split
          · exact .refuse _
          · next hagent =>
            have hagent : s.fcl.candidate.hasAgent = true := by simpa using hagent
            exact .doneWith _ (classifier_run _ ⟨rfl, rfl, rfl⟩ fun h =>
              { active := h.candidate, candidate := h.active, path := hagent, fallback := fun _ => h.path, mark := by simp })

theorem execFtActivate_run {o : Origin} {params : List Octet} (h : execFtActivate o params s = .next t) : Run W (d, s) (d, t) := by
  cases h
  exact State.direct_run fun _ => State.ftActivate_run params

theorem execFtConfirm_run {o : Origin} {params : List Octet} (h : execFtConfirm o params s = .next t) : Run W (d, s) (d, t) := by
  cases h
  refine State.direct_run fun u => ?_
  unfold State.ftConfirm
  split
  · exact .refuse _
  · split
    · exact .refuse _
    · exact .doneWith _ (State.classifier_run _ ⟨rfl, rfl, rfl⟩ fun h =>
        { active := h.active, candidate := .nil, path := h.path, fallback := nofun, mark := by simp })

theorem execFtRevert_run {o : Origin} {params : List Octet} (h : execFtRevert o params s = .next t) : Run W (d, s) (d, t) := by
  cases h
  refine State.direct_run fun u => ?_
  unfold State.ftRevert
  split
  · next ht => exact .doneWith _ (State.revertTrial_run ht)
  · exact .refuse _

end Sys2Proof.Machine
end

section
/-! SUPPORT. The Pair Test Controller's and the Measurement Unit's commands as runs of elementary changes. -/

namespace Sys2Proof.Machine

variable {W : Prop} {d : Debt} {s t : State} {p : Port}

/-! ## Latches with their records -/

/-- A raise of a latched kind pays its source's debt. -/
theorem State.owed_run (src : FaultSource) (kind : FaultKind) (h : kind.sourced src = true) (latched : kind.latched = true) :
    Run W (d.owe src, s) (d, s.raiseFault src kind) := by
  have hpays := raiseFault_pays (W := W) (d := d.owe src) (s := s) src kind h none
  rw [if_pos latched] at hpays
  exact hpays.trans (Debt.paid_run _)

/-- Where nothing stands latched any more nothing is owed. -/
theorem State.unlatched_run {src : FaultSource} (h : ¬s.latchedAt src) : Run W (d.owe src, s) (d, s) :=
  (Change.run (.settle src h)).trans (Debt.paid_run _)

/-- A report taken in its turn is a run when its effect is. -/
theorem State.takeReport_run {b : Reporter} {m : Instr} {effect : State → Host.Outcome State Fault Refusal}
    (h : s.takeReport b m effect = .next t) (heffect : ∀ u, effect u = .next t → Run W (d, u) (d, t)) : Run W (d, s) (d, t) := by
  unfold takeReport at h
  split at h
  · exact (taken_run m).trans (heffect _ h)
  · cases h; exact .refl _

/-! ## The Pair Test Controller's operations, with leave to change it -/

section
variable (w : W)
include w

/-- The controller changed, its bus no more blocked than before. -/
theorem State.ptc_run (x : PairTest) (h : x.blocked = s.ptc.blocked) : Run W (d, s) (d, { s with ptc := x }) :=
  Change.run (.ptc x w fun hb => .inl (h ▸ hb))

theorem State.workDemand_run : Run W (d, s) (d, s.workDemand) := by
  unfold workDemand
  dsimp only
  split
  · exact .refl _
  · exact .after (post_run _) (ptc_run w _ rfl)

theorem State.concludeRequest_run (r : Request) (o : TestOutcome) (c : Option TestCause) (items : List Item) :
    Run W (d, s) (d, s.concludeRequest r o c items) :=
  .after (ptc_run w _ rfl) (.after (raiseNotice_run _) (ptc_run w _ rfl))

theorem State.endQueued_run (r : Request) (o : TestOutcome) (c : Option TestCause) : Run W (d, s) (d, s.endQueued r o c) :=
  (concludeRequest_run w r o c []).trans (workDemand_run w)

theorem State.startRequest_run (r : Request) : Run W (d, s) (d, s.startRequest r) := .after (post_run _) (ptc_run w _ rfl)

theorem walkRequests_run (rs : List Request) : Run W (d, s) (d, walkRequests rs s) := by
  induction rs generalizing s with
  | nil => exact .refl _
  | cons r rs ih =>
    unfold walkRequests
    split
    · exact ih
    · split
      · split
        · exact State.startRequest_run w r
        · exact ih
      · exact (State.endQueued_run w r _ _).trans ih

theorem State.select_run : Run W (d, s) (d, s.select) := by
  unfold select
  split
  · exact .after (workDemand_run w) (walkRequests_run w _)
  · exact workDemand_run w

theorem State.moveOn_run : Run W (d, s) (d, s.moveOn) := by
  unfold moveOn
  split
  · exact .after (workDemand_run w) (ptc_run w _ rfl)
  · exact .after (select_run w) (ptc_run w _ rfl)

theorem State.endRunning_run (r : Request) (o : TestOutcome) (c : Option TestCause) : Run W (d, s) (d, s.endRunning r o c) :=
  .after (moveOn_run w) (.after (workDemand_run w) (.after (ptc_run w _ rfl) (concludeRequest_run w r o c _)))

theorem State.setCourse_run (k : Course) : Run W (d, s) (d, s.setCourse k) := ptc_run w _ rfl

theorem State.enterPtc_run (st : ControllerState) : Run W (d, s) (d, s.enterPtc st) := ptc_run w _ rfl

theorem State.sendRelease_run (k : Course) (p : Port) : Run W (d, s) (d, s.sendRelease k p) := .after (post_run _) (setCourse_run w _)

theorem State.earlyEnding_run (o : TestOutcome) (c : Option TestCause) : Run W (d, s) (d, s.earlyEnding o c) := by
  unfold earlyEnding
  split
  · dsimp only
    split
    · exact .after (enterPtc_run w _) (.after (post_run _) (.after (post_run _) (setCourse_run w _)))
    · exact setCourse_run w _
  · exact .refl _

/-! ## The answers and reports -/

theorem execPortReport_run {st : PortState} {held : Bool} {phase : TransferPhase} (h : execPortReport p st held phase s = .next t) :
    Run W (d, s) (d, t) :=
  State.takeReport_run h fun u hu => by
    cases hu
    exact .after (State.select_run w) (State.ptc_run w _ rfl)

theorem execGranted_run {id : Nat} (h : execGranted id s = .next t) : Run W (d, s) (d, t) :=
  State.takeReport_run h fun u hu => by
    split at hu
    · split at hu
      · dsimp only at hu
        split at hu <;> cases hu
        · exact .after (State.enterPtc_run w _) (.after (State.post_run _) (State.ptc_run w _ rfl))
        · exact .after (State.sendRelease_run w _ _) (State.ptc_run w _ rfl)
      · cases hu; exact .refl _
    · cases hu; exact .refl _

theorem State.putBack_run (r : Request) : Run W (d, s) (d, s.putBack r) := .after (moveOn_run w) (ptc_run w _ rfl)

theorem execDenied_run {id : Nat} (h : execDenied id s = .next t) : Run W (d, s) (d, t) :=
  State.takeReport_run h fun u hu => by
    split at hu
    · split at hu
      · split at hu <;> cases hu
        · exact State.putBack_run w _
        · exact State.endRunning_run w _ _ _
      · cases hu; exact .refl _
    · cases hu; exact .refl _

theorem State.startMeasure_run (r : Request) : Run W (d, s) (d, s.startMeasure r) :=
  .after (enterPtc_run w _) (.after (post_run _) (Change.run (.mail _)))

theorem execOutDone_run (h : execOutDone s = .next t) : Run W (d, s) (d, t) :=
  State.takeReport_run h fun u hu => by
    split at hu
    · split at hu
      · split at hu <;> cases hu
        · exact State.startMeasure_run w _
        · exact .after (State.enterPtc_run w _) (State.post_run _)
      · cases hu; exact .refl _
    · cases hu; exact .refl _

theorem execOutFailed_run (h : execOutFailed s = .next t) : Run W (d, s) (d, t) :=
  State.takeReport_run h fun u hu => by
    split at hu
    · split at hu <;> cases hu
      · exact State.sendRelease_run w _ _
      · exact .refl _
    · cases hu; exact .refl _

theorem execBackDone_run (h : execBackDone s = .next t) : Run W (d, s) (d, t) :=
  State.takeReport_run h fun u hu => by
    split at hu
    · split at hu <;> cases hu
      · exact State.sendRelease_run w _ _
      · exact .refl _
    · cases hu; exact .refl _

theorem execReleased_run {id : Nat} (h : execReleased id s = .next t) : Run W (d, s) (d, t) :=
  State.takeReport_run h fun u hu => by
    split at hu
    · split at hu <;> cases hu
      · exact State.endRunning_run w _ _ _
      · exact .refl _
    · cases hu; exact .refl _

theorem execWaitDeadlineExpiry_run {id : Nat} (h : execWaitDeadlineExpiry id s = .next t) : Run W (d, s) (d, t) := by
  unfold execWaitDeadlineExpiry at h
  split at h
  · split at h <;> cases h
    · exact (State.reach_run _).trans (State.endQueued_run w _ _ _)
    · exact .refl _
  · cases h; exact .refl _

theorem execPortDisabledReport_run {id : Nat} (h : execPortDisabledReport id s = .next t) : Run W (d, s) (d, t) :=
  State.takeReport_run h fun u hu => by
    split at hu <;> cases hu
    · exact State.earlyEnding_run w _ _
    · exact .refl _

theorem execPortHeldReport_run {id : Nat} {reason : HeldReason} (h : execPortHeldReport id reason s = .next t) : Run W (d, s) (d, t) :=
  State.takeReport_run h fun u hu => by
    split at hu
    · have hstop : Run W (d, u) (d, if u.ptc.state = .measure then u.post .measureStop else u) := by
        split
        · exact State.post_run _
        · exact .refl _
      dsimp only at hu
      split at hu <;> cases hu
      · exact hstop.trans (State.endRunning_run w _ _ _)
      · exact hstop.trans (State.endRunning_run w _ _ _)
    · cases hu; exact .refl _

/-- A blocked bus is recorded (R116, R183). -/
theorem State.block_run (p : Port) : Run W (d, s) (d, s.block p) := by
  have hblocked : Run W (d.owe .testbus, s)
      (d.owe .testbus, { s with ptc := { s.ptc with blocked := true, blocking := s.ptc.blocking.set p true } }) :=
    Change.run (.ptc _ w fun _ => Or.inr (Or.inl rfl))
  exact (Debt.owe_run .testbus).trans (hblocked.trans (.after (workDemand_run w) (owed_run .testbus .relayMismatch rfl rfl)))

theorem execMismatchReport_run {closed : Bool} (h : execMismatchReport p closed s = .next t) : Run W (d, s) (d, t) :=
  State.takeReport_run h fun u hu => by
    split at hu
    · dsimp only at hu
      split at hu
      · split at hu <;> cases hu
        · exact State.block_run w p
        · exact (State.block_run w p).trans (State.earlyEnding_run w _ _)
      · cases hu; exact State.block_run w p
    · cases hu; exact .refl _

theorem execBusShed_run (h : execBusShed s = .next t) : Run W (d, s) (d, t) := by
  cases h
  exact .after (State.earlyEnding_run w _ _) (.after (State.ptc_run w _ rfl) (State.taken_run _))

theorem execBusAdmit_run (h : execBusAdmit s = .next t) : Run W (d, s) (d, t) := by
  cases h
  exact .after (State.select_run w) (.after (State.ptc_run w _ rfl) (State.taken_run _))

theorem execMeasurementItem_run {item : SentItem} (h : execMeasurementItem item s = .next t) : Run W (d, s) (d, t) :=
  State.takeReport_run h fun u hu => by
    split at hu
    · split at hu <;> cases hu
      · exact State.setCourse_run w _
      · exact .refl _
    · cases hu; exact .refl _

theorem execMeasureDone_run (h : execMeasureDone s = .next t) : Run W (d, s) (d, t) :=
  State.takeReport_run h fun u hu => by
    split at hu
    · split at hu <;> cases hu
      · exact .after (State.enterPtc_run w _) (.after (State.post_run _) (State.setCourse_run w _))
      · exact .refl _
    · cases hu; exact .refl _

/-! ## The TEST directives -/

theorem State.testRequest_run (o : Origin) (params : List Octet) : (s.testRequest o params).Runs W d s := by
  unfold testRequest
  split
  · exact .refuse _
  · split
    · exact .refuse _
    · split
      · exact .refuse _
      · split
        · exact .refuse _
        · exact .doneWith _ (.after (select_run w) (ptc_run w _ rfl))

theorem execTestRequest_run {o : Origin} {params : List Octet} (h : execTestRequest o params s = .next t) : Run W (d, s) (d, t) := by
  cases h
  exact State.direct_run fun _ => State.testRequest_run w o params

theorem State.testAbort_run (params : List Octet) : (s.testAbort params).Runs W d s := by
  unfold testAbort
  split
  · exact .refuse _
  · split
    · exact .refuse _
    · unfold abort
      split
      · exact .doneWith _ (endQueued_run w _ _ _)
      · exact .doneWith _ (earlyEnding_run w _ _)

theorem execTestAbort_run {o : Origin} {params : List Octet} (h : execTestAbort o params s = .next t) : Run W (d, s) (d, t) := by
  cases h
  exact State.direct_run fun _ => State.testAbort_run w params

theorem execTestSuspend_run {o : Origin} {params : List Octet} (h : execTestSuspend o params s = .next t) : Run W (d, s) (d, t) := by
  cases h
  refine State.direct_run fun u => .doneWith _ ?_
  unfold State.testSuspend
  split
  · exact .after (State.workDemand_run w) (State.enterPtc_run w _)
  · exact .refl _
  all_goals exact .after (State.workDemand_run w) (State.ptc_run w _ rfl)

theorem execTestResume_run {o : Origin} {params : List Octet} (h : execTestResume o params s = .next t) : Run W (d, s) (d, t) := by
  cases h
  refine State.direct_run fun u => .doneWith _ ?_
  unfold State.testResume
  split
  · exact .after (State.select_run w) (State.enterPtc_run w _)
  all_goals exact .after (State.workDemand_run w) (State.ptc_run w _ rfl)

theorem State.testbusClear_run : Answer.Runs W d s s.testbusClear := by
  unfold testbusClear
  split
  · exact .refuse _
  · split
    · exact .refuse _
    · have hfree : Run W (d.owe .testbus, s)
          (d.owe .testbus, { s with ptc := { s.ptc with blocked := false, blocking := Row.all false } }) :=
        Change.run (.ptc _ w fun hb => absurd hb Bool.false_ne_true)
      refine .doneWith _ ((Debt.owe_run .testbus).trans (hfree.trans (.after (select_run w) ?_)))
      exact (Change.run (.clear .testbus .relayMismatch fun _ => Or.inl rfl)).trans (unlatched_run Bool.false_ne_true)

theorem execTestbusClear_run {o : Origin} {params : List Octet} (h : execTestbusClear o params s = .next t) : Run W (d, s) (d, t) := by
  cases h
  exact State.direct_run fun _ => State.testbusClear_run w

end

theorem execTestResult_run {o : Origin} {params : List Octet} (h : execTestResult o params s = .next t) : Run W (d, s) (d, t) := by
  cases h
  refine State.direct_run_of_read fun u => ?_
  unfold State.testResult
  split <;> exact ⟨rfl, rfl⟩

theorem execTestList_run {o : Origin} {params : List Octet} (h : execTestList o params s = .next t) : Run W (d, s) (d, t) := by
  cases h
  exact State.direct_run_of_read fun _ => ⟨rfl, rfl⟩

/-! ## The Measurement Unit -/

/-- The Measurement Unit changed but for its configuration. -/
theorem State.msu_run (x : Measurement) (h : x.config = s.msu.config) : Run W (d, s) (d, { s with msu := x }) :=
  Change.run (.msu x fun hc => h ▸ hc)

theorem State.setRun_run (r : RunRecord) : Run W (d, s) (d, s.setRun r) := msu_run _ rfl

theorem State.setFrontEnd_run (source : Option SourceSetting) (path : Option SensePath) : Run W (d, s) (d, s.setFrontEnd source path) :=
  msu_run _ rfl

theorem State.startStep_run (n : Nat) (r : RunRecord) : Run W (d, s) (d, s.startStep n r) := by
  unfold startStep
  split
  · exact .after (setRun_run _) (setFrontEnd_run _ _)
  · exact .after (post_run _) (msu_run _ rfl)

theorem State.startRun_run (k : KeptStart) : Run W (d, s) (d, s.startRun k) := startStep_run _ _

theorem State.sendItems_run (id : Nat) (items : List Item) : Run W (d, s) (d, s.sendItems id items) := Change.run (.mail _)

theorem State.completeStep_run (items : List Item) (r : RunRecord) : Run W (d, s) (d, s.completeStep items r) := by
  unfold completeStep
  refine (sendItems_run r.id items).trans ?_
  dsimp only
  split
  · exact .after (setRun_run _) (setFrontEnd_run _ _)
  · exact startStep_run _ _

theorem State.discharge_run : Run W (d, s) (d, s.discharge) := msu_run _ rfl

theorem State.startSamples_run (phase : MeasPhase) (path : SensePath) (r : RunRecord) : Run W (d, s) (d, s.startSamples phase path r) :=
  .after (setRun_run _) (setFrontEnd_run _ _)

theorem State.completeSig_run (listened : Bool) (r : RunRecord) : Run W (d, s) (d, s.completeSig listened r) := completeStep_run _ _

theorem State.endSamples_run (path : SensePath) (r : RunRecord) : Run W (d, s) (d, s.endSamples path r) := by
  unfold endSamples
  split
  · split
    · exact completeStep_run _ _
    · exact completeStep_run _ _
  · exact startSamples_run _ _ _
  · dsimp only
    split
    · exact startSamples_run _ _ _
    · exact completeSig_run _ _
  · exact .refl _

theorem State.takeSample_run (code : BitVec 12) (limit : Bool) (r : RunRecord) : Run W (d, s) (d, s.takeSample code limit r) := by
  unfold takeSample
  split
  · exact .refl _
  · refine (reach_run r.due).trans ?_
    dsimp only
    split
    · exact .after (post_run _) discharge_run
    · split
      · exact endSamples_run _ _
      · exact .after (setRun_run _) (setFrontEnd_run _ _)

theorem State.takeListen_run (code : BitVec 12) (limit : Bool) (r : RunRecord) : Run W (d, s) (d, s.takeListen code limit r) := by
  unfold takeListen
  split
  · exact .refl _
  · refine (reach_run r.due).trans ?_
    dsimp only
    split
    · exact completeSig_run _ _
    · exact setRun_run _

theorem execMeasureStart_run {test : TestPair} {kind : TestKind} {expected : Option Nat} (h : execMeasureStart test kind expected s = .next t) :
    Run W (d, s) (d, t) := by
  unfold execMeasureStart at h
  dsimp only at h
  refine (State.taken_run (.measureStart test kind expected)).trans ?_
  split at h <;> cases h
  · exact State.startRun_run _
  · exact State.msu_run _ rfl
  · exact .refl _

theorem execMeasureStop_run (h : execMeasureStop s = .next t) : Run W (d, s) (d, t) := by
  unfold execMeasureStop at h
  dsimp only at h
  refine (State.taken_run .measureStop).trans ?_
  split at h
  · split at h <;> cases h
    · exact State.setRun_run _
    · exact State.discharge_run
  · cases h; exact .refl _
  · cases h; exact .refl _

theorem execAcquisitionEnd_run (h : execAcquisitionEnd s = .next t) : Run W (d, s) (d, t) := by
  unfold execAcquisitionEnd at h
  split at h
  · split at h <;> cases h
    · exact (State.reach_run _).trans (State.startSamples_run _ _ _)
    · exact (State.reach_run _).trans (State.startSamples_run _ _ _)
    · exact .refl _
  · cases h; exact .refl _
  · cases h; exact .refl _

theorem execConversionSample_run {code : BitVec 12} {limit : Bool} (h : execConversionSample code limit s = .next t) : Run W (d, s) (d, t) := by
  unfold execConversionSample at h
  split at h
  · split at h <;> cases h
    · exact State.takeSample_run _ _ _
    · exact State.takeSample_run _ _ _
    · exact State.takeSample_run _ _ _
    all_goals exact .refl _
  · cases h; exact .refl _
  · cases h; exact .refl _

theorem execListenSample_run {code : BitVec 12} {limit : Bool} (h : execListenSample code limit s = .next t) : Run W (d, s) (d, t) := by
  unfold execListenSample at h
  split at h
  · split at h <;> cases h
    · exact State.takeListen_run _ _ _
    · exact .refl _
  · cases h; exact .refl _
  · cases h; exact .refl _

theorem execListenWindowEnd_run (h : execListenWindowEnd s = .next t) : Run W (d, s) (d, t) := by
  unfold execListenWindowEnd at h
  split at h
  · next r _ =>
    split at h <;> cases h
    · refine .after (State.completeSig_run _ _) ?_
      split
      · exact .refl _
      · exact State.reach_run _
    · exact .refl _
  · cases h; exact .refl _
  · cases h; exact .refl _

theorem execDischargeGapEnd_run (h : execDischargeGapEnd s = .next t) : Run W (d, s) (d, t) := by
  unfold execDischargeGapEnd at h
  split at h
  · next r _ =>
    split at h
    · dsimp only at h
      refine (State.reach_run r.due).trans ?_
      split at h <;> cases h
      · exact State.msu_run _ rfl
      · exact State.startStep_run _ _
    · cases h; exact .refl _
  · cases h; exact .refl _
  · cases h; exact .refl _

theorem execDischargeEnd_run (h : execDischargeEnd s = .next t) : Run W (d, s) (d, t) := by
  unfold execDischargeEnd at h
  split at h
  · next ends _ =>
    dsimp only at h
    refine (State.reach_run ends).trans ?_
    split at h <;> cases h
    · exact .after (State.startRun_run _) (State.msu_run _ rfl)
    · exact State.msu_run _ rfl
  · cases h; exact .refl _
  · cases h; exact .refl _

theorem execMeasRead_run {o : Origin} {params : List Octet} (h : execMeasRead o params s = .next t) : Run W (d, s) (d, t) := by
  cases h
  exact State.direct_run_of_read fun _ => ⟨rfl, rfl⟩

end Sys2Proof.Machine
end

section
/-! SUPPORT. The commands of the Line Watch Unit, the Cabinet Supervisor and the Power Budget Unit as runs of elementary changes. -/

namespace Sys2Proof.Machine

variable {W : Prop} {d : Debt} {s t : State} {p : Port}

/-! ## Field items (R195) -/

/-- What the write of each named item keeps, a write of all of them keeps. -/
theorem writeItems_keeps {α : Type} {write : Nat → Int → α → Option α} (P : α → Prop) {items : List FieldItem} {a b : α}
    (h : writeItems write items a = some b)
    (hP : ∀ n ∈ items.map (·.1), ∀ v x y, write n v x = some y → P x → P y) (ha : P a) : P b := by
  induction items generalizing a with
  | nil => cases h; exact ha
  | cons item rest ih =>
    obtain ⟨n, v⟩ := item
    unfold writeItems at h
    split at h
    · next c hc => exact ih h (fun m hm => hP m (.tail _ hm)) (hP n (.head _) v a c hc ha)
    · cases h

theorem writeFields_keeps {α : Type} {write : Nat → Int → α → Option α} (P : α → Prop) {items : List FieldItem} {a b : α}
    (h : writeFields write items a = some b)
    (hP : ∀ n ∈ items.map (·.1), ∀ v x y, write n v x = some y → P x → P y) (ha : P a) : P b := by
  unfold writeFields at h
  split at h
  · exact writeItems_keeps P h hP ha
  · cases h

/-! ## Sweeps (R148 to R153) -/

theorem State.watch_run (x : Watch) : Run W (d, s) (d, { s with lwu := x }) := Change.run (.watch x)

theorem State.followLevel_run (p : Port) (before after : WatchLevel) : Run W (d, s) (d, s.followLevel p before after) := by
  unfold followLevel
  split
  · exact raiseFault_run _ _ rfl _
  · split
    · exact clearFault_run rfl
    · exact .refl _

theorem State.handOnSweep_run (p : Port) (old new : WatchRecord) (energy : Bool) : Run W (d, s) (d, s.handOnSweep p old new energy) := by
  have hheld (c : Bool) (u : State) : Run W (d, u) (d, if c then u.hold p .hazard else u) := by
    split
    · exact hold_run p _
    · exact .refl _
  unfold handOnSweep
  dsimp only
  split
  · exact .after (wake_run p _) (.after (hheld _ _) (followLevel_run p _ _))
  · exact .after (hheld _ _) (followLevel_run p _ _)

theorem State.reportWatched_run (p : Port) : Run W (d, s) (d, s.reportWatched p) := by
  unfold reportWatched
  split
  · exact reportLevel_run p
  · exact .refl _

theorem State.restartSweep_run : Run W (d, s) (d, s.restartSweep) := by
  unfold restartSweep
  split <;> exact watch_run _

theorem State.sweep_run (samples : Row 16 PairSample) : Run W (d, s) (d, s.sweep samples) :=
  .after restartSweep_run (.after (Run.foldl _ (fun _ p => reportWatched_run p) _ _)
    (.after (Run.foldl _ (fun _ p => handOnSweep_run p (s.lwu.records.get p) _ _) _ _) (watch_run _)))

theorem execSweep_run {samples : Row 16 PairSample} (h : execSweep samples s = .next t) : Run W (d, s) (d, t) := by
  unfold execSweep at h
  split at h
  · cases h; exact .refl _
  · rw [← Host.Outcome.next.inj h]
    exact (State.reach_run _).trans (State.sweep_run samples)

theorem execWatchRead_run {o : Origin} {params : List Octet} (h : execWatchRead o params s = .next t) : Run W (d, s) (d, t) := by
  cases h
  exact State.direct_run_of_read fun _ => ⟨rfl, rfl⟩

/-! ## The craft port's power (R168) -/

/-- The craft port's power is to be judged again. -/
def Debt.unjudge (d : Debt) : Debt := { d with unjudged := True }

theorem Debt.unjudge_run : Run W (d, s) (d.unjudge, s) := Change.run (.weaken _ ⟨fun _ h => h, rfl, fun _ => trivial⟩)

/-- What the craft port's power goes by (R168), and what is latched at the cabinet. -/
structure Supervisor.SameJudged (x y : Supervisor) : Prop where
  latch : y.shutdownCondition = x.shutdownCondition ∧ y.thermalLatch = x.thermalLatch
  power : y.craftPowered = x.craftPowered ∧ y.stage = x.stage ∧ y.craftHold = x.craftHold
  levels : ∀ k, (y.contacts.get k).debounced = (x.contacts.get k).debounced

/-- The Cabinet Supervisor changed in nothing that its latches and the craft port's power go by. -/
theorem State.csu_run (x : Supervisor) (h : s.csu.SameJudged x) : Run W (d, s) (d, { s with csu := x }) := by
  obtain ⟨⟨hshutdown, hlatch⟩, ⟨hpowered, hstage, hhold⟩, hlevels⟩ := h
  refine Change.run (.csu x (fun hx => .inl (by rwa [hshutdown, hlatch] at hx)) (.inr fun hj => ?_))
  simpa only [CraftJudged, hpowered, hstage, hhold, doorOpen, hlevels] using hj

/-- The Cabinet Supervisor changed where the craft port's power is still to be judged. -/
theorem State.csu_unjudged_run (x : Supervisor) (h : x.shutdownCondition = s.csu.shutdownCondition ∧ x.thermalLatch = s.csu.thermalLatch) :
    Run W (d.unjudge, s) (d.unjudge, { s with csu := x }) :=
  Change.run (.csu x (fun hx => .inl (by rwa [h.1, h.2] at hx)) (.inl trivial))

theorem State.judged_run (h : s.CraftJudged) : Run W (d.unjudge, s) (d, s) :=
  (Change.run (.judged h)).trans (Change.run (.weaken d ⟨fun _ hx => hx, rfl, False.elim⟩))

theorem State.cutCraftFrame_run (hd : d.loose = none) : Run W (d, s) (d, s.cutCraftFrame) := by
  unfold cutCraftFrame
  split
  · exact .after (endFrame_run _ _ _ _ hd) (classifier_run _ ⟨rfl, rfl, rfl⟩ fun h => h.of_same rfl rfl rfl rfl)
  · exact .refl _

theorem State.judgeCraftPower_run (hd : d.loose = none) : Run W (d.unjudge, s) (d, s.judgeCraftPower) := by
  unfold judgeCraftPower
  dsimp only
  split
  · next hsame => exact judged_run hsame.symm
  · generalize hp : (s.csu.stage != some .conserve || s.doorOpen || s.csu.craftHold.isSome) = powered
    have hswitched : Run W (d.unjudge, s) (d, { s with csu := { s.csu with craftPowered := powered } }) :=
      .after (judged_run hp.symm) (csu_unjudged_run _ ⟨rfl, rfl⟩)
    refine hswitched.trans ?_
    split
    · exact craftChoice_run
    · exact .after (cutCraftFrame_run hd) discardCraft_run

/-! ## Contacts (R157 to R159) -/

/-- A contact's level stands. -/
theorem State.setContact_run {k : Contact} {c : ContactRecord} (h : c.debounced = (s.csu.contacts.get k).debounced) :
    Run W (d, s) (d, s.setContact k c) :=
  csu_run _ ⟨⟨rfl, rfl⟩, ⟨rfl, rfl, rfl⟩, fun j => by
    by_cases hj : j = k
    · rw [hj, Row.get_set_self, h]
    · rw [Row.get_set_ne _ _ hj]⟩

theorem State.setContact_unjudged_run (k : Contact) (c : ContactRecord) : Run W (d.unjudge, s) (d.unjudge, s.setContact k c) :=
  csu_unjudged_run _ ⟨rfl, rfl⟩

theorem State.startCraftHold_run : Run W (d.unjudge, s) (d.unjudge, s.startCraftHold) := csu_unjudged_run _ ⟨rfl, rfl⟩

theorem State.acceptContact_run (hd : d.loose = none) (k : Contact) (level : Bool) (c : ContactRecord) :
    Run W (d, s) (d, s.acceptContact k level c) := by
  have hhold (b : Bool) (u : State) : Run W (d.unjudge, u) (d.unjudge, if b then u.startCraftHold else u) := by
    split
    · exact startCraftHold_run
    · exact .refl _
  unfold acceptContact
  dsimp only
  refine Debt.unjudge_run.trans (.after (judgeCraftPower_run hd) (.after (hhold _ _) ?_))
  split
  · exact .after (raiseNotice_run _) (setContact_unjudged_run k _)
  · exact setContact_unjudged_run k _

theorem State.sampleContact_run (hd : d.loose = none) (k : Contact) (conducts : Bool) : Run W (d, s) (d, s.sampleContact k conducts) := by
  unfold sampleContact
  dsimp only
  split
  · next hnone =>
    split
    · exact Debt.unjudge_run.trans (.after (judgeCraftPower_run hd) (setContact_unjudged_run k _))
    · exact setContact_run rfl
  · split
    · exact acceptContact_run hd k _ _
    · exact setContact_run rfl

theorem execContactPoll_run {conducts : BitVec 8} (hd : d.loose = none) (h : execContactPoll conducts s = .next t) : Run W (d, s) (d, t) := by
  have hsampled : Run W (d, s) (d, allContacts.foldl (fun s k => s.sampleContact k (conducts.getLsbD k.val)) (s.reach s.csu.contactDue)) :=
    (State.reach_run _).trans (Run.foldl _ (fun _ k => State.sampleContact_run hd k _) _ _)
  rw [← Host.Outcome.next.inj h]
  dsimp only
  generalize allContacts.foldl (fun s k => s.sampleContact k (conducts.getLsbD k.val)) (s.reach s.csu.contactDue) = u at hsampled ⊢
  exact hsampled.trans (State.csu_run _ ⟨⟨rfl, rfl⟩, ⟨rfl, rfl, rfl⟩, fun _ => rfl⟩)

theorem ContactRecord.write_debounced {n : Nat} {v : Int} {c x : ContactRecord} (h : ContactRecord.write n v c = some x) :
    x.debounced = c.debounced := by
  unfold ContactRecord.write at h
  split at h
  case h_5 => cases h
  all_goals
    obtain ⟨b, -, rfl⟩ := Option.map_eq_some_iff.mp h
    rfl

theorem State.configContact_run {k : Contact} {new : ContactRecord} (h : new.debounced = (s.csu.contacts.get k).debounced) :
    Run W (d, s) (d, s.configContact k new) := by
  unfold configContact
  dsimp only
  split
  · split
    · exact .after (raiseNotice_run _) (setContact_run h)
    · exact setContact_run h
  · exact setContact_run h

theorem execContactConfig_run {o : Origin} {params : List Octet} (h : execContactConfig o params s = .next t) : Run W (d, s) (d, t) := by
  cases h
  refine State.direct_run fun u => ?_
  unfold State.contactConfig
  split
  · exact .refuse _
  · split
    · exact .refuse _
    · next k _ =>
      split
      · exact .refuse _
      · next c hc =>
        exact .doneWith _ (State.configContact_run (writeFields_keeps (·.debounced = (u.csu.contacts.get k).debounced) hc
          (fun _ _ _ _ _ hw hx => (ContactRecord.write_debounced hw).trans hx) rfl))

theorem execContactRead_run {o : Origin} {params : List Octet} (h : execContactRead o params s = .next t) : Run W (d, s) (d, t) := by
  cases h
  exact State.direct_run_of_read fun _ => ⟨rfl, rfl⟩

/-! ## Temperature (R160 to R164) -/

theorem State.judgeWarn_run (t : Int) : Run W (d, s) (d, s.judgeWarn t) := by
  have hcondition (c : Bool) : Run W (d, s) (d, { s with csu := { s.csu with warnCondition := c } }) :=
    csu_run _ ⟨⟨rfl, rfl⟩, ⟨rfl, rfl, rfl⟩, fun _ => rfl⟩
  unfold judgeWarn
  dsimp only
  split
  · exact .refl _
  · split
    · exact (hcondition _).trans (raiseFault_run _ _ rfl _)
    · exact (hcondition _).trans (clearFault_run rfl)

/-- The shutdown condition and the thermal latch changed while that is owed at the cabinet. -/
theorem State.csu_owed_run (x : Supervisor) (h : x.craftPowered = s.csu.craftPowered ∧ x.stage = s.csu.stage ∧ x.craftHold = s.csu.craftHold ∧
    x.contacts = s.csu.contacts) : Run W (d.owe .cabinet, s) (d.owe .cabinet, { s with csu := x }) := by
  obtain ⟨hpowered, hstage, hhold, hcontacts⟩ := h
  refine Change.run (.csu x (fun _ => .inr (Or.inl rfl)) (.inr fun hj => ?_))
  simpa only [CraftJudged, hpowered, hstage, hhold, doorOpen, hcontacts] using hj

theorem State.judgeShutdown_run (t : Int) : Run W (d, s) (d, s.judgeShutdown t) := by
  unfold judgeShutdown
  dsimp only
  split
  · exact .refl _
  · generalize thermalCondition s.settings.thermalMode s.settings.shutdownThreshold t s.csu.shutdownCondition = c
    have howed : Run W (d, s) (d.owe .cabinet, { s with csu := { s.csu with shutdownCondition := c } }) :=
      (Debt.owe_run _).trans (csu_owed_run _ ⟨rfl, rfl, rfl, rfl⟩)
    split
    · exact howed.trans (owed_run _ _ rfl rfl)
    · next hc =>
      split
      · next hlatch =>
        have hstands : s.csu.thermalLatch = true := hlatch
        exact Change.run (.csu _ (fun _ => .inl (Or.inr hstands)) (.inr id))
      · next hlatch =>
        refine howed.trans ((Change.run (.clear _ _ fun _ => Or.inl rfl)).trans (unlatched_run ?_))
        exact fun h => h.elim hc hlatch

theorem State.judgeLatch_run : Run W (d, s) (d, s.judgeLatch) := by
  unfold judgeLatch
  split
  · next h =>
    refine .after (Run.foldl _ (fun _ p => addDoze_run p _) _ _) (Change.run (.csu _ (fun _ => .inl (Or.inl h.2.1)) (.inr id)))
  · exact .refl _

theorem State.judgeHeater_run (t : Int) : Run W (d, s) (d, s.judgeHeater t) := by
  unfold judgeHeater
  extract_lets demand
  split
  · exact .refl _
  · exact .after (post_run _) (csu_run _ ⟨⟨rfl, rfl⟩, ⟨rfl, rfl, rfl⟩, fun _ => rfl⟩)

theorem execTemperatureReading_run {raw : Int} (h : execTemperatureReading raw s = .next t) : Run W (d, s) (d, t) := by
  cases h
  exact .after (State.judgeHeater_run _) (.after State.judgeLatch_run (.after (State.judgeShutdown_run _) (.after (State.judgeWarn_run _)
    (.after (State.csu_run _ ⟨⟨rfl, rfl⟩, ⟨rfl, rfl, rfl⟩, fun _ => rfl⟩) (State.reach_run _)))))

/-- What leaves the Cabinet Supervisor alone, a fold of it does. -/
theorem foldl_csu {α : Type} (f : State → α → State) (h : ∀ s x, (f s x).csu = s.csu) (xs : List α) (s : State) :
    (xs.foldl f s).csu = s.csu := by
  induction xs generalizing s with
  | nil => rfl
  | cons x xs ih => exact (ih _).trans (h s x)

/-- A choice between two answers. -/
theorem Answer.Runs.ite {c : Prop} [Decidable c] {a b : Answer} (ha : c → a.Runs W d s) (hb : ¬c → b.Runs W d s) :
    (if c then a else b).Runs W d s := by
  split
  · next h => exact ha h
  · next h => exact hb h

/-- The latch cleared and THERMAL out of every port's causes (R163). -/
theorem State.clearLatch_run (h : d.latch .cabinet ∨ s.csu.shutdownCondition = true) :
    Run W (d, s) (d, allPorts.foldl (fun s p => s.removeDoze p .thermal) { s with csu := { s.csu with thermalLatch := false } }) :=
  (Change.run (.csu { s.csu with thermalLatch := false } (fun _ => h.symm.imp_left Or.inl) (.inr id))).trans
    (Run.foldl _ (fun _ p => removeDoze_run p _) _ _)

/-- The fault record of the latch goes with the latch, unless the shutdown condition stands (R163). -/
theorem State.latchLeft_run {u : State} (hcsu : u.csu = { s.csu with thermalLatch := false })
    (hrun : ∀ e : Debt, e.latch .cabinet ∨ s.csu.shutdownCondition = true → Run W (e, s) (e, u)) :
    Run W (d, s) (d, if u.csu.shutdownCondition then u else u.clearFault .cabinet .thermalShutdown) := by
  rw [hcsu]
  split
  · next hc => exact hrun d (.inr hc)
  · next hc =>
    refine (Debt.owe_run .cabinet).trans ((hrun _ (.inl (Or.inl rfl))).trans ?_)
    refine (Change.run (.clear _ _ fun _ => Or.inl rfl)).trans (unlatched_run ?_)
    rw [latchedAt, clearFault_csu, hcsu]
    exact fun h => h.elim hc Bool.false_ne_true

theorem State.thermalClear_run : Answer.Runs W d s s.thermalClear := by
  unfold thermalClear
  refine .ite (fun _ => .refuse _) fun _ => .ite (fun _ => .refuse _) fun _ => .doneWith _ (latchLeft_run ?_ fun e he => ?_)
  · exact foldl_csu (fun s p => s.removeDoze p .thermal) (fun u p => by simp) allPorts _
  · exact clearLatch_run he

theorem execThermalClear_run {o : Origin} {params : List Octet} (h : execThermalClear o params s = .next t) : Run W (d, s) (d, t) := by
  cases h
  exact State.direct_run fun _ => State.thermalClear_run

/-! ## The supply stage and the budget (R165 to R174) -/

theorem State.changeStage_run (hd : d.loose = none) (st : Stage) (mains : Bool) (v : Nat) : Run W (d, s) (d, s.changeStage st mains v) := by
  unfold changeStage
  dsimp only
  refine Debt.unjudge_run.trans (.after (judgeCraftPower_run hd) (.after (post_run _) ?_))
  have hstage : Run W (d.unjudge, s) (d.unjudge, ({ s with csu := { s.csu with stage := some st } } : State).raiseNotice
      (.stageChange s.csu.stage st mains v)) := .after (raiseNotice_run _) (csu_unjudged_run _ ⟨rfl, rfl⟩)
  split
  · exact hstage.trans (raiseFault_run _ _ rfl _)
  · split
    · exact hstage.trans (clearFault_run rfl)
    · exact hstage

theorem execSupplySample_run {mains : Bool} {battery : Nat} (hd : d.loose = none) (h : execSupplySample mains battery s = .next t) :
    Run W (d, s) (d, t) := by
  have hread (v : Nat) : Run W (d, s) (d, { s.reach s.csu.supplyDue with csu := { (s.reach s.csu.supplyDue).csu with
      mainsPresent := some mains, battery := some v, supplyDue := (s.reach s.csu.supplyDue).now + sec 1 } }) :=
    .after (State.csu_run _ ⟨⟨rfl, rfl⟩, ⟨rfl, rfl, rfl⟩, fun _ => rfl⟩) (State.reach_run _)
  unfold execSupplySample at h
  dsimp only at h
  split at h <;> cases h
  · exact hread _
  · exact (hread _).trans (State.changeStage_run hd _ _ _)

theorem execCraftHoldExpiry_run (hd : d.loose = none) (h : execCraftHoldExpiry s = .next t) : Run W (d, s) (d, t) := by
  unfold execCraftHoldExpiry at h
  split at h <;> cases h
  · exact .refl _
  · exact (State.reach_run _).trans (Debt.unjudge_run.trans (.after (State.judgeCraftPower_run hd) (State.csu_unjudged_run _ ⟨rfl, rfl⟩)))

theorem execSupplyRead_run {o : Origin} {params : List Octet} (h : execSupplyRead o params s = .next t) : Run W (d, s) (d, t) := by
  cases h
  exact State.direct_run_of_read fun _ => ⟨rfl, rfl⟩

theorem execEvaluation_run (h : execEvaluation s = .next t) : Run W (d, s) (d, t) := by
  cases h
  exact (State.taken_run _).trans (State.evaluate_run _)

theorem execBudgetRead_run {o : Origin} {params : List Octet} (h : execBudgetRead o params s = .next t) : Run W (d, s) (d, t) := by
  cases h
  exact State.direct_run_of_read fun _ => ⟨rfl, rfl⟩

end Sys2Proof.Machine
end

section
/-! SUPPORT. The Management Agent's commands as runs of elementary changes. -/

namespace Sys2Proof.Machine

variable {W : Prop} {d : Debt} {s t : State} {p : Port}

/-! ## Ranges that a written field keeps (R143, R187, R188) -/

theorem number_range {low high : Nat} {v : Int} {x : Nat} (h : number low high v = some x) : low ≤ x ∧ x ≤ high := by
  unfold number within at h
  split at h
  · next hv => cases h; omega
  · cases h

theorem within_range {low high v x : Int} (h : within low high v = some x) : low ≤ x ∧ x ≤ high := by
  unfold within at h
  split at h
  · next hv => cases h; exact hv
  · cases h

theorem levelOf_code {v : Int} {x : LevelSetting} (h : levelOf v = some x) : x.code ≤ 15 := by
  unfold levelOf at h
  obtain ⟨n, -, rfl⟩ := Option.map_eq_some_iff.mp h
  exact Nat.le_of_lt_succ (Nat.mod_lt n (by decide))

/-- A field written from a number in its range keeps what holds with every such number. -/
theorem keeps_of_number {α : Type} {P : α → Prop} {low high : Nat} {v : Int} {f : Nat → α} {x : α}
    (h : (number low high v).map f = some x) (hP : ∀ y, low ≤ y ∧ y ≤ high → P (f y)) : P x := by
  obtain ⟨y, hy, rfl⟩ := Option.map_eq_some_iff.mp h
  exact hP y (number_range hy)

theorem keeps_of_within {α : Type} {P : α → Prop} {low high v : Int} {f : Int → α} {x : α}
    (h : (within low high v).map f = some x) (hP : ∀ y, low ≤ y ∧ y ≤ high → P (f y)) : P x := by
  obtain ⟨y, hy, rfl⟩ := Option.map_eq_some_iff.mp h
  exact hP y (within_range hy)

theorem keeps_of_map {α β : Type} {P : α → Prop} {o : Option β} {f : β → α} {x : α} (h : o.map f = some x) (hP : ∀ y, o = some y → P (f y)) :
    P x := by
  obtain ⟨y, hy, rfl⟩ := Option.map_eq_some_iff.mp h
  exact hP y hy

theorem Subscriber.Legal.written {u x : Subscriber} {n : Nat} {v : Int} (h : Subscriber.write n v u = some x) (hu : u.Legal) : x.Legal := by
  unfold Subscriber.write at h
  split at h
  case h_1 => exact keeps_of_number h fun y hy => { hu with rates := ⟨hy.2, hu.rates.2⟩ }
  case h_2 => exact keeps_of_number h fun y hy => { hu with rates := ⟨hu.rates.1, hy.2, hu.rates.2.2⟩ }
  case h_3 => exact keeps_of_number h fun y hy => { hu with rates := ⟨hu.rates.1, hu.rates.2.1, hy.2⟩ }
  case h_4 => exact keeps_of_number h fun y hy => { hu with weight := hy.2 }
  case h_5 => exact keeps_of_number h fun y hy => { hu with bursts := ⟨hy.2, hu.bursts.2⟩ }
  case h_6 => exact keeps_of_number h fun y hy => { hu with bursts := ⟨hu.bursts.1, hy.2⟩ }
  case h_7 => exact keeps_of_number h fun y hy => { hu with caps := ⟨hy.1, hy.2, hu.caps.2.2⟩ }
  case h_8 => exact keeps_of_number h fun y hy => { hu with caps := ⟨hu.caps.1, hu.caps.2.1, hy⟩ }
  case h_9 => exact keeps_of_number h fun y hy => { hu with shedRank := hy.2 }
  case h_10 => exact keeps_of_number h fun y hy => { hu with portPower := hy.2 }
  case h_11 => exact keeps_of_number h fun y hy => { hu with idleDoze := hy.2 }
  case h_12 | h_13 | h_15 => exact keeps_of_map h fun y _ => { hu with }
  case h_14 =>
    split at h
    · cases h; exact { hu with expected := nofun }
    · exact keeps_of_number h fun y hy => { hu with expected := fun e he => by cases he; exact hy.2 }
  case h_16 =>
    split at h
    · cases h; exact { hu with defaultVid := nofun }
    · exact keeps_of_number h fun y hy => { hu with defaultVid := fun e he => by cases he; exact hy }
  case h_17 => exact keeps_of_number h fun y hy => { hu with classThreshold := hy.2 }
  case h_18 => cases h

/-- The settings lie in their ranges, the orderings of R169 set aside. -/
structure Settings.Ranged (g : Settings) : Prop where
  others : Settings.Legal { g with
    warnThreshold := -40, shutdownThreshold := 125, heaterOn := -40, heaterOff := 125, economyThreshold := 9999, conserveThreshold := 0 }
  thermal : -40 ≤ g.warnThreshold ∧ g.shutdownThreshold ≤ 125 ∧ -40 ≤ g.heaterOn ∧ g.heaterOff ≤ 125
  supply : g.economyThreshold ≤ 9999

theorem Settings.legal_iff (g : Settings) : g.Legal ↔ g.Ranged ∧ g.ordered = true :=
  ⟨fun h => ⟨⟨{ h with thermal := ⟨le_rfl, le_rfl, le_rfl, le_rfl⟩, supply := le_rfl, ordered := rfl }, h.thermal, h.supply⟩, h.ordered⟩,
    fun ⟨h, ho⟩ => { h.others with thermal := h.thermal, supply := h.supply, ordered := ho }⟩

theorem Settings.Ranged.written {g x : Settings} {n : Nat} {v : Int} (h : Settings.write n v g = some x) (hg : g.Ranged) : x.Ranged := by
  obtain ⟨hs, ht, hsup⟩ := hg
  have henable {i : Fin 9} (h : g.setEnable i v = some x) : x.Ranged := keeps_of_map h fun _ _ => ⟨{ hs with }, ht, hsup⟩
  unfold Settings.write at h
  split at h
  case h_1 => exact keeps_of_number h fun y hy => ⟨{ hs with transferGap := hy }, ht, hsup⟩
  case h_2 => exact keeps_of_number h fun y hy => ⟨{ hs with relaySettle := hy }, ht, hsup⟩
  case h_3 => exact keeps_of_number h fun y hy => ⟨{ hs with trialWindow := hy }, ht, hsup⟩
  case h_4 => exact keeps_of_number h fun y hy => ⟨{ hs with soakTime := hy.2 }, ht, hsup⟩
  case h_5 => exact keeps_of_number h fun y hy => ⟨{ hs with upstreamSize := hy }, ht, hsup⟩
  case h_6 => exact keeps_of_number h fun y hy => ⟨{ hs with expressReserve := hy.2 }, ht, hsup⟩
  case h_7 => exact keeps_of_map h fun y _ => ⟨{ hs with }, ht, hsup⟩
  case h_8 => exact keeps_of_number h fun y hy => ⟨{ hs with fixedCapacity := hy.2 }, ht, hsup⟩
  case h_9 => exact keeps_of_number h fun y hy => ⟨{ hs with agentReserve := hy.2 }, ht, hsup⟩
  case h_10 => exact keeps_of_number h fun y hy => ⟨{ hs with usablePercent := hy }, ht, hsup⟩
  case h_11 => exact keeps_of_number h fun y hy => ⟨{ hs with activityWindow := hy }, ht, hsup⟩
  case h_12 => exact keeps_of_number h fun y hy => ⟨{ hs with testWaitLimit := hy }, ht, hsup⟩
  case h_13 => exact keeps_of_map h fun y hy => ⟨{ hs with levels := ⟨levelOf_code hy, hs.levels.2⟩ }, ht, hsup⟩
  case h_14 => exact keeps_of_map h fun y hy => ⟨{ hs with levels := ⟨hs.levels.1, levelOf_code hy⟩ }, ht, hsup⟩
  case h_15 => exact keeps_of_number h fun y hy => ⟨{ hs with persistence := hy }, ht, hsup⟩
  case h_16 => exact keeps_of_number h fun y hy => ⟨{ hs with polls := ⟨hy.2, hs.polls.2⟩ }, ht, hsup⟩
  case h_17 => exact keeps_of_number h fun y hy => ⟨{ hs with polls := ⟨hs.polls.1, hy.2, hs.polls.2.2⟩ }, ht, hsup⟩
  case h_18 => exact keeps_of_number h fun y hy => ⟨{ hs with polls := ⟨hs.polls.1, hs.polls.2.1, hy.2⟩ }, ht, hsup⟩
  case h_19 => exact keeps_of_map h fun y _ => ⟨{ hs with }, ht, hsup⟩
  case h_20 => exact keeps_of_number h fun y hy => ⟨{ hs with craftHoldTime := hy }, ht, hsup⟩
  case h_21 => exact keeps_of_map h fun y _ => ⟨{ hs with }, ht, hsup⟩
  case h_22 => exact keeps_of_within h fun y hy => ⟨hs, ⟨hy.1, ht.2⟩, hsup⟩
  case h_23 => exact keeps_of_within h fun y hy => ⟨hs, ⟨ht.1, hy.2, ht.2.2⟩, hsup⟩
  case h_24 => exact keeps_of_within h fun y hy => ⟨hs, ⟨ht.1, ht.2.1, hy.1, ht.2.2.2⟩, hsup⟩
  case h_25 => exact keeps_of_within h fun y hy => ⟨hs, ⟨ht.1, ht.2.1, ht.2.2.1, hy.2⟩, hsup⟩
  case h_26 => exact keeps_of_number h fun y hy => ⟨hs, ht, hy.2⟩
  case h_27 => exact keeps_of_number h fun y _ => ⟨hs, ht, hsup⟩
  case h_28 => exact keeps_of_number h fun y hy => ⟨{ hs with budgets := ⟨hy.2, hs.budgets.2⟩ }, ht, hsup⟩
  case h_29 => exact keeps_of_number h fun y hy => ⟨{ hs with budgets := ⟨hs.budgets.1, hy.2, hs.budgets.2.2⟩ }, ht, hsup⟩
  case h_30 => exact keeps_of_number h fun y hy => ⟨{ hs with budgets := ⟨hs.budgets.1, hs.budgets.2.1, hy.2, hs.budgets.2.2.2⟩ }, ht, hsup⟩
  case h_31 => exact keeps_of_number h fun y hy => ⟨{ hs with budgets := ⟨hs.budgets.1, hs.budgets.2.1, hs.budgets.2.2.1, hy.2⟩ }, ht, hsup⟩
  case h_32 => exact keeps_of_number h fun y hy => ⟨{ hs with powers := ⟨hy.2, hs.powers.2⟩ }, ht, hsup⟩
  case h_33 => exact keeps_of_number h fun y hy => ⟨{ hs with powers := ⟨hs.powers.1, hy.2, hs.powers.2.2⟩ }, ht, hsup⟩
  case h_34 => exact keeps_of_number h fun y hy => ⟨{ hs with ranks := ⟨hy.2, hs.ranks.2⟩ }, ht, hsup⟩
  case h_35 => exact keeps_of_number h fun y hy => ⟨{ hs with powers := ⟨hs.powers.1, hs.powers.2.1, hy.2⟩ }, ht, hsup⟩
  case h_36 => exact keeps_of_number h fun y hy => ⟨{ hs with ranks := ⟨hs.ranks.1, hy.2⟩ }, ht, hsup⟩
  case h_37 => exact keeps_of_map h fun y _ => ⟨{ hs with }, ht, hsup⟩
  case h_38 | h_39 | h_40 | h_41 | h_42 | h_43 | h_44 | h_45 | h_46 => exact henable h
  case h_47 => cases h

/-- Settings that a SET_WRITE accepts are legal (R188). -/
theorem Settings.Legal.written {g x : Settings} {items : List FieldItem} (h : writeFields Settings.write items g = some x)
    (ordered : x.ordered = true) (hg : g.Legal) : x.Legal :=
  x.legal_iff.mpr ⟨writeFields_keeps Settings.Ranged h (fun _ _ _ _ _ hw hr => hr.written hw) (g.legal_iff.mp hg).1, ordered⟩

/-- The measurement configuration lies in its ranges, its consistency (R143) set aside. -/
structure MeasConfig.Ranged (c : MeasConfig) : Prop where
  others : MeasConfig.Legal { c with hazardCode := 2000, insCode := 4, sigBias := 4, baseMinimum := 0, baseMaximum := 2000 }
  hazardCode : 300 ≤ c.hazardCode ∧ c.hazardCode ≤ 2000
  sources : 4 ≤ c.insCode ∧ c.insCode ≤ 32 ∧ 4 ≤ c.sigBias ∧ c.sigBias ≤ 32
  bases : c.baseMinimum ≤ 2000 ∧ 1 ≤ c.baseMaximum ∧ c.baseMaximum ≤ 2000

theorem MeasConfig.legal_iff (c : MeasConfig) : c.Legal ↔ c.Ranged ∧ c.consistent = true :=
  ⟨fun h => ⟨⟨{ h with hazardCode := by simp, sources := by simp, bases := by simp, consistent := rfl }, h.hazardCode, h.sources, h.bases⟩,
      h.consistent⟩,
    fun ⟨h, hc⟩ => { h.others with hazardCode := h.hazardCode, sources := h.sources, bases := h.bases, consistent := hc }⟩

theorem MeasConfig.Ranged.written {c x : MeasConfig} {n : Nat} {v : Int} (h : MeasConfig.write n v c = some x) (hc : c.Ranged) : x.Ranged := by
  obtain ⟨ho, hh, hs, hb⟩ := hc
  unfold MeasConfig.write at h
  split at h
  case h_1 => exact keeps_of_number h fun y hy => ⟨ho, hy, hs, hb⟩
  case h_2 => exact keeps_of_number h fun y hy => ⟨{ ho with acquisitions := ⟨hy.1, hy.2, ho.acquisitions.2.2⟩ }, hh, hs, hb⟩
  case h_3 => exact keeps_of_number h fun y hy => ⟨{ ho with limits := ⟨hy.1, hy.2, ho.limits.2.2⟩ }, hh, hs, hb⟩
  case h_4 =>
    exact keeps_of_number h fun y hy => ⟨{ ho with limits := ⟨ho.limits.1, ho.limits.2.1, hy.1, hy.2, ho.limits.2.2.2.2⟩ }, hh, hs, hb⟩
  case h_5 => exact keeps_of_number h fun y hy => ⟨ho, hh, ⟨hy.1, hy.2, hs.2.2⟩, hb⟩
  case h_6 => exact keeps_of_map h fun y _ => ⟨{ ho with }, hh, hs, hb⟩
  case h_7 =>
    exact keeps_of_number h fun y hy =>
      ⟨{ ho with acquisitions := ⟨ho.acquisitions.1, ho.acquisitions.2.1, hy.1, hy.2, ho.acquisitions.2.2.2.2⟩ }, hh, hs, hb⟩
  case h_8 =>
    exact keeps_of_number h fun y hy =>
      ⟨{ ho with limits := ⟨ho.limits.1, ho.limits.2.1, ho.limits.2.2.1, ho.limits.2.2.2.1, hy.2⟩ }, hh, hs, hb⟩
  case h_9 => exact keeps_of_number h fun y hy => ⟨ho, hh, ⟨hs.1, hs.2.1, hy⟩, hb⟩
  case h_10 =>
    exact keeps_of_number h fun y hy =>
      ⟨{ ho with acquisitions := ⟨ho.acquisitions.1, ho.acquisitions.2.1, ho.acquisitions.2.2.1, ho.acquisitions.2.2.2.1, hy⟩ }, hh, hs, hb⟩
  case h_11 => exact keeps_of_number h fun y hy => ⟨{ ho with windows := ⟨hy.1, hy.2, ho.windows.2.2⟩ }, hh, hs, hb⟩
  case h_12 => exact keeps_of_number h fun y hy => ⟨ho, hh, hs, ⟨hy.2, hb.2⟩⟩
  case h_13 => exact keeps_of_number h fun y hy => ⟨ho, hh, hs, ⟨hb.1, hy⟩⟩
  case h_14 => exact keeps_of_number h fun y hy => ⟨{ ho with windows := ⟨ho.windows.1, ho.windows.2.1, hy⟩ }, hh, hs, hb⟩
  case h_15 => exact keeps_of_map h fun y _ => ⟨{ ho with }, hh, hs, hb⟩
  case h_16 => exact keeps_of_number h fun y hy => ⟨{ ho with rises := ⟨hy.1, hy.2, ho.rises.2.2⟩ }, hh, hs, hb⟩
  case h_17 => exact keeps_of_number h fun y hy => ⟨{ ho with rises := ⟨ho.rises.1, ho.rises.2.1, hy⟩ }, hh, hs, hb⟩
  case h_18 => exact keeps_of_number h fun y hy => ⟨{ ho with fixed := ⟨hy.2, ho.fixed.2⟩ }, hh, hs, hb⟩
  case h_19 => exact keeps_of_number h fun y hy => ⟨{ ho with fixed := ⟨ho.fixed.1, hy.2⟩ }, hh, hs, hb⟩
  case h_20 => exact keeps_of_number h fun y hy => ⟨{ ho with deglitch := hy }, hh, hs, hb⟩
  case h_21 => cases h

/-- A configuration that MEAS_CONFIG accepts is legal (R143). -/
theorem MeasConfig.Legal.written {c x : MeasConfig} {items : List FieldItem} (h : writeFields MeasConfig.write items c = some x)
    (consistent : x.consistent = true) (hc : c.Legal) : x.Legal :=
  x.legal_iff.mpr ⟨writeFields_keeps MeasConfig.Ranged h (fun _ _ _ _ _ hw hr => hr.written hw) (c.legal_iff.mp hc).1, consistent⟩

theorem Settings.write_percent {g x : Settings} {n : Nat} {v : Int} (h : Settings.write n v g = some x) (hg : g.usablePercent ≤ 100) :
    x.usablePercent ≤ 100 := by
  have hmap {β : Type} {o : Option β} {f : β → Settings} (h : o.map f = some x) (hf : ∀ y, (f y).usablePercent = g.usablePercent) :
      x.usablePercent ≤ 100 := keeps_of_map (P := (·.usablePercent ≤ 100)) h fun y _ => (hf y).trans_le hg
  unfold Settings.write at h
  split at h
  case h_10 => exact keeps_of_number (P := (·.usablePercent ≤ 100)) h fun y hy => hy.2
  case h_38 | h_39 | h_40 | h_41 | h_42 | h_43 | h_44 | h_45 | h_46 => exact hmap h fun _ => rfl
  case h_47 => cases h
  all_goals exact hmap h fun _ => rfl

/-- A SET_WRITE that does not name the door contact keeps it. -/
theorem Settings.write_doorContact {g x : Settings} {n : Nat} {v : Int} (h : Settings.write n v g = some x) (hn : n ≠ 194) :
    x.doorContact = g.doorContact := by
  have hmap {β : Type} {o : Option β} {f : β → Settings} (h : o.map f = some x) (hf : ∀ y, (f y).doorContact = g.doorContact) :
      x.doorContact = g.doorContact := keeps_of_map (P := (·.doorContact = g.doorContact)) h fun y _ => hf y
  unfold Settings.write at h
  split at h
  case h_19 => exact absurd rfl hn
  case h_38 | h_39 | h_40 | h_41 | h_42 | h_43 | h_44 | h_45 | h_46 => exact hmap h fun _ => rfl
  case h_47 => cases h
  all_goals exact hmap h fun _ => rfl

theorem writeFields_doorContact {items : List FieldItem} {g x : Settings} (h : writeFields Settings.write items g = some x)
    (hn : (items.map (·.1)).contains 194 = false) : x.doorContact = g.doorContact :=
  writeFields_keeps (·.doorContact = g.doorContact) h
    (fun n hmem _ _ _ hw hx => (Settings.write_doorContact hw fun hn' => by
      rw [hn'] at hmem
      exact absurd (List.contains_iff_mem.mpr hmem) (by simpa using hn)).trans hx) rfl

/-! ## Frames and reports (R176 to R180) -/

/-- The agent changed but for its records, with no more notices. -/
theorem State.agent_run (a : Agent) (faults : a.faults = s.mga.faults) (subscribers : a.subscribers = s.mga.subscribers)
    (notices : a.notices = s.mga.notices) : Run W (d, s) (d, { s with mga := a }) :=
  Change.run (.agent a faults subscribers fun h => notices ▸ h)

theorem State.acceptFrame_run (f : AgentFrame) (sequence : Nat) (ds : List Directive) : Run W (d, s) (d, s.acceptFrame f sequence ds) := by
  have hpost (u : State) : Run W (d, u) (d, match ds with | x :: _ => u.post (directiveCommand f.origin x) | [] => u) := by
    split
    · exact post_run _
    · exact .refl _
  unfold acceptFrame
  dsimp only
  split
  · exact .after tryNoticeFrame_run (.after (hpost _) (agent_run _ rfl rfl rfl))
  · exact .after (hpost _) (agent_run _ rfl rfl rfl)

theorem State.rejectFrame_run : Run W (d, s) (d, s.rejectFrame) := .after callTakeIn_run (agent_run _ rfl rfl rfl)

theorem State.takeFrameIn_run (o : Origin) (f : AgentFrame) : Run W (d, s) (d, s.takeFrameIn o f) := by
  have hserve : Run W (d, s) (d, { s with mga := s.mga.serve o }) := by
    cases o <;> exact agent_run _ rfl rfl rfl
  unfold takeFrameIn
  dsimp only
  split
  · exact .after (acceptFrame_run f _ _) hserve
  · exact .after rejectFrame_run hserve

theorem execAgentFrameTakeIn_run (h : execAgentFrameTakeIn s = .next t) : Run W (d, s) (d, t) := by
  unfold execAgentFrameTakeIn at h
  dsimp only at h
  refine (State.taken_run .agentFrameTakeIn).trans ?_
  split at h
  · split at h
    · cases h; exact .refl _
    · split at h <;> cases h
      · exact .refl _
      · exact State.takeFrameIn_run _ _
  · cases h; exact .refl _

theorem State.placed_run (o : Origin) : Run W (d, s) (d, s.placed o) := by
  unfold placed
  split
  · exact uplinkChoice_run
  · split
    · exact craftChoice_run
    · exact discardCraft_run

theorem State.offerReport_run (r : Report) : Run W (d, s) (d, s.offerReport r) := by
  unfold offerReport
  split
  · next hroom =>
    have hqueue : reportQueue r.origin = .aq ∨ reportQueue r.origin = .cq := by
      cases r.origin
      · exact .inl rfl
      · exact .inr rfl
    dsimp only
    exact .after callTakeIn_run (.after (placed_run _) (.after (agent_run _ rfl rfl rfl) (Change.run (.place _ _ _ _ hroom hqueue))))
  · exact agent_run _ rfl rfl rfl

theorem execReportPlacement_run (h : execReportPlacement s = .next t) : Run W (d, s) (d, t) := by
  unfold execReportPlacement at h
  split at h
  · cases h; exact (State.taken_run _).trans (State.offerReport_run _)
  · split at h <;> cases h
    · exact .after (State.offerReport_run _) (.after (State.agent_run _ rfl rfl rfl) (State.taken_run _))
    · exact .refl _
  · cases h; exact State.taken_run _

theorem execReportAbandon_run (h : execReportAbandon s = .next t) : Run W (d, s) (d, t) := by
  unfold execReportAbandon at h
  split at h
  · split at h
    · next e _ =>
      have hidle : Run W (d, s) (d, { s.reach (e + sec 2) with mga := { (s.reach (e + sec 2)).mga with
          exec := .idle, reportsLost := bump (s.reach (e + sec 2)).mga.reportsLost } }) :=
        .after (State.agent_run _ rfl rfl rfl) (State.reach_run _)
      cases h
      refine hidle.trans (.after State.callTakeIn_run ?_)
      split
      · exact State.endResetWait_run
      · exact .refl _
    · cases h; exact .refl _
  · cases h; exact .refl _
  · cases h; exact .refl _

/-! ## The lock, the fault log, notices (R181, R184, R185) -/

theorem execLock_run {o : Origin} {params : List Octet} (h : execLock o params s = .next t) : Run W (d, s) (d, t) := by
  cases h
  exact State.direct_run fun _ => .doneWith _ (State.agent_run _ rfl rfl rfl)

theorem execUnlock_run {o : Origin} {params : List Octet} (h : execUnlock o params s = .next t) : Run W (d, s) (d, t) := by
  cases h
  exact State.direct_run fun _ => .doneWith _ (State.agent_run _ rfl rfl rfl)

theorem execFaultRead_run {o : Origin} {params : List Octet} (h : execFaultRead o params s = .next t) : Run W (d, s) (d, t) := by
  cases h
  refine State.direct_run fun u => ?_
  unfold State.faultRead
  dsimp only
  split
  · exact .doneWith _ (.refl _)
  · exact ⟨Change.run .forget, .refl _⟩

theorem execNoticeTest_run {o : Origin} {params : List Octet} (h : execNoticeTest o params s = .next t) : Run W (d, s) (d, t) := by
  cases h
  exact State.direct_run fun _ => .doneWith _ (State.raiseNotice_run _)

/-! ## Subscriber records, settings and the measurement configuration (R143, R187, R188) -/

theorem Bucket.cut_empty {depth : Nat} {b : Bucket} (h : b.tokens = 0 ∧ b.remainder = 0) :
    (Bucket.cut depth b).tokens = 0 ∧ (Bucket.cut depth b).remainder = 0 := by
  simp [Bucket.cut, h.1, h.2]

theorem emptyAfterCut {v : Row 16 Bucket} {p q : Port} {depth : Nat} (h : (v.get q).tokens = 0 ∧ (v.get q).remainder = 0) :
    ((v.modify p (Bucket.cut depth)).get q).tokens = 0 ∧ ((v.modify p (Bucket.cut depth)).get q).remainder = 0 := by
  rw [Row.get_modify]
  split
  · exact Bucket.cut_empty h
  · exact h

theorem State.cutBuckets_run (p : Port) (old new : Subscriber) : Run W (d, s) (d, s.cutBuckets p old new) := by
  have hup (u : State) : Run W (d, u) (d, if new.upBurst = old.upBurst then u
      else { u with txs := { u.txs with upBuckets := u.txs.upBuckets.modify p (Bucket.cut (depthOf new.upBurst)) } }) := by
    split
    · exact .refl _
    · exact Change.run (.buckets _ u.txs.downBuckets fun q hq _ => ⟨emptyAfterCut hq.up, hq.down⟩)
  unfold cutBuckets
  dsimp only
  refine (hup s).trans ?_
  generalize (if new.upBurst = old.upBurst then s
      else { s with txs := { s.txs with upBuckets := s.txs.upBuckets.modify p (Bucket.cut (depthOf new.upBurst)) } }) = u
  split
  · exact .refl _
  · exact Change.run (.buckets u.txs.upBuckets _ fun q hq _ => ⟨hq.up, emptyAfterCut hq.down⟩)

theorem State.newIdleDoze_run (p : Port) (old new : Subscriber) : Run W (d, s) (d, s.newIdleDoze p old new) := by
  unfold newIdleDoze
  split
  · exact .refl _
  · next h =>
    have hup : (s.port p).state = .up := by simpa using (not_or.mp h).2
    exact modifyPort_run p _ (.of_sameRelays ⟨rfl, rfl, rfl, rfl⟩ rfl (fun _ => rfl) fun h => { h with idleTimer := fun _ => hup }) rfl (.inl hup)

theorem State.subWritten_run (w : W) (p : Port) (numbers : List Nat) (old new : Subscriber) (h : (s.sub p).Legal → new.Legal) :
    Run W (d, s) (d, s.subWritten p numbers old new) := by
  have hpost (b : Bool) (u : State) : Run W (d, u) (d, if b then u.post .evaluation else u) := by
    split
    · exact post_run _
    · exact .refl _
  have hwatch (b : Bool) (u : State) : Run W (d, u) (d, if b then u.rewatch p else u) := by
    split
    · exact rewatch_run p
    · exact .refl _
  exact .after (select_run w) (.after (hwatch _ _) (.after (hpost _ _) (.after trigger_run (.after (newIdleDoze_run p _ _)
    (.after (cutBuckets_run p _ _) (Change.run (.subscriber p new h)))))))

theorem execSubWrite_run (w : W) {o : Origin} {params : List Octet} (h : execSubWrite o params s = .next t) : Run W (d, s) (d, t) := by
  cases h
  refine State.direct_run fun u => ?_
  unfold State.subWrite
  split
  · exact .refuse _
  · split
    · exact .refuse _
    · next p _ =>
      split
      · exact .refuse _
      · next x hx =>
        exact .doneWith _ (State.subWritten_run w p _ _ _ fun hl =>
          writeFields_keeps Subscriber.Legal hx (fun _ _ _ _ _ hw hu => hu.written hw) hl)

theorem execSubRead_run {o : Origin} {params : List Octet} (h : execSubRead o params s = .next t) : Run W (d, s) (d, t) := by
  cases h
  exact State.direct_run_of_read onPort_read

theorem State.expireOverdue_run (w : W) : Run W (d, s) (d, s.expireOverdue) := Run.foldl _ (fun _ r => endQueued_run w r _ _) _ _

/-- A written door contact brings the craft port's power to be judged again (R168); without one the door stands. -/
theorem State.settingsWritten_run (w : W) (hd : d.loose = none) (numbers : List Nat) (g : Settings) (legal : s.settings.Legal → g.Legal)
    (percent : s.settings.usablePercent ≤ 100 → g.usablePercent ≤ 100)
    (door : numbers.contains 194 = false → g.doorContact = s.settings.doorContact) :
    Run W (d, s) (d, s.settingsWritten numbers g) := by
  have htrigger (e : Debt) (b : Bool) (u : State) : Run W (e, u) (e, if b then u.trigger else u) := by
    split
    · exact trigger_run
    · exact .refl _
  have hexpire (e : Debt) (c : Prop) [Decidable c] (u : State) : Run W (e, u) (e, if c then u.expireOverdue else u) := by
    split
    · exact expireOverdue_run w
    · exact .refl _
  have hcut (e : Debt) (b : Bool) (u : State) : Run W (e, u) (e, if b then u.cutCounts else u) := by
    split
    · exact watch_run _
    · exact .refl _
  have hpost (b : Bool) (u : State) : Run W (d, u) (d, if b then u.post .evaluation else u) := by
    split
    · exact post_run _
    · exact .refl _
  unfold settingsWritten
  dsimp only
  refine .after (hpost _ _) ?_
  split
  · refine Debt.unjudge_run.trans (.after (judgeCraftPower_run hd) (.after (hcut _ _ _) (.after (hexpire _ _ _) (.after (htrigger _ _ _) ?_))))
    exact Change.run (.settings g legal percent (.inl trivial))
  · next hdoor =>
    refine .after (hcut _ _ _) (.after (hexpire _ _ _) (.after (htrigger _ _ _) ?_))
    exact Change.run (.settings g legal percent (.inr (door (Bool.eq_false_iff.mpr hdoor))))

theorem execSetWrite_run (w : W) (hd : d.loose = none) {o : Origin} {params : List Octet} (h : execSetWrite o params s = .next t) :
    Run W (d, s) (d, t) := by
  cases h
  refine State.direct_run fun u => ?_
  unfold State.setWrite
  split
  · exact .refuse _
  · next g hg =>
    split
    · next ho =>
      exact .doneWith _ (State.settingsWritten_run w hd _ g (Settings.Legal.written hg ho)
        (fun hp => writeFields_keeps (·.usablePercent ≤ 100) hg (fun _ _ _ _ _ hw => Settings.write_percent hw) hp)
        (writeFields_doorContact hg))
    · exact .refuse _

theorem execSetRead_run {o : Origin} {params : List Octet} (h : execSetRead o params s = .next t) : Run W (d, s) (d, t) := by
  cases h
  exact State.direct_run_of_read fun _ => ⟨rfl, rfl⟩

theorem execMeasConfig_run {o : Origin} {params : List Octet} (h : execMeasConfig o params s = .next t) : Run W (d, s) (d, t) := by
  cases h
  refine State.direct_run fun u => ?_
  unfold State.measConfig
  split
  · exact .refuse _
  · next c hc =>
    refine .ite (fun _ => .refuse _) fun hcons => .ite (fun _ => .refuse _) fun _ => ?_
    exact .doneWith _ (Change.run (.msu _ (MeasConfig.Legal.written hc (by simpa using hcons))))

/-! ## Counters, RESET, unknown codes (R178, R189, R191) -/

/-- A row changed at the entries of a list, each by a change that is done once and for all. -/
theorem foldl_modify_get {α : Type} {f : α → α} (hf : ∀ x, f (f x) = f x) (xs : List Port) (v : Row 16 α) (q : Port) :
    (xs.foldl (fun v p => v.modify p f) v).get q = if q ∈ xs then f (v.get q) else v.get q := by
  induction xs generalizing v with
  | nil => simp
  | cons p xs ih =>
    rw [List.foldl_cons, ih, Row.get_modify]
    by_cases hp : q = p <;> by_cases hx : q ∈ xs <;> simp [hp, hx, hf]

theorem State.foldl_countPort (f : PortCounters → PortCounters) (xs : List Port) (s : State) :
    xs.foldl (fun u p => u.countPort p f) s =
      { s with ports := xs.foldl (fun v p => v.modify p fun r => { r with counters := f r.counters }) s.ports } := by
  induction xs generalizing s with
  | nil => rfl
  | cons p xs ih => exact ih _

/-- The counters of every port cleared, port by port. -/
theorem State.clearCounters_eq (s : State) :
    ({ s with ports := s.ports.mapEach fun _ r => { r with counters := .zero } } : State) =
      allPorts.foldl (fun u p => u.countPort p fun _ => .zero) s := by
  have hports : (s.ports.mapEach fun _ r => { r with counters := .zero }) =
      allPorts.foldl (fun v p => v.modify p fun r => { r with counters := .zero }) s.ports :=
    Row.ext fun q => by rw [foldl_modify_get (f := fun r : PortRecord => { r with counters := .zero }) (fun _ => rfl), if_pos (mem_allPorts q), Row.get_mapEach]
  rw [State.foldl_countPort, hports]

theorem State.clearGroup_run (g : CounterGroup) : Run W (d, s) (d, s.clearGroup g) := by
  cases g with
  | ports =>
    unfold clearGroup
    dsimp only
    rw [clearCounters_eq]
    exact Run.foldl _ (fun _ p => countPort_run p _) _ _
  | classifier => exact classifier_run _ ⟨rfl, rfl, rfl⟩ fun h => h.of_same rfl rfl rfl rfl
  | buffer => exact Change.run (.drops _ _)
  | scheduler => exact scheduler_run _ ⟨rfl, rfl, rfl, rfl, rfl⟩
  | agent => exact agent_run _ rfl rfl rfl

theorem execCountersRead_run {o : Origin} {params : List Octet} (h : execCountersRead o params s = .next t) : Run W (d, s) (d, t) := by
  cases h
  refine State.direct_run fun u => ?_
  unfold State.countersRead
  split
  · split
    · exact .refuse _
    · refine .ite (fun _ => .refuse _) fun _ => ⟨?_, .refl _⟩
      dsimp only
      split
      · exact State.clearGroup_run _
      · exact .refl _
  · exact .refuse _

theorem State.resetAsked_run (wait : ResetWait) : Answer.Runs W d s (s.resetAsked wait) := .doneWith _ (agent_run _ rfl rfl rfl)

theorem execResetDirective_run {o : Origin} {params : List Octet} (h : execResetDirective o params s = .next t) : Run W (d, s) (d, t) := by
  unfold execResetDirective at h
  split at h
  · cases h; exact .refl _
  · dsimp only at h
    have hentered := (State.answer_run (W := W) (d := d) (s := s) o (noParams params) .changing (State.resetAsked_run .over)).state
    split at h <;> cases h
    · exact .after (State.post_run _) (.after (State.noteEntry_run _) hentered)
    · exact .after (State.noteEntry_run _) hentered
  · cases h
    exact (State.taken_run _).trans (State.enterAnswer_run _ _ _ (State.answer_run o _ _ (State.resetAsked_run _)))

theorem execUnknownDirective_run {o : Origin} {code : Octet} {params : List Octet} (h : execUnknownDirective o code params s = .next t) :
    Run W (d, s) (d, t) := by
  unfold execUnknownDirective at h
  split at h <;> cases h
  · exact .refl _
  · exact State.direct_run fun _ => .refuse _

end Sys2Proof.Machine
end

section
/-! SUPPORT. Every command but a reset is a run of elementary changes that owes nothing before it and nothing after it. -/

namespace Sys2Proof.Machine

/-- The commands that may change the Pair Test Controller: its own, and the two writes that bring a selection (R105, R187). -/
def movesPtc : Instr → Bool
  | .testRequest .. | .portReport .. | .granted .. | .denied .. | .outDone | .outFailed | .backDone
  | .released .. | .waitDeadlineExpiry .. | .portDisabledReport .. | .portHeldReport .. | .mismatchReport .. | .busShed | .busAdmit
  | .measurementItem .. | .measureDone | .testAbort .. | .testSuspend .. | .testResume .. | .testbusClear .. | .subWrite ..
  | .setWrite .. => true
  | _ => false

/-- The two resets. -/
def isReset : Instr → Bool
  | .powerOnReset .. | .directedReset => true
  | _ => false

/-- Every command but a reset is a run of elementary changes (R178: no operand and no state stops it). -/
theorem exec_run {c : Instr} {s t : State} (hc : isReset c = false) (h : exec c s = .next t) :
    Run (movesPtc c = true) (.none, s) (.none, t) := by
  cases c with
  | powerOnReset _ => cases hc
  | directedReset => cases hc
  | trainingStarted _ => exact execTrainingStarted_run h
  | trained _ _ _ => exact execTrained_run h
  | rateChanged _ _ _ => exact execRateChanged_run h
  | linkLost _ => exact execLinkLost_run h
  | gapEnd _ => exact execGapEnd_run h
  | settleEnd _ => exact execSettleEnd_run h
  | relaySenseChange _ _ _ => exact execRelaySenseChange_run h
  | idleTimerExpiry _ => exact execIdleTimerExpiry_run h
  | take _ _ _ => exact execTake_run h
  | transferOut _ => exact execTransferOut_run h
  | transferBack _ => exact execTransferBack_run h
  | release _ => exact execRelease_run h
  | hazardReport _ _ _ => exact execHazardReport_run h
  | portEnable _ _ => exact execPortEnable_run h
  | portDisable _ _ => exact execPortDisable_run h
  | portClear _ _ => exact execPortClear_run h
  | portWake _ _ => exact execPortWake_run h
  | portStatus _ _ => exact execPortStatus_run h
  | frameStart _ => exact execFrameStart_run h
  | cellRequest _ => exact execCellRequest_run h
  | upstreamHeader _ _ => exact execUpstreamHeader_run h
  | downstreamHeader _ => exact execDownstreamHeader_run h
  | craftHeader _ => exact execCraftHeader_run h
  | frameEnd _ _ _ _ => exact execFrameEnd_run rfl h
  | activityTimerExpiry _ => exact execActivityTimerExpiry_run h
  | capacityReport _ => exact execCapacityReport_run h
  | uplinkLinkStateChange _ => exact execUplinkLinkStateChange_run h
  | computationComplete => exact execComputationComplete_run h
  | shareRead _ _ => exact execShareRead_run h
  | shareRecompute _ _ => exact execShareRecompute_run h
  | upstreamRefill _ => exact execUpstreamRefill_run h
  | downstreamRefill _ => exact execDownstreamRefill_run h
  | pauseChange _ => exact execPauseChange_run h
  | uplinkCompletion => exact execUplinkCompletion_run h
  | lineCompletion _ => exact execLineCompletion_run h
  | craftCompletion => exact execCraftCompletion_run h
  | craftLinkChange _ => exact execCraftLinkChange_run h
  | trialTimerExpiry => exact execTrialTimerExpiry_run h
  | ftCandidateClear _ _ => exact execFtCandidateClear_run h
  | ftCandidateCopy _ _ => exact execFtCandidateCopy_run h
  | ftWrite _ _ => exact execFtWrite_run h
  | ftRead _ _ => exact execFtRead_run h
  | ftActivate _ _ => exact execFtActivate_run h
  | ftConfirm _ _ => exact execFtConfirm_run h
  | ftRevert _ _ => exact execFtRevert_run h
  | testRequest _ _ => exact execTestRequest_run rfl h
  | portReport _ _ _ _ => exact execPortReport_run rfl h
  | granted _ => exact execGranted_run rfl h
  | denied _ => exact execDenied_run rfl h
  | outDone => exact execOutDone_run rfl h
  | outFailed => exact execOutFailed_run rfl h
  | backDone => exact execBackDone_run rfl h
  | released _ => exact execReleased_run rfl h
  | waitDeadlineExpiry _ => exact execWaitDeadlineExpiry_run rfl h
  | portDisabledReport _ => exact execPortDisabledReport_run rfl h
  | portHeldReport _ _ => exact execPortHeldReport_run rfl h
  | mismatchReport _ _ => exact execMismatchReport_run rfl h
  | busShed => exact execBusShed_run rfl h
  | busAdmit => exact execBusAdmit_run rfl h
  | measurementItem _ => exact execMeasurementItem_run rfl h
  | measureDone => exact execMeasureDone_run rfl h
  | testAbort _ _ => exact execTestAbort_run rfl h
  | testSuspend _ _ => exact execTestSuspend_run rfl h
  | testResume _ _ => exact execTestResume_run rfl h
  | testbusClear _ _ => exact execTestbusClear_run rfl h
  | testResult _ _ => exact execTestResult_run h
  | testList _ _ => exact execTestList_run h
  | measureStart _ _ _ => exact execMeasureStart_run h
  | measureStop => exact execMeasureStop_run h
  | acquisitionEnd => exact execAcquisitionEnd_run h
  | conversionSample _ _ => exact execConversionSample_run h
  | listenSample _ _ => exact execListenSample_run h
  | listenWindowEnd => exact execListenWindowEnd_run h
  | dischargeGapEnd => exact execDischargeGapEnd_run h
  | dischargeEnd => exact execDischargeEnd_run h
  | measConfig _ _ => exact execMeasConfig_run h
  | measRead _ _ => exact execMeasRead_run h
  | sweep _ => exact execSweep_run h
  | watchRead _ _ => exact execWatchRead_run h
  | contactPoll _ => exact execContactPoll_run rfl h
  | temperatureReading _ => exact execTemperatureReading_run h
  | supplySample _ _ => exact execSupplySample_run rfl h
  | craftHoldExpiry => exact execCraftHoldExpiry_run rfl h
  | evaluation => exact execEvaluation_run h
  | contactConfig _ _ => exact execContactConfig_run h
  | contactRead _ _ => exact execContactRead_run h
  | supplyRead _ _ => exact execSupplyRead_run h
  | thermalClear _ _ => exact execThermalClear_run h
  | budgetRead _ _ => exact execBudgetRead_run h
  | agentFrameTakeIn => exact execAgentFrameTakeIn_run h
  | reportPlacement => exact execReportPlacement_run h
  | reportAbandon => exact execReportAbandon_run h
  | lock _ _ => exact execLock_run h
  | unlock _ _ => exact execUnlock_run h
  | faultRead _ _ => exact execFaultRead_run h
  | noticeTest _ _ => exact execNoticeTest_run h
  | subWrite _ _ => exact execSubWrite_run rfl h
  | subRead _ _ => exact execSubRead_run h
  | setWrite _ _ => exact execSetWrite_run rfl rfl h
  | setRead _ _ => exact execSetRead_run h
  | countersRead _ _ => exact execCountersRead_run h
  | resetDirective _ _ => exact execResetDirective_run h
  | unknownDirective _ _ _ => exact execUnknownDirective_run h

end Sys2Proof.Machine
end

section
/-! SUPPORT. Steps, resets and what they keep: the invariants of a step from those of an elementary change. -/

namespace Sys2Proof.Machine

variable {W : Prop} {x y : Debt × State} {s t : State}

/-! ## Steps (O1, O2) -/

/-- A step idles or executes the front command on the rest of the queue. -/
theorem step_cases (h : step s = .next t) : t = s ∨ ∃ c rest, s.pending = c :: rest ∧ exec c { s with pending := rest } = .next t := by
  unfold step at h
  split at h
  · cases h; exact .inl rfl
  · next c rest hp => exact .inr ⟨c, rest, hp, h⟩

/-- What DIRECTED_RESET can do: it is taken with no effect, or resets at a time that is not before now (R191). -/
theorem execDirectedReset_cases (h : execDirectedReset s = .next t) :
    t = s.taken .directedReset ∨ t = s.directed ∨ ∃ limit, t = (s.reach limit).directed := by
  unfold execDirectedReset at h
  split at h <;> cases h
  · exact .inl rfl
  · exact .inl rfl
  · exact .inr (.inr ⟨_, rfl⟩)
  · exact .inr (.inl rfl)

/-- An invariant of the state that is kept, with what a command owes in between, by every elementary change, and that the two resets meet, is kept
by every step. -/
theorem step_keeps {I : State → Prop} (P : Debt × State → Prop) (pending : ∀ (s : State) (l : List Instr), I s → I { s with pending := l })
    (iff : ∀ s, P (.none, s) ↔ I s) (change : ∀ (W : Prop) (x y : Debt × State), Change W x y → P x → P y)
    (power : ∀ (straps : BitVec 16) (s : State), I (s.powerOn straps)) (directed : ∀ s : State, I s → I s.directed)
    (h : step s = .next t) (hs : I s) : I t := by
  have hrun {W : Prop} {u v : State} (h : Run W (.none, u) (.none, v)) (hu : I u) : I v :=
    (iff v).mp (h.keeps P (change W) ((iff u).mpr hu))
  rcases step_cases h with rfl | ⟨c, rest, -, h⟩
  · exact hs
  · have hs := pending s rest hs
    cases hc : isReset c with
    | false => exact hrun (exec_run hc h) hs
    | true =>
      cases c with
      | powerOnReset straps => cases h; exact power straps _
      | directedReset =>
        rcases execDirectedReset_cases h with rfl | rfl | ⟨limit, rfl⟩
        · exact hrun (W := True) (State.taken_run _) hs
        · exact directed _ hs
        · exact directed _ (hrun (W := True) (State.reach_run limit) hs)
      | _ => cases hc

/-! ## The list of commands and the clock -/

theorem Change.pending (h : Change W x y) : y.2.pending = x.2.pending := by
  cases h <;> simp

theorem Change.now (h : Change W x y) : x.2.now ≤ y.2.now := by
  cases h <;> simp

/-! ## The port records -/

/-- What an elementary change does to the port records: nothing, or one is replaced by a record that follows it. -/
theorem Change.ports (h : Change W x y) :
    y.2.ports = x.2.ports ∨ ∃ p r, r.Follows x.1 x.2 p ∧ y.2.ports = x.2.ports.set p r := by
  cases h
  case record p r hr same out => exact .inr ⟨p, r, hr, rfl⟩
  case install p r hr =>
    exact .inr ⟨p, _, hr, by unfold State.installPort; dsimp only; split <;> simp⟩
  all_goals exact .inl (by simp)

end Sys2Proof.Machine
end

section
/-! The obligations on steps and on what every step keeps: commands and clock, relays, port records, flow table. -/

namespace Sys2Proof.Machine

variable {W : Prop} {x y : Debt × State} {s t : State}

/-! ## O1, O2 -/

/-- Settles O1. -/
theorem stepRunsTheFrontCommand : Obligations.StepRunsTheFrontCommand := by
  refine ⟨fun c rest s h => ?_, fun s h => ?_⟩ <;> simp only [step, h]

/-- A report taken answers when its effect does. -/
theorem State.takeReport_answers {b : Reporter} {m : Instr} {effect : State → Host.Outcome State Fault Refusal}
    (h : ∀ u, ∃ t, effect u = .next t) (s : State) : ∃ t, s.takeReport b m effect = .next t := by
  unfold takeReport
  split
  · exact h _
  · exact ⟨_, rfl⟩

/-- Every branch of every command ends in a next state. -/
theorem exec_answers (c : Instr) (s : State) : ∃ t, exec c s = .next t := by
  cases c
  case portReport | granted | denied | outDone | outFailed | backDone | released | portDisabledReport | portHeldReport | mismatchReport
      | measurementItem | measureDone =>
    simp only [exec, execPortReport, execGranted, execDenied, execOutDone, execOutFailed, execBackDone, execReleased, execPortDisabledReport,
      execPortHeldReport, execMismatchReport, execMeasurementItem, execMeasureDone]
    refine State.takeReport_answers (fun u => ?_) s
    (repeat' split) <;> exact ⟨_, rfl⟩
  all_goals
    simp only [exec, execTrainingStarted, execTrained, execRateChanged, execLinkLost, execGapEnd, execSettleEnd, execRelaySenseChange,
      execIdleTimerExpiry, execTake, execTransferOut, execTransferBack, execRelease, execFrameStart, execCellRequest,
      execUpstreamHeader, execDownstreamHeader, execCraftHeader, execFrameEnd, execActivityTimerExpiry, execCapacityReport,
      execUplinkLinkStateChange, execComputationComplete, execPauseChange, execUplinkCompletion, execLineCompletion, execCraftCompletion,
      execCraftLinkChange, execTrialTimerExpiry, execWaitDeadlineExpiry, execMeasureStart, execMeasureStop, execAcquisitionEnd,
      execConversionSample, execListenSample, execListenWindowEnd, execDischargeGapEnd, execDischargeEnd, execSweep, execSupplySample,
      execCraftHoldExpiry, execAgentFrameTakeIn, execReportPlacement, execReportAbandon, execResetDirective, execUnknownDirective,
      execDirectedReset]
    repeat' split
    all_goals exact ⟨_, rfl⟩

/-- Settles O2: the branches of the commands all end in a next state, and no elementary change touches the waiting commands or runs the clock back. -/
theorem noCommandStopsThePart : Obligations.NoCommandStopsThePart := by
  intro c s
  obtain ⟨t, ht⟩ := exec_answers c s
  refine ⟨t, ht, ?_⟩
  cases hc : isReset c with
  | false =>
    exact (exec_run hc ht).keeps (fun x => x.2.pending = s.pending ∧ ((∀ straps, c ≠ .powerOnReset straps) → s.now ≤ x.2.now))
      (fun x y h hx => ⟨h.pending.trans hx.1, fun hne => (hx.2 hne).trans h.now⟩) ⟨rfl, fun _ => le_rfl⟩
  | true =>
    cases c with
    | powerOnReset straps => cases ht; exact ⟨rfl, fun h => absurd rfl (h straps)⟩
    | directedReset =>
      rcases execDirectedReset_cases ht with rfl | rfl | ⟨limit, rfl⟩
      · exact ⟨rfl, fun _ => le_rfl⟩
      · exact ⟨rfl, fun _ => le_rfl⟩
      · exact ⟨rfl, fun _ => le_max_left _ _⟩
    | _ => cases hc

/-! ## O6, O7: the port records -/

/-- A property of the port records that every record which follows keeps, and that the resets meet, is kept by every step. -/
theorem step_keeps_ports {I : (Port → PortRecord) → Prop}
    (follows : ∀ d (u : State) p (r : PortRecord), r.Follows d u p → I u.port → I fun q => if q = p then r else u.port q)
    (power : ∀ f : Port → PortRecord, I fun p => (f p).powerOn) (directed : ∀ n (f : Port → PortRecord), I fun p => (f p).directed n)
    (h : step s = .next t) (hs : I s.port) : I t.port := by
  refine step_keeps (I := fun s => I s.port) (fun x => I x.2.port) (fun _ _ h => h) (fun _ => Iff.rfl) (fun W x y h hx => ?_)
    (fun straps s => ?_) (fun s _ => ?_) h hs
  · rcases h.ports with h | ⟨p, r, hr, h⟩
    · rwa [show y.2.port = x.2.port from funext fun q => congrArg (·.get q) h]
    · have hport : y.2.port = fun q => if q = p then r else x.2.port q := funext fun q => by
        rw [State.port, h, Row.get_set]; rfl
      exact hport ▸ follows x.1 x.2 p r hr hx
  · exact (funext fun p => Row.get_mapEach _ s.ports p : (s.powerOn straps).port = fun p => (s.port p).powerOn) ▸ power s.port
  · exact (funext fun p => Row.get_mapEach _ s.ports p : s.directed.port = fun p => (s.port p).directed s.now) ▸ directed s.now s.port

/-- Relay commands in their arrangement are not both closed (R7). -/
theorem PortRecord.RelaysFollow.apart {r : PortRecord} (h : r.RelaysFollow) : ¬(r.lineClosedCmd = true ∧ r.testClosedCmd = true) := by
  rintro ⟨hline, htest⟩
  have harr := h.1
  rw [hline, htest] at harr
  unfold PortRecord.arrangement at harr
  split at harr
  · split at harr <;> cases harr
  · split at harr <;> cases harr

theorem PortRecord.powerOn_relaysFollow (r : PortRecord) : r.powerOn.RelaysFollow := ⟨rfl, fun x hx => by cases hx; rfl⟩

theorem PortRecord.directed_relaysFollow (n : Nat) (r : PortRecord) : (r.directed n).RelaysFollow := by
  unfold PortRecord.directed
  split <;> exact ⟨rfl, fun x hx => by cases hx; rfl⟩

/-- At most one port is in TEST and at most one pair on the test bus. -/
def oneOnBus (f : Port → PortRecord) : Prop :=
  (∀ p q, (f p).state = .test → (f q).state = .test → p = q) ∧ ∀ p q, (f p).testClosedCmd = true → (f q).testClosedCmd = true → p = q

/-- What holds of at most one port still does when a port comes to have it that had it already or finds no other that has. -/
theorem atMostOne_ite {P : PortRecord → Prop} {f : Port → PortRecord} {p : Port} {r : PortRecord} (h : ∀ a b, P (f a) → P (f b) → a = b)
    (hr : P r → P (f p) ∨ ∀ q, q ≠ p → ¬P (f q)) (a b : Port) (ha : P (if a = p then r else f a)) (hb : P (if b = p then r else f b)) : a = b := by
  by_cases hap : a = p <;> by_cases hbp : b = p
  · rw [hap, hbp]
  · rw [if_pos hap] at ha
    rw [if_neg hbp] at hb
    exact (hr ha).elim (fun hp => hap.trans (h p b hp hb)) fun hno => absurd hb (hno b hbp)
  · rw [if_neg hap] at ha
    rw [if_pos hbp] at hb
    exact (hr hb).elim (fun hp => (h a p ha hp).trans hbp.symm) fun hno => absurd ha (hno a hap)
  · rw [if_neg hap] at ha
    rw [if_neg hbp] at hb
    exact h a b ha hb

/-- After a reset no port is lent and no test relay is commanded closed. -/
theorem oneOnBus_of_none {f : Port → PortRecord} (state : ∀ p, (f p).state ≠ .test) (cmd : ∀ p, (f p).testClosedCmd = false) : oneOnBus f :=
  ⟨fun p _ hp => absurd hp (state p), fun p _ hp => by simp [cmd] at hp⟩

theorem PortRecord.directed_state (n : Nat) (r : PortRecord) : (r.directed n).state = .disabled ∧ (r.directed n).testClosedCmd = false := by
  unfold PortRecord.directed
  split <;> exact ⟨rfl, rfl⟩

/-- Settles O6: a record that takes another's place keeps the arrangement, and a port is lent, or joins the bus, only where no other has it. -/
theorem theRelaysStayApart : Obligations.TheRelaysStayApart := by
  refine fun s t h => ⟨fun hs p => ?_, fun hs => ?_⟩
  · have hfollow : ∀ q, (t.port q).RelaysFollow :=
      step_keeps_ports (I := fun f => ∀ q, (f q).RelaysFollow)
        (fun d u p r hr hu q => by
          by_cases hq : q = p
          · subst hq; simpa using hr.relays (hu q)
          · simpa [hq] using hu q)
        (fun f q => (f q).powerOn_relaysFollow) (fun n f q => (f q).directed_relaysFollow n) h hs
    exact ⟨hfollow p, (hfollow p).apart⟩
  · exact step_keeps_ports (I := oneOnBus)
      (fun d u p r hr hu =>
        ⟨atMostOne_ite (P := (·.state = .test)) hu.1 fun hst => (hr.lent hst).imp_right fun hno q _ => hno q,
          atMostOne_ite (P := (·.testClosedCmd = true)) hu.2 fun hst => (hr.bus hst).imp_right fun hno q hq => by simp [hno q hq]⟩)
      (fun f => oneOnBus_of_none (fun p => nofun) fun p => rfl)
      (fun n f => oneOnBus_of_none (fun p hp => by simp [(f p).directed_state n] at hp) fun p => ((f p).directed_state n).2) h hs

theorem PortRecord.powerOn_sound (r : PortRecord) : r.powerOn.Sound := by
  constructor <;> simp [PortRecord.powerOn, PortRecord.afterReset, HeldReasons.any, HeldReasons.empty, DozeCauses.isEmpty, DozeCauses.empty]

/-- A directed reset leaves a record as sound as a power-on reset: they differ in the restoring transfer (R2, R9). -/
theorem PortRecord.directed_sound (n : Nat) (r : PortRecord) : (r.directed n).Sound := by
  obtain h := r.powerOn_sound
  unfold PortRecord.directed
  split <;> exact { h with atRest := nofun, heldOrder := nofun, ordersOn := by simp [PortRecord.powerOn, PortRecord.afterReset] }

/-- Settles O7: the record that takes another's place keeps its fields together. -/
theorem portRecordsStaySound : Obligations.PortRecordsStaySound := fun s t hs h =>
  step_keeps_ports (I := fun f => ∀ q, (f q).Sound)
    (fun d u p r hr hu q => by
      by_cases hq : q = p
      · subst hq; simpa using hr.sound (hu q)
      · simpa [hq] using hu q)
    (fun f q => (f q).powerOn_sound) (fun n f q => (f q).directed_sound n) h hs

/-! ## O8: the flow table -/

theorem Classifier.restarted_sound (c : Classifier) : c.restarted.Sound :=
  { active :=
      { rising := List.pairwise_singleton _ _, within := by simp [Classifier.restarted, Classifier.afterReset]
        made := by simp [Classifier.restarted, Classifier.afterReset, FlowEntry.lane, FlowEntry.wellMade]
        keys := List.pairwise_singleton _ _ }
    candidate := .nil
    path := rfl
    fallback := nofun
    mark := by simp [Classifier.restarted, Classifier.afterReset] }

/-- A change of receptions alone leaves the classifier sound. -/
theorem Classifier.Sound.setReception {s : State} (h : s.fcl.Sound) (src : Source) (r : Option Reception) : (s.setReception src r).fcl.Sound := by
  cases src <;> exact h.of_same rfl rfl rfl rfl

theorem Change.classifier_sound (h : Change W x y) (hx : x.2.fcl.Sound) : y.2.fcl.Sound := by
  cases h
  case classifier c rx hc => exact hc hx
  case frameStart | nextCell | reception | takeOut => exact Classifier.Sound.setReception (by simpa using hx) _ _
  case dropFrame => exact Classifier.Sound.setReception (by simpa using hx) _ _
  all_goals simpa using hx

/-- Settles O8: edits of the candidate keep a bank's keys apart, and a trial starts only on a candidate with an AGENT entry. -/
theorem theAgentPathIsKept : Obligations.TheAgentPathIsKept := fun _ _ hs h =>
  step_keeps (I := fun s => s.fcl.Sound) (fun x => x.2.fcl.Sound) (fun _ _ h => h) (fun _ => Iff.rfl)
    (fun _ _ _ h hx => h.classifier_sound hx) (fun _ s => s.fcl.restarted_sound) (fun s _ => s.fcl.restarted_sound) h hs

end Sys2Proof.Machine
end

section
/-! The obligations on what every step keeps: the craft port's power, the parameters, the grants. -/

namespace Sys2Proof.Machine

variable {W : Prop} {x y : Debt × State} {s t : State}

/-! ## O13: the craft port's power -/

theorem Change.craftJudged (h : Change W x y) (hx : x.2.CraftJudged ∨ x.1.unjudged) : y.2.CraftJudged ∨ y.1.unjudged := by
  cases h
  case weaken e he => exact hx.imp_right he.unjudged
  case judged hj => exact .inl hj
  case csu c latch craft => exact hx.elim (fun hj => craft.elim .inr fun hc => .inl (hc hj)) .inr
  case settings g legal percent door =>
    refine hx.elim (fun hj => door.imp_left .inr |>.elim id fun hd => .inl ?_) .inr
    simpa [State.CraftJudged, State.doorOpen, hd] using hj
  case raise => exact hx.imp_right fun hu => by split <;> exact hu
  all_goals exact hx.imp_left fun hj => by simpa [State.CraftJudged, State.doorOpen] using hj

/-- Settles O13: whatever changes the stage, the door or the hold timer is followed by a judgement before the command ends. -/
theorem theCraftPortIsPoweredAsJudged : Obligations.TheCraftPortIsPoweredAsJudged := fun _ _ hs h =>
  step_keeps (fun x => x.2.CraftJudged ∨ x.1.unjudged) (fun _ _ h => h) (fun _ => or_iff_left id) (fun _ _ _ h hx => h.craftJudged hx)
    (fun _ _ => rfl) (fun _ _ => rfl) h hs

/-! ## O14: the parameters -/

theorem Change.parametersLegal (h : Change W x y) (hx : x.2.ParametersLegal) : y.2.ParametersLegal := by
  obtain ⟨hsettings, hsubs, hconfig⟩ := hx
  cases h
  case subscriber p u hu =>
    refine ⟨hsettings, fun q => ?_, hconfig⟩
    rw [State.sub, Row.get_set]
    split
    · next hq => exact hu (hq ▸ hsubs q)
    · exact hsubs q
  case agent a faults subscribers notices => exact ⟨hsettings, fun q => by simpa [State.sub, subscribers] using hsubs q, hconfig⟩
  case msu m hm => exact ⟨hsettings, hsubs, hm hconfig⟩
  case settings g legal percent door => exact ⟨legal hsettings, hsubs, hconfig⟩
  all_goals exact ⟨by simpa using hsettings, by simpa [State.sub] using hsubs, by simpa using hconfig⟩

/-- A raise changes the fault log and the count of what it lost, and nothing else. -/
theorem Agent.raise_eq (src : FaultSource) (kind : FaultKind) (cause : Option RestartCause) (uptime : Nat) (a : Agent) :
    (a.raise src kind cause uptime).1 =
      { a with faults := (a.raise src kind cause uptime).1.faults, faultsLost := (a.raise src kind cause uptime).1.faultsLost } := by
  unfold Agent.raise
  split
  · rfl
  · split <;> rfl

theorem State.directed_sub (s : State) (p : Port) : s.directed.sub p = .default := by
  change (Agent.restarted s.uptime s.mga).subscribers.get p = .default
  rw [Agent.restarted, Agent.raise_eq]
  exact Row.get_all _ p

theorem default_parametersLegal : Settings.default.Legal ∧ Subscriber.default.Legal ∧ MeasConfig.default.Legal := by
  refine ⟨?_, ?_, ?_⟩ <;> constructor <;> decide

/-- Settles O14: a write that is accepted lies in its field's range, and the orderings are checked before it takes effect. -/
theorem parametersStayLegal : Obligations.ParametersStayLegal := fun _ _ hs h =>
  have hdefault : ∀ u : State, u.settings = .default → (∀ p, u.sub p = .default) → u.msu.config = .default → u.ParametersLegal :=
    fun u hg hsub hm => ⟨hg ▸ default_parametersLegal.1, fun p => hsub p ▸ default_parametersLegal.2.1, hm ▸ default_parametersLegal.2.2⟩
  step_keeps (I := State.ParametersLegal) (fun x => x.2.ParametersLegal) (fun _ _ h => ⟨h.1, h.2, h.3⟩) (fun _ => Iff.rfl)
    (fun _ _ _ h hx => h.parametersLegal hx) (fun _ _ => hdefault _ rfl (fun p => Row.get_all _ p) rfl)
    (fun u _ => hdefault _ rfl u.directed_sub rfl) h hs

end Sys2Proof.Machine
end

section
/-! The obligations on what every step keeps: grants within the capacity, ports out of UP, and what leaving UP does. -/

namespace Sys2Proof.Machine

variable {W : Prop} {x y : Debt × State} {s t : State} {p : Port}

/-! ## Leaving UP (R3, R58, R68, R77, R85) -/

/-- A record installed for a port: nothing else changes unless the port leaves UP. -/
theorem State.installPort_cases (p : Port) (r : PortRecord) (s : State) :
    (s.installPort p r = { s with ports := s.ports.set p r.outOfUp.ordered } ∧ ((s.port p).state = .up → r.state = .up)) ∨
      s.installPort p r = State.leaveUp p { s with ports := s.ports.set p r.outOfUp.ordered } := by
  unfold installPort
  dsimp only
  split
  · exact .inr rfl
  · next h => exact .inl ⟨rfl, fun hup => by_contra fun hr => h ⟨hup, hr⟩⟩

/-! ## O11: the grants -/

/-- A snapshot of a state names the active ports once each, with a weight of at least 1 (R69). -/
theorem State.snapshot_sound (h : s.settings.usablePercent ≤ 100) : s.snapshot.Sound :=
  { ports := by
      have hports : s.snapshot.claims.map (·.port) = allPorts.filter s.isActive := by simp [State.snapshot, State.claim, Function.comp_def]
      rw [hports]
      exact (List.nodup_finRange 16).filter _
    weights := fun c hc => by
      obtain ⟨q, -, rfl⟩ := List.mem_map.mp hc
      exact le_max_left _ _
    percent := h }

/-- The grants a computation comes to sum to at most the usable capacity (R72 to R74). -/
theorem Snapshot.Sound.sum_grants_le {n : Snapshot} (hn : n.Sound) : (n.claims.map fun c => (n.compute.entryOf c.port).grant).sum ≤ n.usable := by
  cases h : n.overcommitted
  · exact (hn.sum_grants_add_spare h).le.trans' (Nat.le_add_right _ _)
  · rw [hn.sum_grants_scaled h]
    exact sum_div_le n.sum_scaled

theorem sum_allPorts (f : Port → Nat) : (allPorts.map f).sum = ∑ p, f p := by
  rw [allPorts, Fin.sum_univ_def]

/-- Over all ports the grants sum to what they sum to over the claims: the others have none. -/
theorem Snapshot.Sound.sum_entries_le {n : Snapshot} (hn : n.Sound) : (allPorts.map fun p => (n.compute.entryOf p).grant).sum ≤ n.usable := by
  refine le_trans (le_of_eq ?_) hn.sum_grants_le
  have hclaims : (n.claims.map fun c => (n.compute.entryOf c.port).grant) = (n.claims.map (·.port)).map fun p => (n.compute.entryOf p).grant := by
    rw [List.map_map]; rfl
  rw [hclaims, ← List.sum_toFinset _ hn.ports, sum_allPorts]
  refine (Finset.sum_subset (Finset.subset_univ _) fun p _ hp => ?_).symm
  rw [n.entryOf_absent fun c hc hport => hp (List.mem_toFinset.mpr (List.mem_map.mpr ⟨c, hc, hport⟩))]
  rfl

/-- An installed table fits the snapshot it comes from (R76). -/
theorem Computation.install_fits {c : Computation} (hc : c.snapshot.Sound) (t : ShareTable) :
    (c.install t).granted ≤ (c.install t).usable ∧ (c.install t).usable ≤ (c.install t).cUp ∧
      ∀ p, ((c.install t).entries.get p).grant ≤ ((c.install t).entries.get p).ceiling := by
  have hentry (p : Port) : (c.install t).entries.get p = if c.departed.get p then .none else c.snapshot.compute.entryOf p := Row.get_make _ p
  refine ⟨?_, (c.snapshot.usable_le hc.percent).trans (Nat.sub_le _ _), fun p => ?_⟩
  · refine le_trans (List.sum_le_sum fun p _ => ?_) hc.sum_entries_le
    rw [hentry]
    split
    · exact Nat.zero_le _
    · exact le_rfl
  · rw [hentry]
    split
    · exact le_rfl
    · by_cases h : ∃ k ∈ c.snapshot.claims, k.port = p
      · obtain ⟨k, hk, rfl⟩ := h
        exact (hc.grant_le_ceiling hk).trans_eq (hc.entryOf_bounds hk).2.symm
      · rw [c.snapshot.entryOf_absent fun k hk hp => h ⟨k, hk, hp⟩]
        exact le_rfl

/-- A port that departs takes its grant with it. -/
theorem ShareTable.granted_set_none (t : ShareTable) (p : Port) :
    ShareTable.granted { t with entries := t.entries.set p .none } ≤ t.granted :=
  List.sum_le_sum fun q _ => by
    rw [Row.get_set]
    split
    · exact Nat.zero_le _
    · exact le_rfl

/-- A trigger starts a computation of a sound snapshot, or leaves the one in flight on its own. -/
theorem State.GrantsFit.trigger (h : s.GrantsFit) : s.trigger.GrantsFit := by
  unfold State.trigger
  split
  · exact { h with inFlight := fun c hc => by cases hc; exact State.snapshot_sound h.percent }
  · next c hc => exact { h with inFlight := fun d hd => by cases hd; exact h.inFlight c hc }

theorem State.GrantsFit.leaveUp (h : s.GrantsFit) (p : Port) : (s.leaveUp p).GrantsFit := by
  refine GrantsFit.trigger { total := ?_, usable := ?_, ceilings := fun q => ?_, inFlight := fun c hc => ?_, percent := ?_ }
  · simpa [Share.depart] using (s.scu.table.granted_set_none p).trans h.total
  · simpa [Share.depart] using h.usable
  · simp only [Share.depart, Row.get_set]
    split
    · exact le_rfl
    · simpa using h.ceilings q
  · obtain ⟨k, hk, rfl⟩ := Option.map_eq_some_iff.mp hc
    have hsound := h.inFlight k (by simpa using hk)
    split <;> exact hsound
  · simpa using h.percent

theorem Change.grantsFit (h : Change W x y) (hx : x.2.GrantsFit) : y.2.GrantsFit := by
  cases h
  case install d s p r hr =>
    rcases s.installPort_cases p r with ⟨h, -⟩ | h <;> simp only [h]
    · exact ⟨hx.1, hx.2, hx.3, hx.4, hx.5⟩
    · refine State.GrantsFit.leaveUp ?_ p
      exact ⟨hx.1, hx.2, hx.3, hx.4, hx.5⟩
  case trigger => exact hx.trigger
  case shares c hc =>
    obtain ⟨total, usable, ceilings⟩ := Computation.install_fits (hx.inFlight c hc) _
    exact { hx with total := total, usable := usable, ceilings := ceilings }
  case computed => exact { hx with inFlight := nofun }
  case settings g legal percent door => exact { hx with percent := percent hx.percent }
  all_goals exact ⟨by simpa using hx.1, by simpa using hx.2, by simpa using hx.3, by simpa using hx.4, by simpa using hx.5⟩

theorem reset_grantsFit (h : s.scu = .afterReset) (hg : s.settings = .default) : s.GrantsFit := by
  constructor <;> simp [h, hg, Share.afterReset] <;> decide

/-- Settles O11: an install fits the capacity of its own snapshot, and a departure only takes grants away. -/
theorem grantsStayWithinCapacity : Obligations.GrantsStayWithinCapacity := fun _ _ hs h =>
  step_keeps (I := State.GrantsFit) (fun x => x.2.GrantsFit) (fun _ _ h => ⟨h.1, h.2, h.3, h.4, h.5⟩) (fun _ => Iff.rfl)
    (fun _ _ _ h hx => h.grantsFit hx) (fun _ _ => reset_grantsFit rfl rfl) (fun _ _ => reset_grantsFit rfl rfl) h hs

/-! ## O10: ports out of UP -/

/-- Held counts are apart from the queues. -/
@[simp] theorem Buffer.setHeld_queues (a : Area) (f : Nat → Nat) (b : Buffer) : (b.setHeld a f).queues = b.queues := by
  cases a <;> rfl

@[simp] theorem State.returnCells_queues (src : Source) (n : Nat) (s : State) : (s.returnCells src n).cbm.queues = s.cbm.queues := by
  cases src <;> simp [returnCells, sourceArea]

@[simp] theorem State.dropFrame_queues (src : Source) (why : DropReason) (r : Reception) (s : State) :
    (s.dropFrame src why r).cbm.queues = s.cbm.queues := by
  simp [dropFrame]

/-- A port's four queues are empty. -/
theorem State.queues_empty_iff (p : Port) (s : State) : s.cbm.queues.get p = .empty ↔ ∀ q, q.port = some p → s.queue q = [] := by
  constructor
  · intro h q hq
    cases q <;> cases hq <;> simp [queue, h, PortQueues.empty]
  · intro h
    have hux := h (.ux p) rfl
    have hub := h (.ub p) rfl
    have hdx := h (.dx p) rfl
    have hdb := h (.db p) rfl
    simp only [queue] at hux hub hdx hdb
    cases hq : s.cbm.queues.get p
    simp_all [PortQueues.empty]

/-- A port is quiet in a state that agrees on what that speaks of. -/
theorem State.QuietPort.of_same (h : s.QuietPort p) (queues : t.cbm.queues.get p = s.cbm.queues.get p) (scu : t.scu = s.scu)
    (up : t.txs.upBuckets.get p = s.txs.upBuckets.get p) (down : t.txs.downBuckets.get p = s.txs.downBuckets.get p) : t.QuietPort p :=
  { queues := queues ▸ h.queues, activity := scu ▸ h.activity, grant := scu ▸ h.grant, departed := scu ▸ h.departed, up := up ▸ h.up
    down := down ▸ h.down }

/-- A queue that loses descriptors leaves a quiet port quiet. -/
theorem State.QuietPort.setQueue (h : s.QuietPort p) {q : QueueId} {ds : List Descriptor} (hq : q.port = some p → ds = []) :
    (s.setQueue q ds).QuietPort p := by
  refine h.of_same ?_ (by simp) (by simp) (by simp)
  rw [h.queues, queues_empty_iff]
  intro k hk
  by_cases hkq : k = q
  · subst hkq; rw [queue_setQueue_self, hq hk]
  · rw [queue_setQueue_ne _ _ hkq]
    exact (queues_empty_iff p s).mp h.queues k hk

/-- An inactive port is in no fresh snapshot (R66, R69). -/
theorem State.QuietPort.trigger (h : s.QuietPort p) : s.trigger.QuietPort p := by
  refine { queues := by simpa using h.queues, activity := by simpa using h.activity, grant := by simpa using h.grant, departed := ?_
           up := by simpa using h.up, down := by simpa using h.down }
  unfold State.trigger
  split
  · intro c hc helig
    cases hc
    obtain ⟨k, hk, hkp⟩ := List.any_eq_true.mp helig
    obtain ⟨q, hq, rfl⟩ := List.mem_map.mp hk
    have hqp : q = p := by simpa [State.claim] using hkp
    have hactive := (List.mem_filter.mp hq).2
    rw [hqp, isActive, h.activity] at hactive
    cases hactive
  · next c hc =>
    intro d hd helig
    cases hd
    exact h.departed c hc helig

/-- A port that leaves UP is quiet (R58, R68, R77, R85). -/
theorem State.leaveUp_quiet (p : Port) (s : State) : (s.leaveUp p).QuietPort p := by
  refine QuietPort.trigger { queues := ?_, activity := ?_, grant := ?_, departed := fun c hc helig => ?_, up := ?_, down := ?_ }
  · simp [emptyBuckets, flush]
  · simp [Share.depart]
  · simp [Share.depart]
  · obtain ⟨k, -, rfl⟩ := Option.map_eq_some_iff.mp hc
    by_cases hk : k.eligible p
    · simp [hk]
    · rw [if_neg hk] at helig
      exact absurd helig hk
  · simp [emptyBuckets]
  · simp [emptyBuckets]

/-- A port stays quiet when another leaves UP. -/
theorem State.QuietPort.leaveUp (h : s.QuietPort p) {q : Port} (hq : p ≠ q) : (s.leaveUp q).QuietPort p := by
  refine QuietPort.trigger { queues := ?_, activity := ?_, grant := ?_, departed := fun c hc helig => ?_, up := ?_, down := ?_ }
  · simpa [emptyBuckets, flush, Row.get_set_ne _ _ hq] using h.queues
  · simpa [Share.depart, Row.get_set_ne _ _ hq] using h.activity
  · simpa [Share.depart, Row.get_set_ne _ _ hq] using h.grant
  · obtain ⟨k, hk, rfl⟩ := Option.map_eq_some_iff.mp hc
    have hdeparted := h.departed k (by simpa using hk)
    by_cases hkq : k.eligible q
    · rw [if_pos hkq] at helig ⊢
      rw [Row.get_set_ne _ _ hq]
      exact hdeparted helig
    · rw [if_neg hkq] at helig ⊢
      exact hdeparted helig
  · simpa [emptyBuckets, Row.get_modify_ne _ _ hq] using h.up
  · simpa [emptyBuckets, Row.get_modify_ne _ _ hq] using h.down

/-- A quiet port's queues have no head to start. -/
theorem State.QuietPort.startUplink (h : s.QuietPort p) (q : QueueId) : (s.startUplink q).QuietPort p := by
  unfold State.startUplink
  split
  · exact h
  · next d rest hq =>
    refine of_same (h.setQueue (q := q) (ds := rest) fun hp => ?_) rfl rfl (by simp) (by simp)
    rw [(queues_empty_iff p s).mp h.queues q hp] at hq
    cases hq

theorem State.QuietPort.startLine (h : s.QuietPort p) {r : Port} {q : QueueId} (hq : q = .dx r ∨ q = .db r) : (s.startLine r q).QuietPort p := by
  have hport : q.port = some r := by rcases hq with rfl | rfl <;> rfl
  unfold State.startLine
  split
  · exact h
  · next d rest hd =>
    have hne : p ≠ r := fun he => by
      rw [(queues_empty_iff p s).mp h.queues q (he ▸ hport)] at hd
      cases hd
    refine of_same (h.setQueue (q := q) (ds := rest) fun hp => absurd (Option.some.inj (hp.symm.trans hport)) hne) rfl rfl (by simp) ?_
    simp [Row.get_modify_ne _ _ hne]

/-- An installed table has no entry for a port without a claim that is not departed (R76, R77). -/
theorem State.QuietPort.shares (h : s.QuietPort p) {c : Computation} (hc : s.scu.computation = some c) :
    State.QuietPort p { s with scu := { s.scu with table := c.install s.scu.table } } := by
  refine { h with grant := ?_ }
  simp only [Computation.install, Row.get_make]
  split
  · rfl
  · next hdep =>
    refine c.snapshot.entryOf_absent fun k hk hkp => hdep (h.departed c hc ?_)
    exact List.any_eq_true.mpr ⟨k, hk, by simpa using hkp⟩

/-- What a port out of UP is kept from: an elementary change leaves it quiet, or takes it out of UP and makes it quiet. -/
theorem Change.quietPort (h : Change W x y) (hx : (x.2.port p).state ≠ .up → x.2.QuietPort p) :
    (y.2.port p).state ≠ .up → y.2.QuietPort p := by
  cases h
  case record d s q r hr same out =>
    intro hne
    refine (hx ?_).of_same rfl rfl rfl rfl
    by_cases hpq : p = q
    · subst hpq; simpa [State.port, same] using hne
    · simpa [State.port, Row.get_set_ne _ _ hpq] using hne
  case install d s q r hr =>
    intro hne
    by_cases hpq : p = q
    · subst hpq
      have hr : r.state ≠ .up := by simpa [State.port] using hne
      rcases s.installPort_cases p r with ⟨h, hstay⟩ | h <;> simp only [h]
      · exact (hx fun hup => hr (hstay hup)).of_same rfl rfl rfl rfl
      · exact State.leaveUp_quiet p _
    · have hquiet := hx (by simpa [State.port, Row.get_set_ne _ _ hpq] using hne)
      rcases s.installPort_cases q r with ⟨h, -⟩ | h <;> simp only [h]
      · exact hquiet.of_same rfl rfl rfl rfl
      · refine State.QuietPort.leaveUp ?_ hpq
        exact hquiet.of_same rfl rfl rfl rfl
  case buckets up down hb => exact fun hne => { hx hne with up := (hb p (hx hne) hne).1, down := (hb p (hx hne) hne).2 }
  case scheduler z hz => exact fun hne => (hx hne).of_same rfl rfl (by simp [hz.2.2.2.1]) (by simp [hz.2.2.2.2])
  case startUplink q free hq => exact fun hne => (hx (by simpa [State.port] using hne)).startUplink q
  case startLine r q free hq => exact fun hne => (hx (by simpa [State.port] using hne)).startLine hq
  case admitLoose d s src r q z hd hr hsrc cells hq hup =>
    intro hne
    have hne : (s.port p).state ≠ .up := by simpa [State.port] using hne
    exact (hx hne).setQueue fun hp => absurd (Option.some.inj (hp.symm.trans hq) ▸ hup) hne
  case place q length image kind room hq =>
    intro hne
    refine (hx (by simpa [State.port] using hne)).of_same ?_ (by simp) (by simp) (by simp)
    rcases hq with rfl | rfl <;> rfl
  case trigger => exact fun hne => (hx (by simpa [State.port] using hne)).trigger
  case activity z hz =>
    exact fun hne => { hx hne with activity := by_contra fun hn => (hz p hn).elim hne fun h => h (hx hne).activity }
  case link up report => exact fun hne => { hx hne with }
  case shares c hc => exact fun hne => (hx hne).shares hc
  case computed => exact fun hne => { hx hne with departed := nofun }
  case uplinkDone => exact fun hne => (hx hne).of_same (by simp) rfl rfl rfl
  all_goals exact fun hne => (hx (by simpa [State.port] using hne)).of_same (by simp) (by simp) (by simp) (by simp)

/-- The blocks that a port out of UP is quiet in, after a reset. -/
theorem reset_quietPort {n : Nat} {b : Bool} (cbm : t.cbm.queues = Buffer.afterReset.queues) (scu : t.scu = .afterReset)
    (txs : t.txs = .afterReset n b) (p : Port) : t.QuietPort p := by
  constructor <;> simp [cbm, scu, txs, Buffer.afterReset, Share.afterReset, Scheduler.afterReset]

/-- Settles O10. -/
theorem portsOutOfUpStayQuiet : Obligations.PortsOutOfUpStayQuiet := fun _ _ hs h =>
  step_keeps (I := State.QuietOutOfUp) (fun x => x.2.QuietOutOfUp)
    (fun _ _ h p hne => { h p hne with }) (fun _ => Iff.rfl)
    (fun _ _ _ h hx p => h.quietPort (hx p)) (fun _ _ p _ => reset_quietPort rfl rfl rfl p) (fun _ _ p _ => reset_quietPort rfl rfl rfl p) h hs

/-! ## O16: what leaving UP does in its own step -/

/-- A port out of UP has no rates and no idle timer (R3), and is quiet. -/
def State.OutOfUp (p : Port) (s : State) : Prop :=
  (s.port p).state ≠ .up → (s.port p).rates = none ∧ (s.port p).idleTimer = none ∧ s.QuietPort p

theorem Change.outOfUp (h : Change W x y) (hx : x.2.OutOfUp p) : y.2.OutOfUp p := by
  intro hne
  have hquiet : y.2.QuietPort p := h.quietPort (fun hne => (hx hne).2.2) hne
  suffices hlink : (y.2.port p).rates = none ∧ (y.2.port p).idleTimer = none from ⟨hlink.1, hlink.2, hquiet⟩
  cases h
  case record d s q r hr same out =>
    by_cases hpq : p = q
    · subst hpq
      simp only [State.port, Row.get_set_self] at hne ⊢
      obtain ⟨hrates, hidle, -⟩ := hx (same ▸ hne)
      exact ⟨(out.resolve_left hne).1 hrates, (out.resolve_left hne).2 hidle⟩
    · simp only [State.port, Row.get_set_ne _ _ hpq] at hne ⊢
      exact ⟨(hx hne).1, (hx hne).2.1⟩
  case install d s q r hr =>
    by_cases hpq : p = q
    · subst hpq
      simp only [State.port, State.installPort_frame, Row.get_set_self] at hne ⊢
      exact r.installed_out.resolve_left hne
    · simp only [State.port, State.installPort_frame, Row.get_set_ne _ _ hpq] at hne ⊢
      exact ⟨(hx hne).1, (hx hne).2.1⟩
  all_goals
    obtain ⟨hrates, hidle, -⟩ := hx (by simpa [State.port] using hne)
    exact ⟨by simpa [State.port] using hrates, by simpa [State.port] using hidle⟩

theorem State.powerOn_outOfUp (straps : BitVec 16) (p : Port) (s : State) : (s.powerOn straps).OutOfUp p := fun _ => by
  have hport : (s.powerOn straps).port p = (s.port p).powerOn := Row.get_mapEach _ _ _
  rw [hport]
  exact ⟨rfl, rfl, reset_quietPort rfl rfl rfl p⟩

theorem State.directed_outOfUp (p : Port) (s : State) : s.directed.OutOfUp p := fun _ => by
  have hport : s.directed.port p = (s.port p).directed s.now := Row.get_mapEach _ _ _
  rw [hport]
  refine ⟨?_, ?_, reset_quietPort rfl rfl rfl p⟩ <;> unfold PortRecord.directed <;> split <;> rfl

/-- Settles O16: from UP the claim is empty, and what leaves UP has what is claimed of it. -/
theorem leavingUpIsWhole : Obligations.LeavingUpIsWhole := fun p _ _ hup h hne =>
  step_keeps (I := State.OutOfUp p) (fun x => x.2.OutOfUp p)
    (fun _ _ h hne => ⟨(h hne).1, (h hne).2.1, { (h hne).2.2 with }⟩) (fun _ => Iff.rfl)
    (fun _ _ _ h hx => h.outOfUp hx) (fun straps s => s.powerOn_outOfUp straps p) (fun s _ => s.directed_outOfUp p) h
    (fun hne => absurd hup hne) hne

end Sys2Proof.Machine
end

section
/-! The obligation on cells: what frames hold, area by area, and how an elementary change moves it (R47, R51, R57). -/

namespace Sys2Proof.Machine

variable {W : Prop} {x y : Debt × State} {d e : Debt} {s t : State} {p : Port} {src : Source}

/-! ## Receptions, queues, transmissions: what each holds in an area -/

theorem State.reception_setReception_self (src : Source) (r : Option Reception) (s : State) : (s.setReception src r).reception src = r := by
  cases src <;> simp [setReception, reception]

theorem State.reception_setReception_ne {other : Source} (r : Option Reception) (s : State) (h : other ≠ src) :
    (s.setReception src r).reception other = s.reception other := by
  cases src <;> cases other <;> simp_all [setReception, reception, Row.get_set_ne]

/-- How many cells frames in reception hold in an area. -/
def State.receivedIn (s : State) : Area → Nat
  | .upstream => ∑ p, (Reception.held (s.reception (.line p))).length
  | .downstream => (Reception.held (s.reception .uplink)).length
  | .reserved => 0

/-- How many cells queued frames hold in an area. -/
def State.queuedIn (s : State) : Area → Nat
  | .upstream => ∑ p, (cellsOf (s.queue (.ux p)) + cellsOf (s.queue (.ub p)))
  | .downstream => ∑ p, (cellsOf (s.queue (.dx p)) + cellsOf (s.queue (.db p)))
  | .reserved => cellsOf (s.queue .aq) + cellsOf (s.queue .cq)

/-- How many cells frames in transmission hold in an area. -/
def Scheduler.sendsIn (x : Scheduler) : Area → Nat
  | .upstream => Transmission.cellsIn .upstream x.uplinkTx
  | .downstream => ∑ p, Transmission.cellsIn .downstream (x.lineTx.get p)
  | .reserved => Transmission.cellsIn .reserved x.uplinkTx + Transmission.cellsIn .reserved x.craftTx

/-- The cells that frames hold are those of receptions, queues and transmissions. -/
theorem State.cellsIn_eq (s : State) (a : Area) : s.cellsIn a = s.receivedIn a + s.queuedIn a + s.txs.sendsIn a := by
  cases a with
  | upstream => simp [cellsIn, receivedIn, queuedIn, Scheduler.sendsIn, sum_allPorts, Finset.sum_add_distrib, reception, add_assoc]
  | downstream => simp [cellsIn, receivedIn, queuedIn, Scheduler.sendsIn, sum_allPorts, Finset.sum_add_distrib, reception, add_assoc]
  | reserved => simp [cellsIn, receivedIn, queuedIn, Scheduler.sendsIn, queue, add_assoc]

/-- A sum over the ports of which one addend changes. -/
theorem sum_ports_change {f g : Port → Nat} (p : Port) (h : ∀ q, q ≠ p → g q = f q) : (∑ q, g q) + f p = (∑ q, f q) + g p := by
  have hothers : ∑ q ∈ Finset.univ.erase p, g q = ∑ q ∈ Finset.univ.erase p, f q :=
    Finset.sum_congr rfl fun q hq => h q (Finset.ne_of_mem_erase hq)
  rw [← Finset.add_sum_erase _ f (Finset.mem_univ p), ← Finset.add_sum_erase _ g (Finset.mem_univ p), hothers]
  omega

/-- The cells in reception after one reception is replaced: those of the old one leave its source's area, those of the new one come. -/
theorem State.receivedIn_setReception (src : Source) (r : Option Reception) (s : State) (a : Area) :
    (s.setReception src r).receivedIn a + (if sourceArea src = some a then (Reception.held (s.reception src)).length else 0) =
      s.receivedIn a + (if sourceArea src = some a then (Reception.held r).length else 0) := by
  have hne {other : Source} (h : other ≠ src) := reception_setReception_ne r s h
  have hself := reception_setReception_self src r s
  cases src with
  | line p =>
    cases a
    · have hsum := sum_ports_change (f := fun q => (Reception.held (s.reception (.line q))).length)
        (g := fun q => (Reception.held ((s.setReception (.line p) r).reception (.line q))).length) p
        fun q hq => by rw [hne fun h => hq (Source.line.inj h)]
      simpa only [receivedIn, sourceArea, if_true, hself] using hsum
    · simp [receivedIn, sourceArea, hne]
    · rfl
  | uplink =>
    cases a
    · simp [receivedIn, sourceArea, hne]
    · simp only [receivedIn, sourceArea, if_true, hself, Nat.add_comm]
    · rfl
  | craft => cases a <;> simp [receivedIn, sourceArea, hne]

/-- The cells queued after one queue is replaced. -/
theorem State.queuedIn_setQueue (q : QueueId) (ds : List Descriptor) (s : State) (a : Area) :
    (s.setQueue q ds).queuedIn a + (if q.area = a then cellsOf (s.queue q) else 0) =
      s.queuedIn a + (if q.area = a then cellsOf ds else 0) := by
  have hne {other : QueueId} (h : other ≠ q) := queue_setQueue_ne ds s h
  have hself := queue_setQueue_self q ds s
  have hsum (k l : Port → QueueId) := sum_ports_change (f := fun p => cellsOf (s.queue (k p)) + cellsOf (s.queue (l p)))
    (g := fun p => cellsOf ((s.setQueue q ds).queue (k p)) + cellsOf ((s.setQueue q ds).queue (l p)))
  cases q with
  | ux p =>
    have h := hsum .ux .ub p fun j hj => by simp [hne, hj]
    simp only [hself, hne (other := .ub p) nofun] at h
    cases a with
    | upstream => simp only [queuedIn, QueueId.area, if_true]; omega
    | downstream => simp [queuedIn, QueueId.area, hne]
    | reserved => simp [queuedIn, QueueId.area, hne]
  | ub p =>
    have h := hsum .ux .ub p fun j hj => by simp [hne, hj]
    simp only [hself, hne (other := .ux p) nofun] at h
    cases a with
    | upstream => simp only [queuedIn, QueueId.area, if_true]; omega
    | downstream => simp [queuedIn, QueueId.area, hne]
    | reserved => simp [queuedIn, QueueId.area, hne]
  | dx p =>
    have h := hsum .dx .db p fun j hj => by simp [hne, hj]
    simp only [hself, hne (other := .db p) nofun] at h
    cases a with
    | downstream => simp only [queuedIn, QueueId.area, if_true]; omega
    | upstream => simp [queuedIn, QueueId.area, hne]
    | reserved => simp [queuedIn, QueueId.area, hne]
  | db p =>
    have h := hsum .dx .db p fun j hj => by simp [hne, hj]
    simp only [hself, hne (other := .dx p) nofun] at h
    cases a with
    | downstream => simp only [queuedIn, QueueId.area, if_true]; omega
    | upstream => simp [queuedIn, QueueId.area, hne]
    | reserved => simp [queuedIn, QueueId.area, hne]
  | aq =>
    cases a <;> simp [queuedIn, QueueId.area, hne, hself]
    omega
  | cq =>
    cases a <;> simp [queuedIn, QueueId.area, hne, hself]
    omega

theorem State.areaHeld_takeCells (a b : Area) (n : Nat) (s : State) :
    (s.takeCells a n).areaHeld b = s.areaHeld b + if a = b then n else 0 := by
  cases a <;> cases b <;> rfl

theorem State.areaHeld_freeCells (a b : Area) (n : Nat) (s : State) :
    (s.freeCells a n).areaHeld b = s.areaHeld b - if a = b then n else 0 := by
  cases a <;> cases b <;> rfl

theorem State.areaHeld_returnCells (src : Source) (b : Area) (n : Nat) (s : State) :
    (s.returnCells src n).areaHeld b = s.areaHeld b - if sourceArea src = some b then n else 0 := by
  cases src <;> cases b <;> rfl

/-! ## Where frames stand -/

/-- A reception goes to a queue that its source feeds, and holds no cell when it is dropped (R26, R32, R33). -/
structure Reception.Goes (src : Source) (r : Reception) : Prop where
  queue : ∀ q, r.queue = some q → Source.feeds src q
  dropped : src ≠ .craft → r.dropped ≠ none → r.cells = []

theorem State.Placed.goes (h : s.Placed) {r : Reception} (hr : s.reception src = some r) : r.Goes src := by
  cases src with
  | line p => exact ⟨fun q => h.rxLine p r q hr, fun _ => h.droppedLine p r hr⟩
  | uplink => exact ⟨fun q => h.rxUplink r q hr, fun _ => h.droppedUplink r hr⟩
  | craft => exact ⟨fun _ _ => trivial, fun hne => absurd rfl hne⟩

/-- Frames stand where they belong in a state whose receptions go where they should and whose queues and transmissions are in order. -/
theorem State.placed_of (queues : ∀ q, ∀ d ∈ s.queue q, d.queue = q) (uplink : ∀ t, s.txs.uplinkTx = some t → t.desc.queue.area ≠ .downstream)
    (lines : ∀ p t, s.txs.lineTx.get p = some t → t.desc.queue.area = .downstream)
    (craft : ∀ t, s.txs.craftTx = some t → t.desc.queue.area = .reserved)
    (goes : ∀ src r, s.reception src = some r → r.Goes src) : s.Placed :=
  { queues := queues, uplink := uplink, lines := lines, craft := craft
    rxLine := fun p r q hr => (goes (.line p) r hr).queue q
    rxUplink := fun r q hr => (goes .uplink r hr).queue q
    droppedLine := fun p r hr => (goes (.line p) r hr).dropped nofun
    droppedUplink := fun r hr => (goes .uplink r hr).dropped nofun }

theorem State.Placed.of_same (h : s.Placed) (queue : ∀ q, t.queue q = s.queue q) (reception : ∀ src, t.reception src = s.reception src)
    (tx : t.txs.uplinkTx = s.txs.uplinkTx ∧ t.txs.lineTx = s.txs.lineTx ∧ t.txs.craftTx = s.txs.craftTx) : t.Placed :=
  placed_of (fun q => queue q ▸ h.queues q) (tx.1 ▸ h.uplink) (tx.2.1 ▸ h.lines) (tx.2.2 ▸ h.craft)
    fun src _ hr => h.goes (reception src ▸ hr)

@[simp] theorem State.setQueue_reception (q : QueueId) (ds : List Descriptor) (s : State) (src : Source) :
    (s.setQueue q ds).reception src = s.reception src := by
  cases src <;> simp [reception]

@[simp] theorem State.setReception_queue (src : Source) (r : Option Reception) (s : State) (q : QueueId) :
    (s.setReception src r).queue q = s.queue q := by
  cases q <;> simp [queue]

theorem State.Placed.setQueue (h : s.Placed) {q : QueueId} {ds : List Descriptor} (hds : ∀ d ∈ ds, d.queue = q) : (s.setQueue q ds).Placed :=
  placed_of
    (fun k => by
      by_cases hk : k = q
      · rw [hk, queue_setQueue_self]; exact hds
      · rw [queue_setQueue_ne _ _ hk]; exact h.queues k)
    (by simpa using h.uplink) (by simpa using h.lines) (by simpa using h.craft) fun src r hr => h.goes (by simpa using hr)

theorem State.Placed.setReception (h : s.Placed) {r : Option Reception} (hr : ∀ x, r = some x → x.Goes src) : (s.setReception src r).Placed :=
  placed_of (by simpa using h.queues) (by simpa using h.uplink) (by simpa using h.lines) (by simpa using h.craft) fun other x hx => by
    by_cases ho : other = src
    · rw [ho, reception_setReception_self] at hx; exact ho ▸ hr x hx
    · rw [reception_setReception_ne _ _ ho] at hx; exact h.goes hx

/-! ## The balance -/

/-- The cells in an area of the frame that is out of reception and not yet handed on. -/
def Debt.looseIn (d : Debt) (a : Area) : Nat :=
  match d.loose with
  | some (src, r) => if sourceArea src = some a then r.cells.length else 0
  | .none => 0

/-- The cells of an area that frames hold, wherever they are. -/
def framed (x : Debt × State) (a : Area) : Nat := x.2.receivedIn a + x.2.queuedIn a + x.2.txs.sendsIn a + x.1.looseIn a

/-- Cells balance, the frame between its reception and its queue counted. -/
structure Balanced (x : Debt × State) : Prop where
  placed : x.2.Placed
  loose : ∀ src r, x.1.loose = some (src, r) → r.Goes src
  counted : ∀ a, x.2.areaHeld a = framed x a
  general : x.2.areaHeld .upstream + x.2.areaHeld .downstream ≤ 4032
  reserved : x.2.areaHeld .reserved ≤ 64

theorem framed_none (s : State) (a : Area) : framed (.none, s) a = s.cellsIn a := by
  rw [framed, s.cellsIn_eq]
  rfl

theorem balanced_iff (s : State) : Balanced (.none, s) ↔ s.CellsBalance :=
  ⟨fun h => ⟨h.placed, fun a => (h.counted a).trans (framed_none s a), h.general, h.reserved⟩,
    fun h => ⟨h.placed, fun _ _ hl => absurd hl (by simp [Debt.none]), fun a => (h.counted a).trans (framed_none s a).symm, h.general, h.reserved⟩⟩

/-- A state balances that agrees on what that speaks of. -/
theorem Balanced.of_same (h : Balanced (d, s)) (loose : e.loose = d.loose) (queue : ∀ q, t.queue q = s.queue q)
    (reception : ∀ src, t.reception src = s.reception src)
    (tx : t.txs.uplinkTx = s.txs.uplinkTx ∧ t.txs.lineTx = s.txs.lineTx ∧ t.txs.craftTx = s.txs.craftTx)
    (held : ∀ a, t.areaHeld a = s.areaHeld a) : Balanced (e, t) :=
  { placed := h.placed.of_same queue reception tx
    loose := loose ▸ h.loose
    counted := fun a => by
      have hframed : framed (e, t) a = framed (d, s) a := by
        cases a <;> simp [framed, State.receivedIn, State.queuedIn, Scheduler.sendsIn, Debt.looseIn, loose, queue, reception, tx]
      exact (held a).trans ((h.counted a).trans hframed.symm)
    general := by simpa [held] using h.general
    reserved := by simpa [held] using h.reserved }

/-- What an area holds and what frames hold in it fall by the same number. -/
theorem Balanced.freed (h : Balanced (d, s)) (placed : t.Placed) (loose : ∀ src r, e.loose = some (src, r) → r.Goes src) (n : Area → Nat)
    (framed : ∀ a, framed (e, t) a + n a = framed (d, s) a) (held : ∀ a, t.areaHeld a = s.areaHeld a - n a) : Balanced (e, t) :=
  { placed := placed, loose := loose
    counted := fun a => by have := h.counted a; have := framed a; have := held a; simp only at *; omega
    general := by have := held .upstream; have := held .downstream; have := h.general; simp only at *; omega
    reserved := by have := held .reserved; have := h.reserved; simp only at *; omega }

/-- What an area holds and what frames hold in it rise by the same number, where there is room. -/
theorem Balanced.taken (h : Balanced (d, s)) (placed : t.Placed) (loose : e.loose = d.loose) (a : Area) (n : Nat) (room : n ≤ s.areaFree a)
    (framed : ∀ b, framed (e, t) b = framed (d, s) b + if a = b then n else 0) (held : ∀ b, t.areaHeld b = s.areaHeld b + if a = b then n else 0) :
    Balanced (e, t) :=
  { placed := placed, loose := loose ▸ h.loose
    counted := fun b => by rw [framed, held, ← h.counted b]
    general := by
      have hgeneral := h.general
      have hroom : a ≠ .reserved → n ≤ 4032 - (s.areaHeld .upstream + s.areaHeld .downstream) := fun ha => by
        cases a with
        | upstream | downstream => exact room.trans (min_le_right _ _)
        | reserved => exact absurd rfl ha
      simp only [held]
      cases a <;> simp at hroom hgeneral ⊢ <;> omega
    reserved := by
      have hreserved := h.reserved
      have hroom : a = .reserved → n ≤ 64 - s.areaHeld .reserved := fun ha => by subst ha; exact room
      simp only [held]
      cases a <;> simp at hroom hreserved ⊢ <;> omega }

end Sys2Proof.Machine
end

section
/-! The obligation on cells: each elementary change keeps the balance (R47, R51, R57). -/

namespace Sys2Proof.Machine

variable {W : Prop} {x y : Debt × State} {d e : Debt} {s t : State} {p : Port} {src : Source}

/-! ## What an area holds in the parts of a state -/

theorem State.receivedIn_congr (h : ∀ src, t.reception src = s.reception src) (a : Area) : t.receivedIn a = s.receivedIn a := by
  cases a <;> simp [receivedIn, h]

theorem State.queuedIn_congr (h : ∀ q, t.queue q = s.queue q) (a : Area) : t.queuedIn a = s.queuedIn a := by
  cases a <;> simp [queuedIn, h]

@[simp] theorem State.receivedIn_setQueue (q : QueueId) (ds : List Descriptor) (s : State) (a : Area) :
    (s.setQueue q ds).receivedIn a = s.receivedIn a := receivedIn_congr (by simp) a

@[simp] theorem State.queuedIn_setReception (src : Source) (r : Option Reception) (s : State) (a : Area) :
    (s.setReception src r).queuedIn a = s.queuedIn a := queuedIn_congr (by simp) a

@[simp] theorem State.setQueue_areaHeld (q : QueueId) (ds : List Descriptor) (s : State) (a : Area) :
    (s.setQueue q ds).areaHeld a = s.areaHeld a := by
  cases a <;> simp [areaHeld]

@[simp] theorem State.setReception_areaHeld (src : Source) (r : Option Reception) (s : State) (a : Area) :
    (s.setReception src r).areaHeld a = s.areaHeld a := by
  cases a <;> simp [areaHeld]

@[simp] theorem State.takeCells_queue (a : Area) (n : Nat) (s : State) (q : QueueId) : (s.takeCells a n).queue q = s.queue q := by
  cases a <;> cases q <;> rfl

@[simp] theorem State.takeCells_reception (a : Area) (n : Nat) (s : State) (src : Source) : (s.takeCells a n).reception src = s.reception src := by
  cases src <;> rfl

@[simp] theorem State.freeCells_queue (a : Area) (n : Nat) (s : State) (q : QueueId) : (s.freeCells a n).queue q = s.queue q := by
  cases a <;> cases q <;> rfl

@[simp] theorem State.freeCells_reception (a : Area) (n : Nat) (s : State) (src : Source) : (s.freeCells a n).reception src = s.reception src := by
  cases src <;> rfl

@[simp] theorem State.returnCells_queue (src : Source) (n : Nat) (s : State) (q : QueueId) : (s.returnCells src n).queue q = s.queue q := by
  cases src <;> simp [returnCells, sourceArea]

@[simp] theorem State.returnCells_reception (src : Source) (n : Nat) (s : State) (other : Source) :
    (s.returnCells src n).reception other = s.reception other := by
  cases src <;> simp [returnCells, sourceArea]

@[simp] theorem State.returnCells_txs (src : Source) (n : Nat) (s : State) : (s.returnCells src n).txs = s.txs := by
  cases src <;> simp [returnCells, sourceArea]

/-! ## Transmissions -/

@[simp] theorem Transmission.cellsIn_none (a : Area) : Transmission.cellsIn a none = 0 := rfl

@[simp] theorem Transmission.cellsIn_some (a : Area) (t : Transmission) :
    Transmission.cellsIn a (some t) = if t.desc.queue.area = a then t.desc.cells.length else 0 := rfl

@[simp] theorem Descriptor.sent_desc (x : Descriptor) : x.sent.desc = x := by
  unfold Descriptor.sent
  split
  · rfl
  · split <;> rfl

theorem cellsOf_cons (x : Descriptor) (rest : List Descriptor) : cellsOf (x :: rest) = x.cells.length + cellsOf rest := by
  simp [cellsOf]

theorem cellsOf_append (xs ys : List Descriptor) : cellsOf (xs ++ ys) = cellsOf xs + cellsOf ys := by
  simp [cellsOf]

/-- The head of a queue starts: its cells move from the queue to a transmitter. -/
theorem Balanced.started (h : Balanced (d, s)) {q : QueueId} {x : Descriptor} {rest : List Descriptor} (hq : s.queue q = x :: rest)
    {z : Scheduler} (sends : ∀ a, z.sendsIn a = s.txs.sendsIn a + if q.area = a then x.cells.length else 0)
    (uplink : ∀ t, z.uplinkTx = some t → t.desc.queue.area ≠ .downstream) (lines : ∀ p t, z.lineTx.get p = some t → t.desc.queue.area = .downstream)
    (craft : ∀ t, z.craftTx = some t → t.desc.queue.area = .reserved) : Balanced (d, { s.setQueue q rest with txs := z }) := by
  have hplaced : (s.setQueue q rest).Placed := h.placed.setQueue fun y hy => h.placed.queues q y (hq ▸ .tail _ hy)
  refine h.freed (n := fun _ => 0) (State.placed_of hplaced.queues uplink lines craft fun src r hr => hplaced.goes hr) h.loose (fun a => ?_)
    fun a => (s.setQueue_areaHeld q rest a)
  have hqueued := s.queuedIn_setQueue q rest a
  rw [hq, cellsOf_cons] at hqueued
  have hsends := sends a
  have hreceived := s.receivedIn_setQueue q rest a
  change (s.setQueue q rest).receivedIn a + (s.setQueue q rest).queuedIn a + z.sendsIn a + d.looseIn a + 0 = framed (d, s) a
  unfold framed
  dsimp only
  split at hqueued <;> rename_i ha <;> simp only [ha, if_true, if_false] at hsends <;> omega

/-- Of a frame of a queue the descriptor names the queue. -/
theorem State.Placed.head_queue (h : s.Placed) {q : QueueId} {x : Descriptor} {rest : List Descriptor} (hq : s.queue q = x :: rest) : x.queue = q :=
  h.queues q x (hq ▸ .head _)

theorem Balanced.startUplink (h : Balanced (d, s)) {q : QueueId} (free : s.txs.uplinkTx = none) (hq : q.area ≠ .downstream) :
    Balanced (d, s.startUplink q) := by
  unfold State.startUplink
  split
  · exact h
  · next x rest hhead =>
    have hxq := h.placed.head_queue hhead
    have htxs : (s.setQueue q rest).txs = s.txs := by simp
    dsimp only
    rw [htxs]
    refine h.started hhead (z := { s.txs with uplinkTx := some x.sent }) (fun a => ?_) (fun t ht => ?_) h.placed.lines h.placed.craft
    · cases a with
      | upstream => simp [Scheduler.sendsIn, free, hxq]
      | downstream => simp [Scheduler.sendsIn, hq]
      | reserved => simp [Scheduler.sendsIn, free, hxq, Nat.add_comm]
    · cases ht
      rw [x.sent_desc, hxq]
      exact hq

theorem Balanced.startLine (h : Balanced (d, s)) {p : Port} {q : QueueId} (free : s.txs.lineTx.get p = none) (hq : q = .dx p ∨ q = .db p) :
    Balanced (d, s.startLine p q) := by
  have harea : q.area = .downstream := by rcases hq with rfl | rfl <;> rfl
  unfold State.startLine
  split
  · exact h
  · next x rest hhead =>
    have hxq := h.placed.head_queue hhead
    have htxs : (s.setQueue q rest).txs = s.txs := by simp
    dsimp only
    rw [htxs]
    refine h.started hhead (z := { s.txs with
      lineTx := s.txs.lineTx.set p (some x.sent), downBuckets := s.txs.downBuckets.modify p fun b => { b with tokens := b.tokens - x.length } })
      (fun a => ?_) h.placed.uplink (fun k t ht => ?_) h.placed.craft
    · cases a with
      | upstream => simp [Scheduler.sendsIn, harea]
      | downstream =>
        have hsum := sum_ports_change (f := fun k => Transmission.cellsIn .downstream (s.txs.lineTx.get k))
          (g := fun k => Transmission.cellsIn .downstream ((s.txs.lineTx.set p (some x.sent)).get k)) p
          fun k hk => by rw [Row.get_set_ne _ _ hk]
        simp only [Row.get_set_self, Transmission.cellsIn_some, x.sent_desc, hxq, harea, if_true, free, Transmission.cellsIn_none, add_zero] at hsum
        simpa only [Scheduler.sendsIn, harea, if_true] using hsum
      | reserved => simp [Scheduler.sendsIn, harea]
    · by_cases hk : k = p
      · rw [hk] at ht
        simp only [Row.get_set_self, Option.some.injEq] at ht
        rw [← ht, x.sent_desc, hxq, harea]
      · simp only [Row.get_set_ne _ _ hk] at ht
        exact h.placed.lines k t ht

theorem Balanced.startCraft (h : Balanced (d, s)) {x : Descriptor} {rest : List Descriptor} (free : s.txs.craftTx = none)
    (hq : s.cbm.cq = x :: rest) : Balanced (d, { s.setQueue .cq rest with txs := { s.txs with craftTx := some x.sent } }) := by
  have hxq : x.queue = .cq := h.placed.head_queue (q := .cq) hq
  refine h.started (q := .cq) hq (fun a => ?_) h.placed.uplink h.placed.lines fun t ht => ?_
  · cases a with
    | upstream => simp [Scheduler.sendsIn, QueueId.area]
    | downstream => simp [Scheduler.sendsIn, QueueId.area]
    | reserved => simp [Scheduler.sendsIn, free, hxq, QueueId.area]
  · cases ht
    rw [x.sent_desc, hxq]
    rfl

/-- A transmission ends: its cells return to their area. -/
theorem Balanced.sent (h : Balanced (d, s)) {x : Descriptor} {z : Scheduler}
    (sends : ∀ a, z.sendsIn a + (if x.queue.area = a then x.cells.length else 0) = s.txs.sendsIn a)
    (uplink : ∀ t, z.uplinkTx = some t → t.desc.queue.area ≠ .downstream) (lines : ∀ p t, z.lineTx.get p = some t → t.desc.queue.area = .downstream)
    (craft : ∀ t, z.craftTx = some t → t.desc.queue.area = .reserved) :
    Balanced (d, { s.freeCells x.queue.area x.cells.length with txs := z }) := by
  refine h.freed (n := fun a => if x.queue.area = a then x.cells.length else 0)
    (State.placed_of (fun q => ?_) uplink lines craft fun src r hr => h.placed.goes ?_) h.loose (fun a => ?_)
    fun a => s.areaHeld_freeCells x.queue.area a x.cells.length
  · exact s.freeCells_queue x.queue.area x.cells.length q ▸ h.placed.queues q
  · exact s.freeCells_reception x.queue.area x.cells.length src ▸ hr
  · have hsends := sends a
    have hreceived : (s.freeCells x.queue.area x.cells.length).receivedIn a = s.receivedIn a := State.receivedIn_congr (by simp) a
    have hqueued : (s.freeCells x.queue.area x.cells.length).queuedIn a = s.queuedIn a := State.queuedIn_congr (by simp) a
    change (s.freeCells x.queue.area x.cells.length).receivedIn a + (s.freeCells x.queue.area x.cells.length).queuedIn a + z.sendsIn a +
      d.looseIn a + _ = framed (d, s) a
    unfold framed
    dsimp only
    omega

theorem Balanced.uplinkDone (h : Balanced (d, s)) {x : Transmission} (hx : s.txs.uplinkTx = some x) :
    Balanced (d, { s.freeCells x.desc.queue.area x.desc.cells.length with txs := Scheduler.countUplink x { s.txs with uplinkTx := none } }) := by
  have harea := h.placed.uplink x hx
  refine h.sent (z := Scheduler.countUplink x { s.txs with uplinkTx := none }) (fun a => ?_)
    (fun t ht => absurd ht (by simp [Scheduler.countUplink])) h.placed.lines h.placed.craft
  cases a with
  | upstream => simp [Scheduler.sendsIn, Scheduler.countUplink, hx]
  | downstream => simp [Scheduler.sendsIn, Scheduler.countUplink, harea]
  | reserved => simp [Scheduler.sendsIn, Scheduler.countUplink, hx, Nat.add_comm]

theorem Balanced.lineDone (h : Balanced (d, s)) {x : Transmission} (hx : s.txs.lineTx.get p = some x) :
    Balanced (d, { s.freeCells x.desc.queue.area x.desc.cells.length with txs := { s.txs with lineTx := s.txs.lineTx.set p none } }) := by
  have harea := h.placed.lines p x hx
  refine h.sent (fun a => ?_) h.placed.uplink (fun k t ht => ?_) h.placed.craft
  · cases a with
    | upstream => simp [Scheduler.sendsIn, harea]
    | downstream =>
      have hsum := sum_ports_change (f := fun k => Transmission.cellsIn .downstream (s.txs.lineTx.get k))
        (g := fun k => Transmission.cellsIn .downstream ((s.txs.lineTx.set p none).get k)) p fun k hk => by rw [Row.get_set_ne _ _ hk]
      simp only [Row.get_set_self, hx, Transmission.cellsIn_some, harea, if_true, Transmission.cellsIn_none, add_zero] at hsum
      simpa only [Scheduler.sendsIn, harea, if_true] using hsum
    | reserved => simp [Scheduler.sendsIn, harea]
  · by_cases hk : k = p
    · rw [hk, Row.get_set_self] at ht
      cases ht
    · rw [Row.get_set_ne _ _ hk] at ht
      exact h.placed.lines k t ht

theorem Balanced.craftDone (h : Balanced (d, s)) {x : Transmission} (hx : s.txs.craftTx = some x) :
    Balanced (d, { s.freeCells .reserved x.desc.cells.length with
      txs := { s.txs with craftTx := none, craftFrames := count32 s.txs.craftFrames } }) := by
  have harea := h.placed.craft x hx
  rw [← harea]
  refine h.sent (z := { s.txs with craftTx := none, craftFrames := count32 s.txs.craftFrames }) (fun a => ?_)
    h.placed.uplink h.placed.lines fun t ht => absurd ht (by simp)
  cases a with
  | upstream => simp [Scheduler.sendsIn, harea]
  | downstream => simp [Scheduler.sendsIn, harea]
  | reserved => simp [Scheduler.sendsIn, hx, harea]

end Sys2Proof.Machine
end

section
/-! The obligation on cells: receptions, the frame between its reception and its queue, flushes and placements; and the steps (R47, R51, R57). -/

namespace Sys2Proof.Machine

variable {W : Prop} {x y : Debt × State} {d e : Debt} {s t : State} {p : Port} {src : Source}

/-- A queue that a line or the uplink feeds takes its cells from the source's area. -/
theorem Source.area_of_feeds {q : QueueId} (h : Source.feeds src q) (hsrc : src ≠ .craft) : sourceArea src = some q.area := by
  cases src with
  | line p => rcases h with rfl | rfl <;> rfl
  | uplink => exact congrArg some h.symm
  | craft => exact absurd rfl hsrc

theorem Reception.Follows.goes {r : Reception} (h : r.Follows s src) (hs : s.Placed) : r.Goes src where
  queue q hq := (h.queue q hq).elim id fun ⟨_, hold, holdq⟩ => (hs.goes hold).queue q holdq
  dropped hsrc hr := (h.dropped hsrc hr).elim id fun ⟨_, hold, holddropped, hcells⟩ => hcells ▸ (hs.goes hold).dropped hsrc holddropped

/-! ## Receptions -/

theorem Balanced.frameStart (h : Balanced (d, s)) {a : Area} (free : s.reception src = none) (area : sourceArea src = some a)
    (room : 1 ≤ s.areaFree a) : Balanced (d, (s.takeCells a 1).setReception src (some (.fresh (s.newCells a 1)))) := by
  have hplaced : (s.takeCells a 1).Placed := h.placed.of_same (by simp) (by simp) (by simp)
  refine h.taken (hplaced.setReception fun r hr => ?_) rfl a 1 room (fun b => ?_) fun b => ?_
  · cases hr
    exact ⟨nofun, fun _ hne => absurd rfl hne⟩
  · have hreceived := (s.takeCells a 1).receivedIn_setReception src (some (.fresh (s.newCells a 1))) b
    have hsame : (s.takeCells a 1).receivedIn b = s.receivedIn b := State.receivedIn_congr (by simp) b
    have hqueued : (s.takeCells a 1).queuedIn b = s.queuedIn b := State.queuedIn_congr (by simp) b
    simp only [State.takeCells_reception, free, area, Reception.held, Reception.fresh, State.newCells_length, Option.some.injEq,
      List.length_nil, ite_self] at hreceived
    simp only [framed, State.queuedIn_setReception, State.setReception_frame, State.takeCells_txs, Reception.fresh] at hreceived ⊢
    omega
  · simpa using s.areaHeld_takeCells a b 1

theorem Balanced.nextCell (h : Balanced (d, s)) {a : Area} {r : Reception} (hr : s.reception src = some r) (undropped : r.dropped = none)
    (area : sourceArea src = some a) (room : 1 ≤ s.areaFree a) :
    Balanced (d, (s.takeCells a 1).setReception src (some { r with cells := r.cells ++ s.newCells a 1 })) := by
  have hplaced : (s.takeCells a 1).Placed := h.placed.of_same (by simp) (by simp) (by simp)
  refine h.taken (hplaced.setReception fun k hk => ?_) rfl a 1 room (fun b => ?_) fun b => ?_
  · cases hk
    exact ⟨(h.placed.goes hr).queue, fun _ hne => absurd undropped hne⟩
  · have hreceived := (s.takeCells a 1).receivedIn_setReception src (some { r with cells := r.cells ++ s.newCells a 1 }) b
    have hsame : (s.takeCells a 1).receivedIn b = s.receivedIn b := State.receivedIn_congr (by simp) b
    have hqueued : (s.takeCells a 1).queuedIn b = s.queuedIn b := State.queuedIn_congr (by simp) b
    simp only [State.takeCells_reception, hr, area, Reception.held, State.newCells_length, Option.some.injEq, List.length_append] at hreceived
    simp only [framed, State.queuedIn_setReception, State.setReception_frame, State.takeCells_txs]
    split at hreceived <;> simp_all; omega
  · simpa using s.areaHeld_takeCells a b 1

/-- The reception from a source is replaced, and what was in its cells and is not any more is returned. -/
theorem Balanced.setReception (h : Balanced (d, s)) {r : Option Reception} (goes : ∀ k, r = some k → k.Goes src) (n : Nat)
    (cells : (Reception.held r).length + n = (Reception.held (s.reception src)).length) :
    Balanced (d, (s.returnCells src n).setReception src r) := by
  have hplaced : (s.returnCells src n).Placed := h.placed.of_same (by simp) (by simp) (by simp)
  refine h.freed (hplaced.setReception goes) h.loose (fun a => if sourceArea src = some a then n else 0) (fun a => ?_) fun a => ?_
  · have hreceived := (s.returnCells src n).receivedIn_setReception src r a
    have hsame : (s.returnCells src n).receivedIn a = s.receivedIn a := State.receivedIn_congr (by simp) a
    have hqueued : (s.returnCells src n).queuedIn a = s.queuedIn a := State.queuedIn_congr (by simp) a
    simp only [State.returnCells_reception] at hreceived
    simp only [framed, State.queuedIn_setReception, State.setReception_frame, State.returnCells_txs]
    split at hreceived <;> simp_all; omega
  · simpa using s.areaHeld_returnCells src a n

theorem State.returnCells_zero (src : Source) (s : State) : s.returnCells src 0 = s := by
  cases src <;> rfl

theorem Balanced.reception (h : Balanced (d, s)) {r : Reception} (hr : r.Follows s src) (cells : r.cells = Reception.held (s.reception src)) :
    Balanced (d, s.setReception src (some r)) := by
  have hbalanced := h.setReception (r := some r) (src := src) (fun k hk => Option.some.inj hk ▸ hr.goes h.placed) 0 (by simp [Reception.held, cells])
  rwa [s.returnCells_zero] at hbalanced

theorem Balanced.dropFrame (h : Balanced (d, s)) {r : Reception} {why : DropReason}
    (hr : Reception.Follows s src { r with dropped := some why, cells := [] }) (cells : r.cells = Reception.held (s.reception src)) :
    Balanced (d, s.dropFrame src why r) :=
  h.setReception (fun _ hk => Option.some.inj hk ▸ hr.goes h.placed) r.cells.length (by simp [Reception.held, cells])

/-! ## The frame between its reception and its queue -/

theorem Balanced.takeOut (h : Balanced (d, s)) {r : Reception} (hr : s.reception src = some r) (free : d.loose = none) :
    Balanced ({ d with loose := some (src, r) }, s.setReception src none) := by
  refine h.freed (h.placed.setReception fun _ hk => absurd hk (by simp)) (fun other k hk => ?_) (fun _ => 0) (fun a => ?_)
    fun a => by simp
  · cases hk
    exact h.placed.goes hr
  · have hreceived := s.receivedIn_setReception src none a
    simp only [hr, Reception.held, List.length_nil, ite_self] at hreceived
    simp only [framed, Debt.looseIn, free, State.queuedIn_setReception, State.setReception_frame]
    omega

/-- The loose frame is a frame no more: its cells are returned to the area they came from. -/
theorem Balanced.returnLoose (h : Balanced (d, s)) {r : Reception} (hl : d.loose = some (src, r)) :
    Balanced ({ d with loose := none }, s.returnCells src r.cells.length) := by
  refine h.freed (h.placed.of_same (by simp) (by simp) (by simp)) (fun _ _ hk => absurd hk (by simp))
    (fun a => if sourceArea src = some a then r.cells.length else 0) (fun a => ?_) (s.areaHeld_returnCells src · r.cells.length)
  have hreceived : (s.returnCells src r.cells.length).receivedIn a = s.receivedIn a := State.receivedIn_congr (by simp) a
  have hqueued : (s.returnCells src r.cells.length).queuedIn a = s.queuedIn a := State.queuedIn_congr (by simp) a
  simp only [framed, Debt.looseIn, hl, State.returnCells_txs]
  omega

theorem Balanced.refuseLoose (h : Balanced (d, s)) {r : Reception} {q : QueueId} (hl : d.loose = some (src, r)) (hq : r.queue = some q)
    (hsrc : src ≠ .craft) : Balanced ({ d with loose := none }, s.freeCells q.area r.cells.length) := by
  have harea := Source.area_of_feeds ((h.loose src r hl).queue q hq) hsrc
  have hreturn : s.freeCells q.area r.cells.length = s.returnCells src r.cells.length := by simp only [State.returnCells, harea]
  exact hreturn ▸ h.returnLoose hl

theorem Balanced.admitLoose (h : Balanced (d, s)) {r : Reception} {k : Descriptor} (hl : d.loose = some (src, r)) (hq : r.queue = some k.queue)
    (hsrc : src ≠ .craft) (cells : k.cells = r.cells) :
    Balanced ({ d with loose := none }, s.setQueue k.queue (s.queue k.queue ++ [k])) := by
  have harea := Source.area_of_feeds ((h.loose src r hl).queue k.queue hq) hsrc
  refine h.freed (h.placed.setQueue fun y hy => ?_) (fun _ _ hk => absurd hk (by simp)) (fun _ => 0) (fun a => ?_) fun a => by simp
  · rcases List.mem_append.mp hy with hy | hy
    · exact h.placed.queues k.queue y hy
    · exact List.mem_singleton.mp hy ▸ rfl
  · have hqueued := s.queuedIn_setQueue k.queue (s.queue k.queue ++ [k]) a
    simp only [cellsOf_append, cellsOf_cons, cells] at hqueued
    simp only [framed, Debt.looseIn, hl, harea, State.receivedIn_setQueue, State.setQueue_frame, Option.some.injEq]
    split at hqueued <;> simp_all [cellsOf]; omega

theorem Balanced.emptyLoose (h : Balanced (d, s)) {r : Reception} (hl : d.loose = some (src, r)) (empty : r.dropped ≠ none ∨ src = .craft) :
    Balanced ({ d with loose := none }, s) := by
  have hnone (a : Area) : d.looseIn a = 0 := by
    by_cases hsrc : src = .craft
    · simp [Debt.looseIn, hl, hsrc, sourceArea]
    · simp [Debt.looseIn, hl, (h.loose src r hl).dropped hsrc (empty.resolve_right hsrc)]
  exact h.freed h.placed (fun _ _ hk => absurd hk (by simp)) (fun _ => 0) (fun a => by rw [framed, framed, hnone]; rfl) fun _ => rfl

/-! ## Flushes, placements, discards -/

/-- The cells that a flush of a port returns to an area (R58). -/
def State.flushedCells (p : Port) (s : State) : Area → Nat
  | .upstream => cellsOf (s.queue (.ux p)) + cellsOf (s.queue (.ub p))
  | .downstream => cellsOf (s.queue (.dx p)) + cellsOf (s.queue (.db p))
  | .reserved => 0

/-- The queues after a flush: those of the port are empty. -/
theorem State.queue_flush (p : Port) (s : State) (q : QueueId) : (s.flush p).queue q = if q.port = some p then [] else s.queue q := by
  cases q with
  | ux k | ub k | dx k | db k =>
    by_cases hk : k = p
    · subst hk; simp [queue, flush, QueueId.port, PortQueues.empty]
    · simp [queue, flush, QueueId.port, hk, Row.get_set_ne _ _ hk]
  | aq | cq => rfl

theorem State.queuedIn_flush (p : Port) (s : State) (a : Area) : (s.flush p).queuedIn a + s.flushedCells p a = s.queuedIn a := by
  have hsum (k l : Port → QueueId) (hk : ∀ j, (k j).port = some j) (hl : ∀ j, (l j).port = some j) :
      (∑ j, (cellsOf ((s.flush p).queue (k j)) + cellsOf ((s.flush p).queue (l j)))) + (cellsOf (s.queue (k p)) + cellsOf (s.queue (l p))) =
        ∑ j, (cellsOf (s.queue (k j)) + cellsOf (s.queue (l j))) := by
    have hchange := sum_ports_change (f := fun j => cellsOf (s.queue (k j)) + cellsOf (s.queue (l j)))
      (g := fun j => cellsOf ((s.flush p).queue (k j)) + cellsOf ((s.flush p).queue (l j))) p
      fun j hj => by simp [queue_flush, hk, hl, hj]
    simpa [queue_flush, hk, hl, cellsOf] using hchange
  cases a with
  | upstream => exact hsum .ux .ub (fun _ => rfl) fun _ => rfl
  | downstream => exact hsum .dx .db (fun _ => rfl) fun _ => rfl
  | reserved => simp [queuedIn, flushedCells, queue_flush, QueueId.port]

theorem Balanced.flush (h : Balanced (d, s)) (p : Port) : Balanced (d, s.flush p) := by
  have hreception (src : Source) : (s.flush p).reception src = s.reception src := by cases src <;> rfl
  refine h.freed (State.placed_of (fun q k hk => ?_) h.placed.uplink h.placed.lines h.placed.craft fun src r hr => h.placed.goes (hreception src ▸ hr))
    h.loose (s.flushedCells p) (fun a => ?_) fun a => by cases a <;> rfl
  · rw [s.queue_flush] at hk
    split at hk
    · cases hk
    · exact h.placed.queues q k hk
  · have hreceived : (s.flush p).receivedIn a = s.receivedIn a := State.receivedIn_congr hreception a
    have hqueued := s.queuedIn_flush p a
    have hsends : (s.flush p).txs.sendsIn a = s.txs.sendsIn a := rfl
    simp only [framed, hsends]
    omega

theorem Balanced.leaveUp (h : Balanced (d, s)) (p : Port) : Balanced (d, s.leaveUp p) := by
  refine (h.flush p).of_same rfl (fun q => ?_) (fun src => ?_) (by simp [State.leaveUp, State.emptyBuckets, State.flush]) fun a => ?_
  · cases q <;> simp [State.queue, State.leaveUp, State.emptyBuckets]
  · cases src <;> simp [State.reception, State.leaveUp, State.emptyBuckets]
  · cases a <;> simp [State.areaHeld, State.leaveUp, State.emptyBuckets]

theorem Balanced.placeFrame (h : Balanced (d, s)) {q : QueueId} {length : Nat} {image : FrameImage} {kind : AgentFrameKind}
    (room : s.hasRoom length = true) (hq : q = .aq ∨ q = .cq) : Balanced (d, s.placeFrame q length image kind) := by
  have harea : q.area = .reserved := by rcases hq with rfl | rfl <;> rfl
  have hplaced : (s.takeCells .reserved (cellsFor length)).Placed := h.placed.of_same (by simp) (by simp) (by simp)
  unfold State.placeFrame
  dsimp only
  rw [State.takeCells_queue]
  refine h.taken (hplaced.setQueue fun k hk => ?_) rfl .reserved (cellsFor length) (of_decide_eq_true room) (fun a => ?_) fun a => ?_
  · rcases List.mem_append.mp hk with hk | hk
    · exact h.placed.queues q k hk
    · exact List.mem_singleton.mp hk ▸ rfl
  · have hqueued := (s.takeCells .reserved (cellsFor length)).queuedIn_setQueue q (s.queue q ++ [{
        length := length, cells := s.newCells .reserved (cellsFor length), source := .agent, result := none, queue := q, image := image,
        agentKind := some kind }]) a
    have hreceived : (s.takeCells .reserved (cellsFor length)).receivedIn a = s.receivedIn a := State.receivedIn_congr (by simp) a
    have hsame : (s.takeCells .reserved (cellsFor length)).queuedIn a = s.queuedIn a := State.queuedIn_congr (by simp) a
    simp only [State.takeCells_queue, cellsOf_append, cellsOf_cons, State.newCells_length, harea] at hqueued
    simp only [framed, State.receivedIn_setQueue, State.setQueue_frame, State.takeCells_txs]
    split at hqueued <;> simp_all [cellsOf]; omega
  · simpa using s.areaHeld_takeCells .reserved a (cellsFor length)

theorem Balanced.discard (h : Balanced (d, s)) : Balanced (d, (s.freeCells .reserved (cellsOf s.cbm.cq)).setQueue .cq []) := by
  have hplaced : (s.freeCells .reserved (cellsOf s.cbm.cq)).Placed := h.placed.of_same (by simp) (by simp) (by simp)
  refine h.freed (hplaced.setQueue fun _ hk => absurd hk (by simp)) h.loose (fun a => if Area.reserved = a then cellsOf s.cbm.cq else 0) (fun a => ?_)
    fun a => by simpa using s.areaHeld_freeCells .reserved a (cellsOf s.cbm.cq)
  have hqueued := (s.freeCells .reserved (cellsOf s.cbm.cq)).queuedIn_setQueue .cq [] a
  have hreceived : (s.freeCells .reserved (cellsOf s.cbm.cq)).receivedIn a = s.receivedIn a := State.receivedIn_congr (by simp) a
  have hsame : (s.freeCells .reserved (cellsOf s.cbm.cq)).queuedIn a = s.queuedIn a := State.queuedIn_congr (by simp) a
  have hcq : s.queue .cq = s.cbm.cq := rfl
  simp only [State.freeCells_queue, QueueId.area, hcq] at hqueued
  simp only [framed, State.receivedIn_setQueue, State.setQueue_frame, State.freeCells_txs]
  split at hqueued <;> simp_all [cellsOf]; omega

/-! ## O9: the steps -/

theorem Change.balanced (h : Change W x y) (hx : Balanced x) : Balanced y := by
  cases h
  case weaken d s e he => exact hx.of_same he.loose (fun _ => rfl) (fun _ => rfl) ⟨rfl, rfl, rfl⟩ fun _ => rfl
  case install d s p r hr =>
    have hports : Balanced (d, { s with ports := s.ports.set p r.outOfUp.ordered }) :=
      hx.of_same rfl (fun q => by cases q <;> rfl) (fun src => by cases src <;> rfl) ⟨rfl, rfl, rfl⟩ fun a => by cases a <;> rfl
    rcases s.installPort_cases p r with ⟨h, -⟩ | h <;> simp only [h]
    · exact hports
    · exact hports.leaveUp p
  case place q length image kind room hq => exact hx.placeFrame room hq
  case discard => exact hx.discard
  case scheduler z hz =>
    exact hx.of_same rfl (fun q => by cases q <;> rfl) (fun src => by cases src <;> rfl) ⟨hz.1, hz.2.1, hz.2.2.1⟩ fun a => by cases a <;> rfl
  case startUplink q free hq => exact hx.startUplink free hq
  case startLine p q free hq => exact hx.startLine free hq
  case startCraft free hq => exact hx.startCraft free hq
  case uplinkDone ht => exact hx.uplinkDone ht
  case lineDone p ht => exact hx.lineDone ht
  case craftDone ht => exact hx.craftDone ht
  case frameStart src a free area room => exact hx.frameStart free area room
  case nextCell src a r hr undropped area room => exact hx.nextCell hr undropped area room
  case reception src r hr cells => exact hx.reception hr cells
  case dropFrame src why r hr cells => exact hx.dropFrame hr cells
  case takeOut src r hr free => exact hx.takeOut hr free
  case returnLoose src r hl => exact hx.returnLoose hl
  case refuseLoose src r q hl hq hsrc => exact hx.refuseLoose hl hq hsrc
  case admitLoose src r p z hl hq hsrc cells hp up => exact hx.admitLoose hl hq hsrc cells
  case emptyLoose src r hl empty => exact hx.emptyLoose hl empty
  case classifier c rx hc =>
    refine hx.of_same rfl (fun q => by cases q <;> rfl) (fun src => ?_) ⟨rfl, rfl, rfl⟩ fun a => by cases a <;> rfl
    cases src <;> simp [State.reception, rx]
  case raise =>
    exact hx.of_same (by split <;> rfl) (fun q => by cases q <;> rfl) (fun src => by cases src <;> rfl) ⟨rfl, rfl, rfl⟩ fun a => by cases a <;> rfl
  all_goals
    refine hx.of_same rfl (fun q => ?_) (fun src => ?_) (by simp) fun a => ?_
    · cases q <;> simp [State.queue]
    · cases src <;> simp [State.reception]
    · cases a <;> simp [State.areaHeld]

/-- After a reset no frame holds a cell. -/
theorem reset_balance {n k : Nat} {b : Bool} (cbm : t.cbm = { Buffer.afterReset with picks := k }) (fcl : t.fcl = s.fcl.restarted)
    (txs : t.txs = .afterReset n b) : t.CellsBalance := by
  have hqueue (q : QueueId) : t.queue q = [] := by
    cases q <;> rw [State.queue, cbm] <;> simp [Buffer.afterReset, PortQueues.empty]
  have hreception (src : Source) : t.reception src = none := by
    cases src <;> rw [State.reception, fcl] <;> simp [Classifier.restarted, Classifier.afterReset]
  refine ⟨State.placed_of (fun q => by simp [hqueue]) (by simp [txs, Scheduler.afterReset]) (by simp [txs, Scheduler.afterReset])
    (by simp [txs, Scheduler.afterReset]) fun src => by simp [hreception], fun a => ?_, by simp [cbm, Buffer.afterReset],
    by simp [cbm, Buffer.afterReset]⟩
  rw [State.cellsIn_eq]
  cases a <;> simp [State.areaHeld, cbm, Buffer.afterReset, State.receivedIn, State.queuedIn, Scheduler.sendsIn, hqueue, hreception, txs,
    Scheduler.afterReset, Reception.held, cellsOf]

/-- Settles O9: every elementary change moves cells between frames, or takes or frees as many as its area's count says. -/
theorem cellsStayInBalance : Obligations.CellsStayInBalance := fun _ _ hs h =>
  step_keeps (I := State.CellsBalance) Balanced
    (fun s l hs => ((balanced_iff s).mpr hs).of_same (t := { s with pending := l }) (e := .none) rfl (fun q => by cases q <;> rfl)
      (fun src => by cases src <;> rfl) ⟨rfl, rfl, rfl⟩ (fun a => by cases a <;> rfl) |> (balanced_iff _).mp)
    balanced_iff (fun _ _ _ h hx => h.balanced hx) (fun _ s => reset_balance (s := s) (k := s.cbm.picks) rfl rfl rfl)
    (fun s _ => reset_balance (s := s) (k := s.cbm.picks) rfl rfl rfl) h hs

end Sys2Proof.Machine
end

section
/-! The obligation on lists, its part about the fault log: how a raise, a clear and a forget change the log, and that a condition that is latched keeps
an active record (R183, R184). -/

namespace Sys2Proof.Machine

variable {W : Prop} {x y : Debt × State} {d e : Debt} {s t : State} {a : Agent} {log : List FaultRecord} {src : FaultSource} {kind : FaultKind}

/-! ## Keys and the log -/

theorem FaultRecord.hasKey_iff (r : FaultRecord) : r.hasKey src kind = true ↔ r.source = src ∧ r.kind = kind := by
  simp [hasKey]

/-- A fault log in order (R183). -/
structure FaultsSound (log : List FaultRecord) : Prop where
  length : log.length ≤ 24
  sources : ∀ r ∈ log, r.kind.sourced r.source = true
  keys : log.Pairwise fun x y => y.hasKey x.source x.kind = false

theorem Agent.sound_iff (a : Agent) : a.Sound ↔ FaultsSound a.faults ∧ a.notices.length ≤ 32 :=
  ⟨fun h => ⟨⟨h.faults, h.sources, h.keys⟩, h.notices⟩, fun ⟨h, hn⟩ => ⟨h.length, h.sources, h.keys, hn⟩⟩

theorem FaultsSound.sublist (h : FaultsSound log) {l : List FaultRecord} (hl : l.Sublist log) : FaultsSound l :=
  ⟨hl.length_le.trans h.length, fun r hr => h.sources r (hl.subset hr), h.keys.sublist hl⟩

theorem FaultsSound.map (h : FaultsSound log) {f : FaultRecord → FaultRecord} (source : ∀ r, (f r).source = r.source)
    (kind : ∀ r, (f r).kind = r.kind) : FaultsSound (log.map f) where
  length := by simpa using h.length
  sources r hr := by
    obtain ⟨k, hk, rfl⟩ := List.mem_map.mp hr
    simpa [source, kind] using h.sources k hk
  keys := List.pairwise_map.mpr (h.keys.imp fun hne => by simpa [FaultRecord.hasKey, source, kind] using hne)

theorem FaultsSound.updateFault (h : FaultsSound log) {f : FaultRecord → FaultRecord} (source : ∀ r, (f r).source = r.source)
    (kinds : ∀ r, (f r).kind = r.kind) : FaultsSound (updateFault src kind f log) :=
  h.map (fun r => by split <;> simp [source]) fun r => by split <;> simp [kinds]

theorem FaultsSound.append (h : FaultsSound log) {r : FaultRecord} (room : log.length < 24) (sourced : r.kind.sourced r.source = true)
    (fresh : ∀ k ∈ log, k.hasKey r.source r.kind = false) : FaultsSound (log ++ [r]) where
  length := by simpa using room
  sources k hk := by
    rcases List.mem_append.mp hk with hk | hk
    · exact h.sources k hk
    · exact List.mem_singleton.mp hk ▸ sourced
  keys := List.pairwise_append.mpr ⟨h.keys, List.pairwise_singleton _ _, fun k hk j hj => by
    have hne := fresh k hk
    rw [List.mem_singleton.mp hj]
    rw [← Bool.not_eq_true, FaultRecord.hasKey_iff] at hne ⊢
    exact fun ⟨hs, hkind⟩ => hne ⟨hs.symm, hkind.symm⟩⟩

/-- Two records of a log with the same key are the same record. -/
theorem FaultsSound.eq_of_key (h : FaultsSound log) {r k : FaultRecord} (hr : r ∈ log) (hk : k ∈ log) (source : r.source = k.source)
    (kind : r.kind = k.kind) : r = k := by
  by_contra hne
  have hpair := h.keys.imp (S := fun x y : FaultRecord => ¬(x.source = y.source ∧ x.kind = y.kind)) fun hk hxy => by
    simp [FaultRecord.hasKey, hxy] at hk
  have hsymm : Std.Symm fun x y : FaultRecord => ¬(x.source = y.source ∧ x.kind = y.kind) := ⟨fun _ _ hxy hyx => hxy ⟨hyx.1.symm, hyx.2.symm⟩⟩
  exact hpair.forall hr hk hne ⟨source, kind⟩

/-! ## Essential records (R183) -/

/-- An active record of a key stands in a log. -/
def Stands (log : List FaultRecord) (src : FaultSource) (kind : FaultKind) : Prop := ∃ f ∈ log, f.source = src ∧ f.kind = kind ∧ f.active = true

/-- A source has an active record of a latched kind in a log. -/
def RecordedIn (log : List FaultRecord) : FaultSource → Prop
  | .line p => Stands log (.line p) .relayMismatch ∨ Stands log (.line p) .hazard
  | .testbus => Stands log .testbus .relayMismatch
  | .cabinet => Stands log .cabinet .thermalShutdown
  | .uplink => False

theorem any_hasKey_active : (log.any fun q => q.hasKey src kind && q.active) = true ↔ Stands log src kind := by
  simp [Stands, FaultRecord.hasKey, and_assoc]

theorem essential_active {r : FaultRecord} (h : essential log r = true) : r.active = true := (Bool.and_eq_true_iff.mp h).1

theorem essential_latched {r : FaultRecord} (h : essential log r = true) : r.kind.latched = true := by
  have hmatch := (Bool.and_eq_true_iff.mp h).2
  split at hmatch <;> simp_all [FaultKind.latched]

/-- Of the two conditions that hold a port, one is essential only while the other has no active record. -/
theorem essential_alone {r : FaultRecord} {p : Port} (h : essential log r = true) (source : r.source = .line p) :
    (r.kind = .relayMismatch → ¬Stands log (.line p) .hazard) ∧ (r.kind = .hazard → ¬Stands log (.line p) .relayMismatch) := by
  have hmatch := (Bool.and_eq_true_iff.mp h).2
  rw [source] at hmatch
  constructor <;> intro hkind <;> rw [hkind] at hmatch <;> rw [← any_hasKey_active] <;> simpa using hmatch

/-- The latched kinds that a source has. -/
theorem sourced_latched (h : kind.sourced src = true) (l : kind.latched = true) :
    (∃ p, src = .line p ∧ (kind = .relayMismatch ∨ kind = .hazard)) ∨ src = .testbus ∧ kind = .relayMismatch ∨
      src = .cabinet ∧ kind = .thermalShutdown := by
  cases kind <;> cases src <;> simp_all [FaultKind.sourced, FaultKind.latched]

/-- No two records of one source are essential. -/
theorem FaultsSound.essential_eq (h : FaultsSound log) {r k : FaultRecord} (hr : r ∈ log) (hk : k ∈ log) (er : essential log r = true)
    (ek : essential log k = true) (source : r.source = k.source) : r = k := by
  refine h.eq_of_key hr hk source ?_
  rcases sourced_latched (h.sources r hr) (essential_latched er) with ⟨p, sr, kr⟩ | ⟨sr, kr⟩ | ⟨sr, kr⟩ <;>
    rcases sourced_latched (h.sources k hk) (essential_latched ek) with ⟨q, sk, kk⟩ | ⟨sk, kk⟩ | ⟨sk, kk⟩
  case inl.inl =>
    have hpq : q = p := by simpa [sk, sr] using source.symm
    subst hpq
    rcases kr with kr | kr <;> rcases kk with kk | kk
    · rw [kr, kk]
    · exact absurd ⟨k, hk, sk, kk, essential_active ek⟩ ((essential_alone er sr).1 kr)
    · exact absurd ⟨k, hk, sk, kk, essential_active ek⟩ ((essential_alone er sr).2 kr)
    · rw [kr, kk]
  all_goals simp_all

/-- A full log holds a record that is not essential: there are 18 sources of essential records (R183). -/
theorem FaultsSound.exists_inessential (h : FaultsSound log) (full : 24 ≤ log.length) : ∃ r ∈ log, essential log r = false := by
  by_contra hall
  have hall : ∀ r ∈ log, essential log r = true := fun r hr => by
    by_contra hno
    exact hall ⟨r, hr, by simpa using hno⟩
  have hnodup : (log.map (·.source)).Nodup := List.pairwise_map.mpr <| h.keys.imp_of_mem fun {a b} ha hb hkey hsource => by
    have heq := h.essential_eq ha hb (hall a ha) (hall b hb) hsource
    subst heq
    simp [FaultRecord.hasKey] at hkey
  have hsub : log.map (·.source) ⊆ allPorts.map .line ++ [.testbus, .cabinet] := fun src hsrc => by
    obtain ⟨r, hr, rfl⟩ := List.mem_map.mp hsrc
    rcases sourced_latched (h.sources r hr) (essential_latched (hall r hr)) with ⟨p, hs, -⟩ | ⟨hs, -⟩ | ⟨hs, -⟩ <;> simp [hs, allPorts]
  have hle := (List.subperm_of_subset hnodup hsub).length_le
  simp [allPorts] at hle
  omega

/-! ## What stands recorded -/

theorem RecordedIn.mono {l : List FaultRecord} (h : RecordedIn log src) (hl : ∀ f ∈ log, f.kind.latched = true → f.active = true → f ∈ l) :
    RecordedIn l src := by
  have hstands {src : FaultSource} {kind : FaultKind} (hk : kind.latched = true) (h : Stands log src kind) : Stands l src kind := by
    obtain ⟨f, hf, hsource, hkind, hactive⟩ := h
    exact ⟨f, hl f hf (hkind ▸ hk) hactive, hsource, hkind, hactive⟩
  cases src with
  | line p => exact h.imp (hstands rfl) (hstands rfl)
  | testbus => exact hstands rfl h
  | cabinet => exact hstands rfl h
  | uplink => exact h

/-- A record that is not essential can go: every source that was recorded is recorded without it. -/
theorem RecordedIn.erase (h : RecordedIn log src) {r : FaultRecord} (hr : essential log r = false) {l : List FaultRecord}
    (hl : ∀ f ∈ log, f ≠ r → f ∈ l) : RecordedIn l src := by
  have hkeep {src : FaultSource} {kind : FaultKind} (h : Stands log src kind) :
      Stands l src kind ∨ r.source = src ∧ r.kind = kind ∧ r.active = true := by
    obtain ⟨f, hf, hkey⟩ := h
    by_cases hfr : f = r
    · exact .inr (hfr ▸ hkey)
    · exact .inl ⟨f, hl f hf hfr, hkey⟩
  have hother {kind other : FaultKind} (h : Stands log src other) (hkind : r.kind = kind) (hne : kind ≠ other) : Stands l src other :=
    (hkeep h).elim id fun hkey => absurd (hkind.symm.trans hkey.2.1) hne
  cases src with
  | line p =>
    rcases h with h | h
    · refine (hkeep h).elim .inl fun ⟨hsource, hkind, hactive⟩ => .inr (hother ?_ hkind nofun)
      simpa [essential, hsource, hkind, hactive, ← any_hasKey_active] using hr
    · refine (hkeep h).elim .inr fun ⟨hsource, hkind, hactive⟩ => .inl (hother ?_ hkind nofun)
      simpa [essential, hsource, hkind, hactive, ← any_hasKey_active] using hr
  | testbus =>
    refine (hkeep h).elim id fun ⟨hsource, hkind, hactive⟩ => ?_
    simp [essential, hsource, hkind, hactive] at hr
  | cabinet =>
    refine (hkeep h).elim id fun ⟨hsource, hkind, hactive⟩ => ?_
    simp [essential, hsource, hkind, hactive] at hr
  | uplink => exact h

theorem RecordedIn.of_stands (h : Stands log src kind) (sourced : kind.sourced src = true) (l : kind.latched = true) : RecordedIn log src := by
  rcases sourced_latched sourced l with ⟨p, rfl, rfl | rfl⟩ | ⟨rfl, rfl⟩ | ⟨rfl, rfl⟩
  · exact .inl h
  · exact .inr h
  · exact h
  · exact h

/-! ## Raises (R183) -/

/-- What a place costs: the log is one in order with room, without an inactive record or one that is not essential. -/
theorem faultPlace_spec {kept : List FaultRecord} {n : Nat} (h : FaultsSound log) (hp : faultPlace log kind = some (kept, n)) :
    kept.Sublist log ∧ kept.length < 24 ∧ ∀ x, RecordedIn log x → RecordedIn kept x := by
  have herase {p : FaultRecord → Bool} (hany : log.any p = true) (hess : ∀ r ∈ log, p r = true → essential log r = false) :
      (log.eraseP p).Sublist log ∧ (log.eraseP p).length < 24 ∧ ∀ x, RecordedIn log x → RecordedIn (log.eraseP p) x := by
    obtain ⟨r, hr, hpr⟩ := List.any_eq_true.mp hany
    obtain ⟨k, before, rest, hk, hpk, hsplit, herased⟩ := List.exists_of_eraseP hr hpr
    have hlen := h.length
    have hmem : k ∈ log := by simp [hsplit]
    refine ⟨List.eraseP_sublist, ?_, fun x hx => hx.erase (hess k hmem hpk) fun f hf hne => ?_⟩
    · rw [hsplit] at hlen
      rw [herased]
      simp at hlen ⊢
      omega
    · rw [hsplit] at hf
      rw [herased]
      simpa [hne] using hf
  unfold faultPlace at hp
  split at hp
  · next hroom => cases hp; exact ⟨.refl _, hroom, fun _ => id⟩
  · split at hp
    · next hany => cases hp; exact herase hany fun r _ hr => by simpa [essential] using fun hactive => by simp [hactive] at hr
    · split at hp
      · next hany => cases hp; exact herase (Bool.and_eq_true_iff.mp hany).2 fun r _ hr => by simpa using hr
      · cases hp

/-- A condition that is latched always finds a place. -/
theorem faultPlace_latched (h : FaultsSound log) (l : kind.latched = true) : faultPlace log kind ≠ none := by
  unfold faultPlace
  split
  · nofun
  · next hfull =>
    split
    · nofun
    · split
      · nofun
      · next hno =>
        obtain ⟨r, hr, hess⟩ := h.exists_inessential (Nat.le_of_not_lt hfull)
        exact absurd (by simpa [l] using ⟨r, hr, hess⟩) hno

theorem Stands.updateFault (h : Stands log src kind) {k : FaultSource} {j : FaultKind} {f : FaultRecord → FaultRecord}
    (source : ∀ r, (f r).source = r.source) (kinds : ∀ r, (f r).kind = r.kind)
    (active : k = src → j = kind → ∀ r, r.source = src → r.kind = kind → (f r).active = true) : Stands (updateFault k j f log) src kind := by
  obtain ⟨r, hr, hsource, hkind, hactive⟩ := h
  refine ⟨if r.hasKey k j then f r else r, List.mem_map_of_mem (f := fun r => if r.hasKey k j then f r else r) hr, ?_⟩
  split
  · next hkey =>
    obtain ⟨hk, hj⟩ := r.hasKey_iff.mp hkey
    exact ⟨(source r).trans hsource, (kinds r).trans hkind, active (hk.symm.trans hsource) (hj.symm.trans hkind) r hsource hkind⟩
  · exact ⟨hsource, hkind, hactive⟩

/-- An update that leaves active what it meets, or meets no latched kind, or is of another source, keeps what stands recorded. -/
theorem RecordedIn.updateFault (h : RecordedIn log src) {k : FaultSource} {j : FaultKind} {f : FaultRecord → FaultRecord}
    (source : ∀ r, (f r).source = r.source) (kinds : ∀ r, (f r).kind = r.kind)
    (active : k = src → j.latched = true → ∀ r, r.kind = j → (f r).active = true) : RecordedIn (updateFault k j f log) src := by
  have hstands {kind : FaultKind} (hl : kind.latched = true) (h : Stands log src kind) : Stands (Machine.updateFault k j f log) src kind :=
    h.updateFault source kinds fun hk hj r _ hkind => active hk (hj ▸ hl) r (hj ▸ hkind)
  cases src with
  | line p => exact h.imp (hstands rfl) (hstands rfl)
  | testbus => exact hstands rfl h
  | cabinet => exact hstands rfl h
  | uplink => exact h

/-- What a raise does to the fault log: it stays in order, keeps what stands recorded, and records a latched condition. -/
theorem Agent.raise_spec (h : FaultsSound a.faults) (sourced : kind.sourced src = true) (cause : Option RestartCause) (uptime : Nat) :
    let log := (a.raise src kind cause uptime).1.faults
    FaultsSound log ∧ (∀ x, RecordedIn a.faults x → RecordedIn log x) ∧ (kind.latched = true → Stands log src kind) := by
  have hrestart : kind.latched = true → (kind != .restart) = true := by cases kind <;> simp [FaultKind.latched]
  unfold Agent.raise
  split
  · next r hfind =>
    have hkey := r.hasKey_iff.mp (List.find?_some hfind)
    have hactive (hl : kind.latched = true) (k : FaultRecord) (hk : k.kind = kind) : (k.again cause uptime).active = true := by
      simpa [FaultRecord.again, hk] using hrestart hl
    refine ⟨h.updateFault (fun _ => rfl) fun _ => rfl, fun x hx => hx.updateFault (fun _ => rfl) (fun _ => rfl) fun _ hl => hactive hl,
      fun hl => ⟨r.again cause uptime, ?_, hkey.1, hkey.2, hactive hl r hkey.2⟩⟩
    exact List.mem_map.mpr ⟨r, List.mem_of_find?_eq_some hfind, if_pos (List.find?_some hfind)⟩
  · next hnone =>
    have hfresh := fun k hk => Bool.eq_false_iff.mpr (List.find?_eq_none.mp hnone k hk)
    split
    · next kept n hp =>
      obtain ⟨hsub, hroom, hkept⟩ := faultPlace_spec h hp
      refine ⟨(h.sublist hsub).append hroom sourced fun k hk => hfresh k (hsub.subset hk),
        fun x hx => (hkept x hx).mono fun f hf _ _ => List.mem_append_left _ hf,
        fun hl => ⟨_, List.mem_append_right _ (.head _), rfl, rfl, hrestart hl⟩⟩
    · next hp => exact ⟨h, fun _ => id, fun hl => absurd hp (faultPlace_latched h hl)⟩

end Sys2Proof.Machine
end

section
/-! The obligation on lists, its parts about the agent's lists and about the records of what is latched. -/

namespace Sys2Proof.Machine

variable {W : Prop} {x y : Debt × State} {d e : Debt} {s t : State} {src : FaultSource} {kind : FaultKind}

/-! ## The agent's lists -/

theorem Change.agent_sound (h : Change W x y) (hx : x.2.mga.Sound) : y.2.mga.Sound := by
  obtain ⟨hfaults, hnotices⟩ := (Agent.sound_iff _).mp hx
  cases h
  case agent a faults subscribers notices => exact (Agent.sound_iff a).mpr ⟨faults ▸ hfaults, notices hnotices⟩
  case subscriber => exact (Agent.sound_iff _).mpr ⟨hfaults, hnotices⟩
  case raise src kind cause uptime hk =>
    refine (Agent.sound_iff _).mpr ⟨(Agent.raise_spec hfaults hk cause uptime).1, ?_⟩
    change (Agent.raise src kind cause uptime _).1.notices.length ≤ 32
    rw [Agent.raise_eq]
    exact hnotices
  case clear src kind hk => exact (Agent.sound_iff _).mpr ⟨hfaults.updateFault (fun _ => rfl) fun _ => rfl, hnotices⟩
  case forget => exact (Agent.sound_iff _).mpr ⟨hfaults.sublist List.filter_sublist, hnotices⟩
  all_goals simpa using hx

theorem Agent.afterPowerOn_sound (straps : BitVec 16) : (Agent.afterPowerOn straps).Sound := by
  refine (Agent.sound_iff _).mpr ⟨⟨?_, ?_, ?_⟩, ?_⟩ <;> simp [afterPowerOn, FaultRecord.powerOn, FaultKind.sourced]

theorem Agent.Sound.restarted {a : Agent} (h : a.Sound) (uptime : Nat) : (a.restarted uptime).Sound := by
  obtain ⟨hfaults, -⟩ := (Agent.sound_iff _).mp h
  refine (Agent.sound_iff _).mpr ⟨(Agent.raise_spec (hfaults.map (f := fun r => { r with active := false }) (fun _ => rfl) fun _ => rfl) rfl (some .directed) uptime).1, ?_⟩
  rw [Agent.restarted, Agent.raise_eq]
  simp

/-! ## What is latched stands recorded (R183, R184) -/

theorem State.latchesRecorded_iff (s : State) : s.LatchesRecorded ↔ ∀ x, s.latchedAt x → RecordedIn s.mga.faults x :=
  ⟨fun h x => match x with
    | .line p => h.held p
    | .testbus => h.blocked
    | .cabinet => h.thermal
    | .uplink => False.elim,
    fun h => ⟨fun p => h (.line p), h .testbus, h .cabinet⟩⟩

/-- What is latched stands recorded, but where a record is still owed. -/
def Owed (x : Debt × State) : Prop := ∀ src, x.2.latchedAt src → RecordedIn x.2.mga.faults src ∨ x.1.latch src

/-- Where the fault log is as it was and nothing less is owed, it is enough that nothing is newly latched. -/
theorem Owed.of_latched (h : Owed (d, s)) (latch : e.latch = d.latch) (faults : t.mga.faults = s.mga.faults)
    (hl : ∀ src, t.latchedAt src → s.latchedAt src ∨ d.latch src) : Owed (e, t) := fun src ht => by
  simp only [faults, latch]
  exact (hl src ht).elim (h src) .inr

/-- Port records, the bus and the cabinet's conditions are all that a latch is about. -/
theorem State.latchedAt_congr (ports : t.ports = s.ports) (bus : t.ptc.blocked = s.ptc.blocked)
    (cabinet : t.csu.shutdownCondition = s.csu.shutdownCondition ∧ t.csu.thermalLatch = s.csu.thermalLatch) (h : t.latchedAt src) :
    s.latchedAt src := by
  cases src <;> simpa [latchedAt, State.port, ports, bus, cabinet] using h

theorem PortRecord.Follows.latchedAt {p : Port} {r : PortRecord} (h : r.Follows d s p) (ports : t.ports = s.ports.set p r)
    (bus : t.ptc = s.ptc) (cabinet : t.csu = s.csu) (ht : t.latchedAt src) : s.latchedAt src ∨ d.latch src := by
  cases src with
  | line q =>
    by_cases hq : q = p
    · subst hq
      exact h.latched (by simpa [State.latchedAt, State.port, ports] using ht)
    · exact .inl (by simpa [State.latchedAt, State.port, ports, Row.get_set_ne _ _ hq] using ht)
  | testbus => exact .inl (by simpa [State.latchedAt, bus] using ht)
  | cabinet => exact .inl (by simpa [State.latchedAt, cabinet] using ht)
  | uplink => exact .inl ht

theorem Change.owed (h : Change W x y) (hs : x.2.mga.Sound) (hx : Owed x) : Owed y := by
  have hports := h.ports
  cases h
  case weaken e he => exact fun src hl => (hx src hl).imp_right (he.latch src)
  case settle src hno => exact fun k hl => (hx k hl).imp_right fun hd => ⟨fun hk => hno (hk ▸ hl), hd⟩
  case record p r hr same out => exact hx.of_latched rfl rfl fun _ => hr.latchedAt rfl rfl rfl
  case install d s p r hr =>
    refine hx.of_latched rfl (by simp) fun _ => hr.latchedAt ?_ (by simp) (by simp)
    rcases s.installPort_cases p r with ⟨h, -⟩ | h <;> simp [h]
  case agent a faults subscribers notices => exact hx.of_latched rfl faults fun _ => .inl
  case raise d s src kind cause uptime hk =>
    obtain ⟨-, hkeep, hnew⟩ := Agent.raise_spec ((Agent.sound_iff _).mp hs).1 hk cause uptime
    intro k hl
    refine (hx k hl).elim (fun h => .inl (hkeep k h)) fun hd => ?_
    split
    · next hlatched => exact
        or_iff_not_imp_left.mpr fun hno => ⟨fun heq => hno (heq ▸ RecordedIn.of_stands (src := src) (kind := kind) (hnew hlatched) hk hlatched), hd⟩
    · exact .inr hd
  case clear src kind hk =>
    intro k hl
    refine (hx k hl).elim (fun h => ?_) .inr
    by_cases howed : src = k ∧ kind.latched = true
    · exact .inr (howed.1 ▸ hk howed.2)
    · exact .inl (h.updateFault (fun _ => rfl) (fun _ => rfl) fun hsrc hlatched => absurd ⟨hsrc, hlatched⟩ howed)
  case forget => exact fun k hl => (hx k hl).imp_left fun h => h.mono fun f hf _ hactive => List.mem_filter.mpr ⟨hf, hactive⟩
  case ptc z w latch =>
    refine hx.of_latched rfl rfl fun src hl => ?_
    cases src
    case testbus => exact latch hl
    all_goals exact .inl hl
  case csu z latch craft =>
    refine hx.of_latched rfl rfl fun src hl => ?_
    cases src
    case cabinet => exact latch hl
    all_goals exact .inl hl
  all_goals exact hx.of_latched rfl (by simp) fun _ hl => .inl (State.latchedAt_congr (by simp) (by simp) (by simp) hl)

/-- What of the agent's lists and of the latches holds together. -/
def Listed (s : State) : Prop := s.mga.Sound ∧ s.LatchesRecorded

theorem PortRecord.powerOn_unlatched (r : PortRecord) : ¬(r.powerOn.state = .held ∨ r.powerOn.held.any = true) := by
  simp [PortRecord.powerOn, PortRecord.afterReset, HeldReasons.any, HeldReasons.empty]

theorem PortRecord.directed_unlatched (n : Nat) (r : PortRecord) : ¬((r.directed n).state = .held ∨ (r.directed n).held.any = true) := by
  unfold PortRecord.directed
  split <;> exact r.powerOn_unlatched

theorem State.powerOn_listed (straps : BitVec 16) (s : State) : Listed (s.powerOn straps) :=
  ⟨Agent.afterPowerOn_sound straps,
    { held := fun p hp => absurd (by simpa [State.port, State.powerOn] using hp) (s.port p).powerOn_unlatched
      blocked := nofun
      thermal := fun h => by simp [State.powerOn, State.reset, Supervisor.afterReset] at h }⟩

theorem State.directed_listed (s : State) (h : Listed s) : Listed s.directed :=
  ⟨h.1.restarted s.uptime,
    { held := fun p hp => absurd (by simpa [State.port, State.directed] using hp) ((s.port p).directed_unlatched s.now)
      blocked := nofun
      thermal := fun h => by simp [State.directed, Supervisor.afterReset] at h }⟩

theorem step_agent_sound (h : step s = .next t) (hs : s.mga.Sound) : t.mga.Sound :=
  step_keeps (I := fun s => s.mga.Sound) (fun x => x.2.mga.Sound) (fun _ _ h => h) (fun _ => Iff.rfl) (fun _ _ _ h hx => h.agent_sound hx)
    (fun straps _ => Agent.afterPowerOn_sound straps) (fun s h => h.restarted s.uptime) h hs

/-- A place is found for every record of what is latched, and what goes for it is not essential. -/
theorem step_listed (h : step s = .next t) (hs : Listed s) : Listed t :=
  step_keeps (I := Listed) (fun x => x.2.mga.Sound ∧ Owed x) (fun _ _ h => ⟨h.1, h.2.held, h.2.blocked, h.2.thermal⟩)
    (fun s => and_congr_right fun _ => by simp [State.latchesRecorded_iff, Owed, Debt.none])
    (fun _ _ _ h hx => ⟨h.agent_sound hx.1, h.owed hx.1 hx.2⟩) State.powerOn_listed State.directed_listed h hs

end Sys2Proof.Machine
end

section
/-! The obligation on lists, its part about the request list: how the Pair Test Controller's operations keep it with the running request and the test
bus record (R99, R100, R102, R104, R110, R119). -/

namespace Sys2Proof.Machine

variable {s t : State} {x : PairTest} {r : Request} {rs : List Request}

namespace PairTest

/-- What holds of the request list, the result log and the bus whether a request runs or not. -/
structure InOrder (t : PairTest) : Prop where
  room : t.requests.length ≤ 8
  ids : (t.requests.map (·.id)).Nodup
  urgent : t.requests.Pairwise fun x y => y.urgency = .urgent → x.urgency = .urgent
  kinds : t.requests.Pairwise fun x y => ¬(x.port = y.port ∧ x.kind = y.kind)
  idRange : ∀ r ∈ t.requests, 1 ≤ r.id ∧ r.id ≤ 65535
  next : 1 ≤ t.nextId ∧ t.nextId ≤ 65535
  log : t.log.length ≤ 16
  blocked : t.blocked = true ↔ ∃ p, t.blocking.get p = true

/-- The records that run. -/
def runs (rs : List Request) : List Request := rs.filter fun r => r.status == .running

/-- No request runs, and the controller has not moved on yet. -/
structure Freed (t : PairTest) : Prop where
  inOrder : t.InOrder
  runs : runs t.requests = []
  course : t.course = none
  owner : t.owner = none

theorem Sound.inOrder (h : x.Sound) : x.InOrder := ⟨h.room, h.ids, h.urgent, h.kinds, h.idRange, h.next, h.log, h.blocked⟩

theorem Sound.course_none (h : x.Sound) (hs : x.state.busy = false) : x.course = none := by
  by_contra hc
  have hbusy := h.course.mp (Option.isSome_iff_ne_none.mpr hc)
  simp [hs] at hbusy

theorem Sound.freed (h : x.Sound) (hc : x.course = none) : x.Freed where
  inOrder := h.inOrder
  runs := by simpa [hc, PairTest.runs] using h.running
  course := hc
  owner := by
    by_contra ho
    simpa [hc] using h.owner (Option.isSome_iff_ne_none.mpr ho)

/-- The controller in a state in which no request runs. -/
theorem Freed.rests (h : x.Freed) (busy : x.state.busy = false) (suspend : x.suspendPending = false) : x.Sound :=
  { h.inOrder with
    course := by simp [h.course, busy]
    running := by
      have hruns := h.runs
      unfold PairTest.runs at hruns
      rw [hruns, h.course]
      rfl
    owner := by simp [h.owner]
    claim := fun _ _ => h.owner
    suspend := by simp [suspend]
    items := by simp [h.course] }

/-- The order in the list, the log and the bus speak of nothing else. -/
theorem InOrder.of_same {y : PairTest} (h : x.InOrder) (requests : y.requests = x.requests) (next : y.nextId = x.nextId) (log : y.log = x.log)
    (bus : y.blocked = x.blocked ∧ y.blocking = x.blocking) : y.InOrder :=
  ⟨requests ▸ h.room, requests ▸ h.ids, requests ▸ h.urgent, requests ▸ h.kinds, requests ▸ h.idRange, next ▸ h.next, log ▸ h.log,
    bus.1 ▸ bus.2 ▸ h.blocked⟩

/-- A sound controller whose demand, view, shed mark and bus change. -/
theorem Sound.of_same {y : PairTest} (h : x.Sound) (inOrder : y.InOrder) (requests : y.requests = x.requests) (course : y.course = x.course)
    (state : y.state = x.state) (suspend : y.suspendPending = x.suspendPending) (owner : y.owner = x.owner) : y.Sound :=
  { inOrder with
    course := by simpa only [course, state] using h.course
    running := by simpa only [requests, course] using h.running
    owner := by simpa only [owner, course] using h.owner
    claim := by simpa only [owner, state, course] using h.claim
    suspend := by simpa only [suspend, course] using h.suspend
    items := by simpa only [course] using h.items }

/-- The running request's course goes on: the controller stays in a state in which a request runs. -/
theorem Sound.onCourse (h : x.Sound) (running : x.course.isSome) {k : Course} (items : k.items.length ≤ 11) {st : ControllerState}
    (busy : st.busy = true) {o : Option Port} (claim : st = .claim → k.releaseSent = false → o = none) :
    ({ x with course := some k, state := st, owner := o } : PairTest).Sound :=
  { h.inOrder with
    course := by simp [busy]
    running := by simpa [running] using h.running
    owner := fun _ => rfl
    claim := fun hst hk => claim hst (hk k rfl)
    suspend := fun _ => rfl
    items := fun j hj => Option.some.inj hj ▸ items }

/-! ## The running request -/

/-- While a course runs exactly one record of the list runs, and it is the running request. -/
theorem Sound.running_eq (h : x.Sound) (hr : x.running = some r) : r ∈ x.requests ∧ r.status = .running ∧ runs x.requests = [r] := by
  have hmem := List.mem_of_find?_eq_some hr
  have hst : r.status = .running := by simpa using List.find?_some hr
  have hruns : r ∈ runs x.requests := List.mem_filter.mpr ⟨hmem, by simp [hst]⟩
  refine ⟨hmem, hst, ?_⟩
  have hone : (runs x.requests).length ≤ 1 := by
    have hrun := h.running
    unfold runs
    split at hrun <;> omega
  obtain ⟨q, hq⟩ := List.length_eq_one_iff.mp (le_antisymm hone (List.length_pos_of_mem hruns))
  rw [hq] at hruns ⊢
  rw [List.mem_singleton.mp hruns]

theorem Sound.course_of_running (h : x.Sound) (hr : x.running = some r) : x.course.isSome := by
  by_contra hc
  have hruns := (h.running_eq hr).2.2
  have hrun := h.running
  rw [if_neg hc] at hrun
  unfold runs at hruns
  simp [hruns] at hrun

/-- A record taken out of the list by its id. -/
theorem InOrder.without (h : x.InOrder) (id : Nat) {log : List ResultRecord} (hlog : log.length ≤ 16) :
    ({ x with requests := x.requests.filter (fun q => q.id != id), log := log } : PairTest).InOrder :=
  { h with
    room := (List.length_filter_le _ _).trans h.room
    ids := h.ids.sublist (List.filter_sublist.map _)
    urgent := h.urgent.sublist List.filter_sublist
    kinds := h.kinds.sublist List.filter_sublist
    idRange := fun r hr => h.idRange r (List.mem_filter.mp hr).1
    log := hlog }

theorem length_pushResult {res : ResultRecord} {log : List ResultRecord} (h : log.length ≤ 16) : (pushResult res log).length ≤ 16 := by
  unfold pushResult
  by_cases hlog : log.length < Config.maxResults
  · rw [if_pos hlog]
    simpa [Config.maxResults] using hlog
  · rw [if_neg hlog]
    simp
    omega

/-- The running request taken out leaves no record that runs. -/
theorem Sound.runs_without (h : x.Sound) (hr : x.running = some r) : runs (x.requests.filter fun q => q.id != r.id) = [] := by
  have hruns := (h.running_eq hr).2.2
  unfold runs at hruns ⊢
  rw [List.filter_comm, hruns]
  simp

theorem eq_of_id (h : (rs.map (·.id)).Nodup) {q : Request} (hr : r ∈ rs) (hq : q ∈ rs) (hid : q.id = r.id) : q = r :=
  List.inj_on_of_nodup_map h hq hr hid

/-- A waiting record taken out leaves the record that runs. -/
theorem runs_without_waiting (h : (rs.map (·.id)).Nodup) (hr : r ∈ rs) (hw : r.status = .waiting) :
    runs (rs.filter fun q => q.id != r.id) = runs rs := by
  unfold runs
  rw [List.filter_filter]
  refine List.filter_congr fun q hq => ?_
  by_cases hid : q.id = r.id
  · simp [eq_of_id h hr hq hid, hw]
  · simp [hid]

/-! ## A record's status -/

theorem setStatus_ids (id : Nat) (st : RequestStatus) (rs : List Request) : (setStatus id st rs).map (·.id) = rs.map (·.id) := by
  simp only [setStatus, List.map_map]
  refine List.map_congr_left fun q _ => ?_
  simp only [Function.comp_apply]
  split <;> rfl

theorem InOrder.setStatus (h : x.InOrder) (id : Nat) (st : RequestStatus) :
    ({ x with requests := setStatus id st x.requests } : PairTest).InOrder := by
  have hsame (q : Request) : (if q.id = id then { q with status := st } else q).urgency = q.urgency ∧
      (if q.id = id then { q with status := st } else q).port = q.port ∧ (if q.id = id then { q with status := st } else q).kind = q.kind ∧
      (if q.id = id then { q with status := st } else q).id = q.id := by split <;> exact ⟨rfl, rfl, rfl, rfl⟩
  exact { h with
    room := by simpa [Machine.setStatus] using h.room
    ids := by rw [setStatus_ids]; exact h.ids
    urgent := List.pairwise_map.mpr (h.urgent.imp fun hxy => by simpa only [(hsame _).1] using hxy)
    kinds := List.pairwise_map.mpr (h.kinds.imp fun hxy => by simpa only [(hsame _).2.1, (hsame _).2.2.1] using hxy)
    idRange := fun r hr => by
      obtain ⟨q, hq, rfl⟩ := List.mem_map.mp hr
      simpa only [(hsame q).2.2.2] using h.idRange q hq }

/-- A waiting record that comes to run is, among none that ran, the one that runs. -/
theorem runs_setStatus_running (h : (rs.map (·.id)).Nodup) (hr : r ∈ rs) (hno : runs rs = []) :
    (runs (Machine.setStatus r.id .running rs)).length = 1 := by
  have hwaiting (q : Request) (hq : q ∈ rs) : q.status ≠ .running := fun hst => by
    have hmem : q ∈ runs rs := List.mem_filter.mpr ⟨hq, by simp [hst]⟩
    simp [hno] at hmem
  calc (runs (Machine.setStatus r.id .running rs)).length
      = (Machine.setStatus r.id .running rs).countP fun q => q.status == .running := List.countP_eq_length_filter.symm
    _ = rs.countP fun q => q.id == r.id := by
      rw [Machine.setStatus, List.countP_map]
      refine List.countP_congr fun q hq => ?_
      by_cases hid : q.id = r.id <;> simp [hid, hwaiting q hq]
    _ = (rs.map (·.id)).count r.id := by rw [List.count, List.countP_map]; rfl
    _ = 1 := List.count_eq_one_of_mem h (List.mem_map_of_mem hr)

end PairTest

/-! ## A new request (R100) -/

theorem insertRequest_perm (r : Request) (rs : List Request) : (insertRequest r rs).Perm (r :: rs) := by
  unfold insertRequest
  split
  · exact List.perm_middle.trans (by rw [List.takeWhile_append_dropWhile])
  · exact List.perm_append_singleton r rs

theorem insertRequest_urgent (h : rs.Pairwise fun x y => y.urgency = .urgent → x.urgency = .urgent) :
    (insertRequest r rs).Pairwise fun x y => y.urgency = .urgent → x.urgency = .urgent := by
  unfold insertRequest
  split
  · next hr =>
    refine List.pairwise_append.mpr ⟨h.sublist (List.takeWhile_sublist _), List.pairwise_cons.mpr ⟨fun _ _ _ => hr, h.sublist (List.dropWhile_sublist _)⟩,
      fun a ha _ _ _ => ?_⟩
    simpa using List.mem_takeWhile_imp ha
  · next hr =>
    refine List.pairwise_append.mpr ⟨h, List.pairwise_singleton _ _, fun a _ b hb hu => ?_⟩
    rw [List.mem_singleton.mp hb, hr] at hu
    cases hu

theorem idAfter_range {n : Nat} : 1 ≤ idAfter n ∧ idAfter n ≤ 65535 := by
  unfold idAfter
  split <;> omega

theorem freshId_range (used : List Nat) (fuel : Nat) {n : Nat} (h : 1 ≤ n ∧ n ≤ 65535) :
    1 ≤ freshId used fuel n ∧ freshId used fuel n ≤ 65535 := by
  induction fuel generalizing n with
  | zero => exact h
  | succ fuel ih =>
    unfold freshId
    split
    · exact ih idAfter_range
    · exact h

/-- The ids after an id, one by one. -/
theorem iterate_idAfter {n : Nat} (h : 1 ≤ n ∧ n ≤ 65535) (k : Nat) (hk : k ≤ 65535) :
    idAfter^[k] n = if n + k ≤ 65535 then n + k else n + k - 65535 := by
  induction k with
  | zero => simp [h.2]
  | succ k ih =>
    rw [Function.iterate_succ_apply', ih (by omega)]
    unfold idAfter
    split <;> split <;> split <;> omega

/-- An id that is passed over only after every one before it was in use. -/
theorem freshId_passed {used : List Nat} {fuel n : Nat} (h : freshId used fuel n ∈ used) : ∀ k ≤ fuel, idAfter^[k] n ∈ used := by
  induction fuel generalizing n with
  | zero => exact fun k hk => by simpa [Nat.le_zero.mp hk, freshId] using h
  | succ fuel ih =>
    unfold freshId at h
    split at h
    · next hused =>
      intro k hk
      cases k with
      | zero => simpa using hused
      | succ k => exact ih h k (by omega)
    · next hno => exact absurd (List.contains_iff_mem.mpr h) hno

/-- Among as many ids as there can be requests one is free. -/
theorem freshId_fresh {used : List Nat} {fuel n : Nat} (h : 1 ≤ n ∧ n ≤ 65535) (few : used.length ≤ fuel) (hf : fuel < 65535) :
    freshId used fuel n ∉ used := by
  intro hin
  have hpassed := freshId_passed hin
  have hnodup : ((List.range (fuel + 1)).map fun k => idAfter^[k] n).Nodup := List.Nodup.map_on (fun a ha b hb hab => by
    rw [List.mem_range] at ha hb
    rw [iterate_idAfter h a (by omega), iterate_idAfter h b (by omega)] at hab
    split at hab <;> split at hab <;> omega) List.nodup_range
  have hsub : (List.range (fuel + 1)).map (fun k => idAfter^[k] n) ⊆ used := fun m hm => by
    obtain ⟨k, hk, rfl⟩ := List.mem_map.mp hm
    exact hpassed k (Nat.lt_succ_iff.mp (List.mem_range.mp hk))
  have hle := (List.subperm_of_subset hnodup hsub).length_le
  simp at hle
  omega

/-- A new record with a fresh id enters the list in its place. -/
theorem PairTest.Sound.insert (h : x.Sound) (room : x.requests.length < 8) (waiting : r.status = .waiting)
    (fresh : r.id ∉ x.requests.map (·.id)) (range : 1 ≤ r.id ∧ r.id ≤ 65535) (single : ∀ q ∈ x.requests, ¬(q.port = r.port ∧ q.kind = r.kind)) :
    ({ x with requests := insertRequest r x.requests, nextId := idAfter r.id } : PairTest).Sound := by
  have hperm := insertRequest_perm r x.requests
  have horder : ({ x with requests := insertRequest r x.requests, nextId := idAfter r.id } : PairTest).InOrder :=
    { h.inOrder with
      room := by simpa [hperm.length_eq] using room
      ids := (hperm.map _).nodup_iff.mpr (List.nodup_cons.mpr ⟨fresh, h.ids⟩)
      urgent := insertRequest_urgent h.urgent
      kinds := by
        refine (hperm.pairwise_iff fun hxy hyx => hxy ⟨hyx.1.symm, hyx.2.symm⟩).mpr (List.pairwise_cons.mpr ⟨fun q hq hk => ?_, h.kinds⟩)
        exact single q hq ⟨hk.1.symm, hk.2.symm⟩
      idRange := fun q hq => by
        rcases List.mem_cons.mp (hperm.mem_iff.mp hq) with rfl | hq
        · exact range
        · exact h.idRange q hq
      next := idAfter_range }
  refine { horder with course := h.course, running := ?_, owner := h.owner, claim := h.claim, suspend := h.suspend, items := h.items }
  rw [(hperm.filter _).length_eq, List.filter_cons_of_neg (by simp [waiting])]
  exact h.running

end Sys2Proof.Machine
end

section
/-! The obligation on lists: the Pair Test Controller's operations on the state, and the two writes that bring a selection (R103 to R118). -/

namespace Sys2Proof.Machine

variable {s t u : State} {x : PairTest} {r : Request} {rs : List Request} {k : Course} {o : TestOutcome} {c : Option TestCause}

/-! ## Demand and results -/

theorem State.workDemand_ptc (s : State) : s.workDemand.ptc = { s.ptc with demand := s.ptc.demandNow } := by
  unfold workDemand
  dsimp only
  split
  · next h => rw [h]
  · simp

/-- The controller is in order up to its demand. -/
theorem State.workDemand_sound (h : s.ptc.Sound) : s.workDemand.ptc.Sound := by
  rw [workDemand_ptc]
  exact h.of_same (h.inOrder.of_same rfl rfl rfl ⟨rfl, rfl⟩) rfl rfl rfl rfl rfl

theorem State.workDemand_freed (h : s.ptc.Freed) : s.workDemand.ptc.Freed := by
  rw [workDemand_ptc]
  exact { h with inOrder := h.inOrder.of_same rfl rfl rfl ⟨rfl, rfl⟩ }

/-- A request that ends is logged and leaves the list (R110). -/
theorem State.concludeRequest_ptc (r : Request) (o : TestOutcome) (c : Option TestCause) (items : List Item) (s : State) :
    ∃ res, (s.concludeRequest r o c items).ptc =
      { s.ptc with requests := s.ptc.requests.filter (fun q => q.id != r.id), log := pushResult res s.ptc.log } := by
  refine ⟨{ request := r, outcome := o, cause := c, items := items, ended := s.sinceReset }, ?_⟩
  unfold concludeRequest
  dsimp only
  simp only [State.raiseNotice_frame]

/-- A waiting record ends. -/
theorem State.endQueued_sound (h : s.ptc.Sound) (hr : r ∈ s.ptc.requests) (hw : r.status = .waiting) : (s.endQueued r o c).ptc.Sound := by
  obtain ⟨res, hptc⟩ := s.concludeRequest_ptc r o c []
  refine workDemand_sound ?_
  rw [hptc]
  exact { h.inOrder.without r.id (PairTest.length_pushResult h.log) with
    course := h.course
    running := by
      have hsame := PairTest.runs_without_waiting h.ids hr hw
      have hrun := h.running
      unfold PairTest.runs at hsame
      rw [← hsame] at hrun
      exact hrun
    owner := h.owner, claim := h.claim, suspend := h.suspend, items := h.items }

theorem State.endQueued_requests (r : Request) (o : TestOutcome) (c : Option TestCause) (s : State) :
    (s.endQueued r o c).ptc.requests = s.ptc.requests.filter (fun q => q.id != r.id) ∧ (s.endQueued r o c).ptc.state = s.ptc.state := by
  obtain ⟨res, hptc⟩ := s.concludeRequest_ptc r o c []
  unfold endQueued
  rw [workDemand_ptc, hptc]
  exact ⟨rfl, rfl⟩

/-! ## Selection (R104) -/

theorem State.startRequest_sound (h : s.ptc.Sound) (idle : s.ptc.state = .idle) (hr : r ∈ s.ptc.requests) : (s.startRequest r).ptc.Sound := by
  have hfreed := h.freed (h.course_none (by simp [idle, ControllerState.busy]))
  have hone := PairTest.runs_setStatus_running h.ids hr hfreed.runs
  exact { (h.inOrder.setStatus r.id .running).of_same (y := (s.startRequest r).ptc) rfl rfl rfl ⟨rfl, rfl⟩ with
    course := by simp [State.startRequest, ControllerState.busy]
    running := by simpa [State.startRequest, PairTest.runs] using hone
    owner := fun _ => rfl
    claim := fun _ _ => hfreed.owner
    suspend := fun _ => rfl
    items := fun k hk => by cases hk; simp }

/-- The walk over the list: the records still to come are in it, each once. -/
theorem walkRequests_sound (h : s.ptc.Sound) (idle : s.ptc.state = .idle) (hrs : ∀ r ∈ rs, r ∈ s.ptc.requests) (ids : (rs.map (·.id)).Nodup) :
    (walkRequests rs s).ptc.Sound := by
  induction rs generalizing s with
  | nil => exact h
  | cons r rest ih =>
    obtain ⟨hfirst, hids⟩ := List.nodup_cons.mp ids
    obtain ⟨hr, hrest⟩ := List.forall_mem_cons.mp hrs
    unfold walkRequests
    split
    · exact ih h idle hrest hids
    · next hst =>
      have hw : r.status = .waiting := by cases hs : r.status <;> simp_all
      split
      · split
        · exact State.startRequest_sound h idle hr
        · exact ih h idle hrest hids
      · obtain ⟨hreqs, hstate⟩ := s.endQueued_requests r .aborted (some .policy)
        refine ih (State.endQueued_sound h hr hw) (hstate.trans idle) (fun q hq => ?_) hids
        have hne : q.id ≠ r.id := fun hid => hfirst (by simpa [← hid] using List.mem_map_of_mem (f := (·.id)) hq)
        exact hreqs ▸ List.mem_filter.mpr ⟨hrest q hq, by simpa using hne⟩

theorem State.select_sound (h : s.ptc.Sound) : s.select.ptc.Sound := by
  unfold select
  refine workDemand_sound ?_
  split
  · next hidle => exact walkRequests_sound h hidle.1 (fun _ => id) h.ids
  · exact h

/-! ## The end of a request (R106, R110) -/

theorem State.moveOn_sound (h : s.ptc.Freed) : s.moveOn.ptc.Sound := by
  have hrests (st : ControllerState) (hst : st.busy = false) (b : Bool) (hb : b = false) :
      ({ s.ptc with suspendPending := b, state := st } : PairTest).Sound :=
    PairTest.Freed.rests { h with inOrder := h.inOrder.of_same rfl rfl rfl ⟨rfl, rfl⟩ } hst hb
  unfold moveOn
  split
  · exact workDemand_sound (hrests .suspended rfl false rfl)
  · next hno => exact select_sound (hrests .idle rfl s.ptc.suspendPending (by simpa using hno))

theorem State.concludeRequest_freed (h : s.ptc.Sound) (hr : s.ptc.running = some r) (items : List Item) :
    ({ (s.concludeRequest r o c items).ptc with owner := none, course := none } : PairTest).Freed := by
  obtain ⟨res, hptc⟩ := s.concludeRequest_ptc r o c items
  rw [hptc]
  exact { inOrder := (h.inOrder.without r.id (PairTest.length_pushResult h.log)).of_same rfl rfl rfl ⟨rfl, rfl⟩
          runs := h.runs_without hr, course := rfl, owner := rfl }

theorem State.endRunning_sound (h : s.ptc.Sound) (hr : s.ptc.running = some r) : (s.endRunning r o c).ptc.Sound :=
  moveOn_sound (workDemand_freed (concludeRequest_freed h hr _))

theorem PairTest.runs_setStatus_waiting (h : x.Sound) (hr : x.running = some r) : runs (setStatus r.id .waiting x.requests) = [] := by
  refine List.filter_eq_nil_iff.mpr fun q hq => ?_
  obtain ⟨j, hj, rfl⟩ := List.mem_map.mp hq
  split
  · simp
  · next hne =>
    intro hst
    have hmem : j ∈ runs x.requests := List.mem_filter.mpr ⟨hj, hst⟩
    rw [(h.running_eq hr).2.2, List.mem_singleton] at hmem
    exact hne (congrArg _ hmem)

theorem State.putBack_sound (h : s.ptc.Sound) (hr : s.ptc.running = some r) (idle : s.ptc.owner = none) : (s.putBack r).ptc.Sound :=
  moveOn_sound { inOrder := (h.inOrder.setStatus r.id .waiting).of_same rfl rfl rfl ⟨rfl, rfl⟩
                 runs := PairTest.runs_setStatus_waiting h hr, course := rfl, owner := idle }

/-! ## The running request's course -/

/-- A course whose items, and whether its RELEASE is sent, are as they were. -/
theorem State.earlyEnding_sound (h : s.ptc.Sound) : (s.earlyEnding o c).ptc.Sound := by
  unfold earlyEnding
  split
  · next k r hk hr =>
    have hitems : (k.ended o c).items = k.items ∧ (k.ended o c).releaseSent = k.releaseSent := by
      unfold Course.ended
      split <;> exact ⟨rfl, rfl⟩
    have hle : (k.ended o c).items.length ≤ 11 := hitems.1 ▸ h.items k hk
    dsimp only
    split
    · exact h.onCourse (by simp [hk]) hle (st := .transferBack) rfl (o := s.ptc.owner) nofun
    · refine h.onCourse (by simp [hk]) hle (st := s.ptc.state) (h.course.mp (by simp [hk])) (o := s.ptc.owner) fun hst hsent => ?_
      exact h.claim hst fun j hj => by
        rw [hk] at hj
        exact Option.some.inj hj ▸ hitems.2 ▸ hsent
  · exact h

theorem State.runningAs_eq {id : Nat} (h : s.runningAs id = some (r, k)) : s.ptc.running = some r ∧ s.ptc.course = some k := by
  unfold runningAs at h
  split at h
  · next hr hk =>
    split at h
    · cases h; exact ⟨hr, hk⟩
    · cases h
  · cases h

/-! ## Reports and directives -/

/-- A report taken in its turn keeps the controller sound when its effect does. -/
theorem State.takeReport_sound {b : Reporter} {m : Instr} {effect : State → Host.Outcome State Fault Refusal}
    (h : s.takeReport b m effect = .next t) (hs : s.ptc.Sound) (heffect : ∀ u, u.ptc.Sound → effect u = .next t → t.ptc.Sound) :
    t.ptc.Sound := by
  unfold takeReport at h
  split at h
  · exact heffect (s.taken m) hs h
  · cases h; exact hs

/-- An answer keeps the controller sound. -/
def Answer.KeepsPtc (a : Answer) : Prop := a.state.ptc.Sound ∧ a.ifCut.ptc.Sound

theorem Answer.KeepsPtc.refuse (h : s.ptc.Sound) (o : DirectiveOutcome) : (refuse o s).KeepsPtc := ⟨h, h⟩

theorem Answer.KeepsPtc.doneWith (h : s.ptc.Sound) (data : List Octet) : (doneWith data s).KeepsPtc := ⟨h, h⟩

theorem State.advance_ptc (e : Execution) (s : State) : (s.advance e).ptc = s.ptc := by
  unfold advance
  split
  · rfl
  · split <;> rfl

theorem State.direct_sound {o : Origin} {code : Octet} {params : List Octet} {lengthGood : Bool} {demands : Demands} {body : State → Answer}
    (hs : s.ptc.Sound) (h : ∀ u, u.ptc.Sound → (body u).KeepsPtc) : (s.direct o code params lengthGood demands body).ptc.Sound := by
  have hanswer (u : State) (hu : u.ptc.Sound) : (u.answer o lengthGood demands body).KeepsPtc := by
    unfold answer
    split
    · exact .refuse hu _
    · exact h u hu
  unfold direct
  dsimp only
  split
  · exact hs
  · exact (hanswer s hs).1
  · unfold enterAnswer
    dsimp only
    split
    · rw [advance_ptc]; exact (hanswer (s.taken _) hs).1
    · rw [advance_ptc]; exact (hanswer (s.taken _) hs).2

/-! ## The controller's commands -/

theorem execPortReport_sound {p : Port} {st : PortState} {held : Bool} {phase : TransferPhase} (h : execPortReport p st held phase s = .next t)
    (hs : s.ptc.Sound) : t.ptc.Sound :=
  State.takeReport_sound h hs fun u hu he => by
    cases he
    exact State.select_sound (hu.of_same (hu.inOrder.of_same rfl rfl rfl ⟨rfl, rfl⟩) rfl rfl rfl rfl rfl)

theorem execGranted_sound {id : Nat} (h : execGranted id s = .next t) (hs : s.ptc.Sound) : t.ptc.Sound :=
  State.takeReport_sound h hs fun u hu he => by
    split at he
    · next r k hrun =>
      obtain ⟨hr, hk⟩ := State.runningAs_eq hrun
      split at he
      · next hclaim =>
        dsimp only at he
        split at he <;> cases he
        · have hgo := hu.onCourse (by simp [hk]) (hu.items k hk) (st := .transferOut) rfl (o := some r.port) nofun
          rw [← hk] at hgo
          exact hgo
        · exact hu.onCourse (by simp [hk]) (k := { k with releaseSent := true }) (hu.items k hk) (st := u.ptc.state)
            (hu.course.mp (by simp [hk])) (o := some r.port) nofun
      · cases he; exact hu
    · cases he; exact hu

theorem execDenied_sound {id : Nat} (h : execDenied id s = .next t) (hs : s.ptc.Sound) : t.ptc.Sound :=
  State.takeReport_sound h hs fun u hu he => by
    split at he
    · next r k hrun =>
      obtain ⟨hr, hk⟩ := State.runningAs_eq hrun
      split at he
      · next hclaim =>
        split at he <;> cases he
        · refine State.putBack_sound hu hr (hu.claim hclaim.1 fun j hj => ?_)
          rw [hk] at hj
          simpa [Option.some.inj hj] using hclaim.2
        · exact State.endRunning_sound hu hr
      · cases he; exact hu
    · cases he; exact hu

/-- RELEASE is sent: the course says so. -/
theorem State.sendRelease_sound (h : s.ptc.Sound) (running : s.ptc.course.isSome) (items : k.items.length ≤ 11) (p : Port) :
    (s.sendRelease k p).ptc.Sound :=
  h.onCourse running (k := { k with releaseSent := true }) items (st := s.ptc.state) (h.course.mp running) (o := s.ptc.owner) nofun

/-- The controller enters another state in which a request runs, and which is not CLAIM. -/
theorem State.enterPtc_sound (h : s.ptc.Sound) (running : s.ptc.course.isSome) {st : ControllerState} (busy : st.busy = true)
    (hst : st ≠ .claim) : (s.enterPtc st).ptc.Sound := by
  obtain ⟨k, hk⟩ := Option.isSome_iff_exists.mp running
  have hgo := h.onCourse running (h.items k hk) busy (o := s.ptc.owner) fun hclaim => absurd hclaim hst
  rw [← hk] at hgo
  exact hgo

theorem execOutDone_sound (h : execOutDone s = .next t) (hs : s.ptc.Sound) : t.ptc.Sound :=
  State.takeReport_sound h hs fun u hu he => by
    split at he
    · next r k hr hk =>
      have hrunning : u.ptc.course.isSome := by simp [hk]
      split at he
      · split at he <;> cases he
        · exact State.enterPtc_sound (s := u.dropStaleDone.post _) hu hrunning rfl nofun
        · exact State.enterPtc_sound (s := u.post _) hu hrunning rfl nofun
      · cases he; exact hu
    · cases he; exact hu

theorem execOutFailed_sound (h : execOutFailed s = .next t) (hs : s.ptc.Sound) : t.ptc.Sound :=
  State.takeReport_sound h hs fun u hu he => by
    split at he
    · next r k hr hk =>
      split at he <;> cases he
      · exact State.sendRelease_sound (k := { k with pending := some .relayFault, cause := some .busOccupied }) hu (by simp [hk]) (hu.items k hk) _
      · exact hu
    · cases he; exact hu

theorem execBackDone_sound (h : execBackDone s = .next t) (hs : s.ptc.Sound) : t.ptc.Sound :=
  State.takeReport_sound h hs fun u hu he => by
    split at he
    · next r k hr hk =>
      split at he <;> cases he
      · exact State.sendRelease_sound hu (by simp [hk]) (hu.items k hk) _
      · exact hu
    · cases he; exact hu

theorem execReleased_sound {id : Nat} (h : execReleased id s = .next t) (hs : s.ptc.Sound) : t.ptc.Sound :=
  State.takeReport_sound h hs fun u hu he => by
    split at he
    · next r k hrun =>
      split at he <;> cases he
      · exact State.endRunning_sound hu (State.runningAs_eq hrun).1
      · exact hu
    · cases he; exact hu

theorem PairTest.record_mem {id : Nat} (h : x.record id = some r) : r ∈ x.requests := List.mem_of_find?_eq_some h

theorem execWaitDeadlineExpiry_sound {id : Nat} (h : execWaitDeadlineExpiry id s = .next t) (hs : s.ptc.Sound) : t.ptc.Sound := by
  unfold execWaitDeadlineExpiry at h
  split at h
  · next r hr =>
    split at h <;> cases h
    · next hw => exact State.endQueued_sound (s := s.reach _) hs (PairTest.record_mem hr) hw
    · exact hs
  · cases h; exact hs

theorem execPortDisabledReport_sound {id : Nat} (h : execPortDisabledReport id s = .next t) (hs : s.ptc.Sound) : t.ptc.Sound :=
  State.takeReport_sound h hs fun u hu he => by
    split at he <;> cases he
    · exact State.earlyEnding_sound hu
    · exact hu

theorem execPortHeldReport_sound {id : Nat} {reason : HeldReason} (h : execPortHeldReport id reason s = .next t) (hs : s.ptc.Sound) :
    t.ptc.Sound :=
  State.takeReport_sound h hs fun u hu he => by
    split at he
    · next r k hrun =>
      have hr := (State.runningAs_eq hrun).1
      have hstop : (if u.ptc.state = .measure then u.post .measureStop else u).ptc = u.ptc := by split <;> rfl
      dsimp only at he
      split at he <;> cases he
      · exact State.endRunning_sound (hstop.symm ▸ hu) (hstop.symm ▸ hr)
      · exact State.endRunning_sound (hstop.symm ▸ hu) (hstop.symm ▸ hr)
    · cases he; exact hu

/-- A blocked bus names a pair that blocks it (R116). -/
theorem State.block_sound (p : Port) (h : s.ptc.Sound) : (s.block p).ptc.Sound := by
  refine workDemand_sound ?_
  simp only [raiseFault_frame]
  refine h.of_same { h.inOrder with blocked := ?_ } rfl rfl rfl rfl rfl
  simpa using ⟨p, by simp⟩

theorem execMismatchReport_sound {p : Port} {closed : Bool} (h : execMismatchReport p closed s = .next t) (hs : s.ptc.Sound) : t.ptc.Sound :=
  State.takeReport_sound h hs fun u hu he => by
    split at he
    · dsimp only at he
      split at he
      · split at he <;> cases he
        · exact State.block_sound p hu
        · exact State.earlyEnding_sound (State.block_sound p hu)
      · cases he; exact State.block_sound p hu
    · cases he; exact hu

/-- The shed mark is no part of what stands together. -/
theorem PairTest.Sound.mark (h : x.Sound) (b : Bool) : ({ x with shedMark := b } : PairTest).Sound :=
  h.of_same (h.inOrder.of_same rfl rfl rfl ⟨rfl, rfl⟩) rfl rfl rfl rfl rfl

theorem execMeasurementItem_sound {item : SentItem} (h : execMeasurementItem item s = .next t) (hs : s.ptc.Sound) : t.ptc.Sound :=
  State.takeReport_sound h hs fun u hu he => by
    split at he
    · next r k hrun =>
      have hk := (State.runningAs_eq hrun).2
      split at he <;> cases he
      · next hlen =>
        refine hu.onCourse (by simp [hk]) (k := { k with items := k.items ++ [item.item] }) (by simpa [Config.maxItems] using hlen)
          (st := u.ptc.state) (hu.course.mp (by simp [hk])) (o := u.ptc.owner) fun hst hsent => hu.claim hst fun j hj => ?_
        rw [hk] at hj
        exact Option.some.inj hj ▸ hsent
      · exact hu
    · cases he; exact hu

theorem execMeasureDone_sound (h : execMeasureDone s = .next t) (hs : s.ptc.Sound) : t.ptc.Sound :=
  State.takeReport_sound h hs fun u hu he => by
    split at he
    · next r k hr hk =>
      split at he <;> cases he
      · exact hu.onCourse (by simp [hk]) (k := { k with pending := some (judge k.items) }) (hu.items k hk) (st := .transferBack) rfl
          (o := u.ptc.owner) nofun
      · exact hu
    · cases he; exact hu

/-! ## The directives -/

theorem State.testRequest_sound (o : Origin) (params : List Octet) (h : s.ptc.Sound) : (s.testRequest o params).KeepsPtc := by
  unfold testRequest
  split
  · exact .refuse h _
  · next f hf =>
    split
    · exact .refuse h _
    · split
      · exact .refuse h _
      · next hroom =>
        split
        · exact .refuse h _
        · next hdup =>
          have hroom : s.ptc.requests.length < 8 := Nat.lt_of_not_le hroom
          refine .doneWith (select_sound (h.insert hroom rfl (freshId_fresh h.next (by simpa [Config.maxRequests] using hroom.le) (by simp [Config.maxRequests]))
            (freshId_range _ _ h.next) fun q hq hk => hdup ?_)) _
          exact List.any_eq_true.mpr ⟨q, hq, by simpa using hk⟩

theorem State.testAbort_sound (params : List Octet) (h : s.ptc.Sound) : (s.testAbort params).KeepsPtc := by
  unfold testAbort
  split
  · exact .refuse h _
  · split
    · exact .refuse h _
    · next r hr =>
      unfold abort
      split
      · next hw => exact .doneWith (endQueued_sound h (PairTest.record_mem hr) hw) _
      · exact .doneWith (earlyEnding_sound h) _

/-- TEST_SUSPEND is kept pending while a request runs. -/
theorem State.testSuspend_sound (h : s.ptc.Sound) : s.testSuspend.ptc.Sound := by
  have hpending (hbusy : s.ptc.state.busy = true) : ({ s.ptc with suspendPending := true } : PairTest).Sound :=
    { h.inOrder.of_same (y := { s.ptc with suspendPending := true }) rfl rfl rfl ⟨rfl, rfl⟩ with
      course := h.course, running := h.running, owner := h.owner, claim := h.claim, suspend := fun _ => h.course.mpr hbusy, items := h.items }
  unfold testSuspend
  split
  · next hidle =>
    have hfreed := h.freed (h.course_none (by simp [hidle, ControllerState.busy]))
    refine workDemand_sound (PairTest.Freed.rests (x := { s.ptc with state := .suspended })
      { hfreed with inOrder := hfreed.inOrder.of_same rfl rfl rfl ⟨rfl, rfl⟩ } rfl ?_)
    by_contra hsuspend
    simpa [hfreed.course] using h.suspend (by simpa using hsuspend)
  · exact h
  all_goals next hst => exact workDemand_sound (hpending (by simp [hst, ControllerState.busy]))

theorem State.testResume_sound (h : s.ptc.Sound) : s.testResume.ptc.Sound := by
  unfold testResume
  split
  · next hst =>
    have hfreed := h.freed (h.course_none (by simp [hst, ControllerState.busy]))
    refine select_sound (PairTest.Freed.rests (x := { s.ptc with state := .idle })
      { hfreed with inOrder := hfreed.inOrder.of_same rfl rfl rfl ⟨rfl, rfl⟩ } rfl ?_)
    by_contra hsuspend
    simpa [hfreed.course] using h.suspend (by simpa using hsuspend)
  all_goals
    exact workDemand_sound
      { h.inOrder.of_same (y := { s.ptc with suspendPending := false }) rfl rfl rfl ⟨rfl, rfl⟩ with
        course := h.course, running := h.running, owner := h.owner, claim := h.claim, suspend := nofun, items := h.items }

theorem State.testbusClear_sound (h : s.ptc.Sound) : s.testbusClear.KeepsPtc := by
  unfold testbusClear
  split
  · exact .refuse h _
  · split
    · exact .refuse h _
    · refine .doneWith (select_sound ?_) _
      exact h.of_same { h.inOrder with blocked := by simp } rfl rfl rfl rfl rfl

/-! ## The writes that bring a selection (R105, R187) -/

theorem State.expireOverdue_sound (h : s.ptc.Sound) : s.expireOverdue.ptc.Sound := by
  have hfold (rs : List Request) (u : State) (hu : u.ptc.Sound) (hrs : ∀ r ∈ rs, r ∈ u.ptc.requests ∧ r.status = .waiting)
      (ids : (rs.map (·.id)).Nodup) : (rs.foldl (fun s r => s.endQueued r .expired none) u).ptc.Sound := by
    induction rs generalizing u with
    | nil => exact hu
    | cons r rest ih =>
      obtain ⟨hfirst, hids⟩ := List.nodup_cons.mp ids
      obtain ⟨⟨hr, hw⟩, hrest⟩ := List.forall_mem_cons.mp hrs
      refine ih _ (endQueued_sound hu hr hw) (fun q hq => ⟨?_, (hrest q hq).2⟩) hids
      have hne : q.id ≠ r.id := fun hid => hfirst (by simpa [← hid] using List.mem_map_of_mem (f := (·.id)) hq)
      exact (u.endQueued_requests r .expired none).1 ▸ List.mem_filter.mpr ⟨(hrest q hq).1, by simpa using hne⟩
  refine hfold _ s h (fun r hr => ?_) (h.ids.sublist (List.filter_sublist.map _))
  obtain ⟨hmem, hp⟩ := List.mem_filter.mp hr
  exact ⟨hmem, by simpa using (Bool.and_eq_true_iff.mp hp).1⟩

theorem State.subWrite_sound (params : List Octet) (h : s.ptc.Sound) : (s.subWrite params).KeepsPtc := by
  unfold subWrite
  split
  · exact .refuse h _
  · split
    · exact .refuse h _
    · split
      · exact .refuse h _
      · next p hp v hv =>
        refine .doneWith (select_sound ?_) _
        split <;> split <;> simpa [cutBuckets, newIdleDoze, apply_ite State.ptc] using h

theorem State.settingsWritten_sound (numbers : List Nat) (g : Settings) (h : s.ptc.Sound) : (s.settingsWritten numbers g).ptc.Sound := by
  unfold settingsWritten
  dsimp only
  have hexpire (b : Prop) [Decidable b] (u : State) (hu : u.ptc.Sound) : (if b then u.expireOverdue else u).ptc.Sound := by
    split
    · exact expireOverdue_sound hu
    · exact hu
  have htrigger : (if anyIn 97 101 numbers then State.trigger { s with settings := g } else { s with settings := g }).ptc.Sound := by
    split <;> simpa using h
  have hexpired := hexpire (g.testWaitLimit < s.settings.testWaitLimit) _ htrigger
  split <;> split <;> split <;> simpa [cutCounts] using hexpired

theorem State.setWrite_sound (params : List Octet) (h : s.ptc.Sound) : (s.setWrite params).KeepsPtc := by
  unfold setWrite
  split
  · exact .refuse h _
  · split
    · exact .doneWith (settingsWritten_sound _ _ h) _
    · exact .refuse h _

/-! ## O12: the steps -/

/-- A command that may change the controller keeps it sound. -/
theorem exec_ptc_sound {c : Instr} (hc : movesPtc c = true) (h : exec c s = .next t) (hs : s.ptc.Sound) : t.ptc.Sound := by
  cases c with
  | testRequest o params => cases h; exact State.direct_sound hs fun u hu => State.testRequest_sound o params hu
  | portReport p st held phase => exact execPortReport_sound h hs
  | granted id => exact execGranted_sound h hs
  | denied id => exact execDenied_sound h hs
  | outDone => exact execOutDone_sound h hs
  | outFailed => exact execOutFailed_sound h hs
  | backDone => exact execBackDone_sound h hs
  | released id => exact execReleased_sound h hs
  | waitDeadlineExpiry id => exact execWaitDeadlineExpiry_sound h hs
  | portDisabledReport id => exact execPortDisabledReport_sound h hs
  | portHeldReport id reason => exact execPortHeldReport_sound h hs
  | mismatchReport p closed => exact execMismatchReport_sound h hs
  | busShed => cases h; exact State.earlyEnding_sound (hs.mark true)
  | busAdmit => cases h; exact State.select_sound (hs.mark false)
  | measurementItem item => exact execMeasurementItem_sound h hs
  | measureDone => exact execMeasureDone_sound h hs
  | testAbort o params => cases h; exact State.direct_sound hs fun u hu => State.testAbort_sound params hu
  | testSuspend o params => cases h; exact State.direct_sound hs fun u hu => .doneWith (State.testSuspend_sound hu) _
  | testResume o params => cases h; exact State.direct_sound hs fun u hu => .doneWith (State.testResume_sound hu) _
  | testbusClear o params => cases h; exact State.direct_sound hs fun u hu => State.testbusClear_sound hu
  | subWrite o params => cases h; exact State.direct_sound hs fun u hu => State.subWrite_sound params hu
  | setWrite o params => cases h; exact State.direct_sound hs fun u hu => State.setWrite_sound params hu
  | _ => cases hc

theorem PairTest.afterReset_sound : PairTest.afterReset.Sound := by
  constructor <;> simp [PairTest.afterReset, ControllerState.busy]

/-- The other commands do not change the controller. -/
theorem Change.ptc_eq {W : Prop} {x y : Debt × State} (hW : ¬W) (h : Change W x y) : y.2.ptc = x.2.ptc := by
  cases h
  case ptc w _ => exact absurd w hW
  all_goals simp

theorem step_ptc_sound (h : step s = .next t) (hs : s.ptc.Sound) : t.ptc.Sound := by
  rcases step_cases h with rfl | ⟨c, rest, -, h⟩
  · exact hs
  · cases hreset : isReset c with
    | false =>
      cases hc : movesPtc c with
      | true => exact exec_ptc_sound hc h hs
      | false =>
        have hsame := (exec_run hreset h).keeps (fun x => x.2.ptc = s.ptc) (fun _ _ hchange hx => (hchange.ptc_eq (by simp [hc])).trans hx) rfl
        exact hsame ▸ hs
    | true =>
      cases c with
      | powerOnReset straps => cases h; exact PairTest.afterReset_sound
      | directedReset =>
        rcases execDirectedReset_cases h with rfl | rfl | ⟨limit, rfl⟩
        · exact hs
        · exact PairTest.afterReset_sound
        · exact PairTest.afterReset_sound
      | _ => cases hreset

/-- Settles O12: each operation keeps the request list and what runs together, and a latched condition always finds a place for its record. -/
theorem theListsStaySound : Obligations.TheListsStaySound := fun _ _ h =>
  ⟨step_ptc_sound h, step_agent_sound h, fun _ hagent hlatches => (step_listed h ⟨hagent, hlatches⟩).2⟩

end Sys2Proof.Machine
end

section
/-! The obligations on resets: O3, O4, O5. -/

namespace Sys2Proof.Machine

variable {s t : State}

/-! ## O3: POWER_ON_RESET -/

/-- No queue, area or source holds anything after a reset. -/
theorem State.powerOn_empty (straps : BitVec 16) (s : State) :
    (∀ q, (s.powerOn straps).queue q = []) ∧ (∀ a, (s.powerOn straps).areaHeld a = 0) ∧ ∀ src, (s.powerOn straps).reception src = none := by
  refine ⟨fun q => ?_, fun a => ?_, fun src => ?_⟩
  · cases q <;> simp [queue, powerOn, Buffer.afterReset, PortQueues.empty]
  · cases a <;> rfl
  · cases src <;> simp [reception, powerOn, Classifier.restarted, Classifier.afterReset]

/-- The header of a craft frame in reception is awaited after a reset (R62). -/
theorem Classifier.headerOwed_eq (s : State) : s.fcl.headerOwed = s.owesCraftHeader := by
  unfold headerOwed State.owesCraftHeader State.reception
  cases s.fcl.rxCraft with
  | none => rfl
  | some r => cases hr : r.header <;> simp [hr]

/-- Settles O3: the reset values, field by field. -/
theorem powerOnResetStartsAfresh : Obligations.PowerOnResetStartsAfresh := by
  intro straps s
  obtain ⟨hqueue, hheld, hreception⟩ := s.powerOn_empty straps
  refine ⟨s.powerOn straps, rfl, fun p => ?_, rfl, rfl, rfl, rfl, hqueue, hheld, hreception, Classifier.headerOwed_eq s, fun p => ⟨?_, ?_⟩, ?_⟩
  · exact Row.get_mapEach _ s.ports p
  · exact Row.get_all _ p
  · exact Row.get_all _ p
  · have hall {n : Nat} {α : Type} (a : α) (i : Fin n) : (Row.all a : Row n α).get i = a := Row.get_all a i
    simp [State.powerOn, State.reset, Classifier.restarted, Classifier.afterReset, Buffer.afterReset, Share.afterReset, Scheduler.afterReset,
      PairTest.afterReset, Measurement.afterReset, Watch.afterReset, WatchRecord.afterReset, Supervisor.afterReset, ContactRecord.afterReset,
      Budget.afterReset, Agent.afterPowerOn, FaultRecord.powerOn, State.sub, hall]

/-! ## O4: DIRECTED_RESET -/

/-- A place for a new record is found among records that are all inactive, and only for one of 24 does another go (R183). -/
theorem faultPlace_inactive {log : List FaultRecord} (inactive : ∀ r ∈ log, r.active = false) (kind : FaultKind) :
    ∃ kept, faultPlace log kind = some (kept, 0) ∧ (∀ f ∈ kept, f ∈ log) ∧ (log.length < 24 → kept = log) := by
  unfold faultPlace
  by_cases hroom : log.length < Config.maxFaults
  · exact ⟨log, if_pos hroom, fun _ => id, fun _ => rfl⟩
  · have hany : (log.any fun r => !r.active) = true := by
      cases log with
      | nil => exact absurd (by simp [Config.maxFaults]) hroom
      | cons r rest => simp [inactive r (.head _)]
    exact ⟨_, by rw [if_neg hroom, if_pos hany], fun f hf => List.mem_of_mem_eraseP hf, fun h => absurd h hroom⟩

/-- RESTART raised in a log whose records are all inactive (R183, R191). -/
theorem Agent.raise_restart {a : Agent} (inactive : ∀ r ∈ a.faults, r.active = false) (lost : a.faultsLost = 0) (uptime : Nat) :
    let b := (a.raise .cabinet .restart (some .directed) uptime).1
    (∃ r ∈ b.faults, r.source = .cabinet ∧ r.kind = .restart ∧ r.restartCause = some .directed ∧ r.last = uptime) ∧
      (∀ r ∈ b.faults, r.active = false) ∧
      (∀ f ∈ a.faults, f.kind ≠ .restart → a.faults.length < 24 ∨ (∃ g ∈ a.faults, g.source = .cabinet ∧ g.kind = .restart) → f ∈ b.faults) ∧
      b.faultsLost = 0 := by
  unfold Agent.raise
  split
  · next r hfind =>
    obtain ⟨hsource, hkind⟩ := r.hasKey_iff.mp (List.find?_some hfind)
    have hmem := List.mem_of_find?_eq_some hfind
    refine ⟨⟨_, List.mem_map_of_mem hmem, ?_⟩, fun f hf => ?_, fun f hf hne _ => ?_, lost⟩
    · simp [List.find?_some hfind, FaultRecord.again, hsource, hkind]
    · obtain ⟨g, hg, rfl⟩ := List.mem_map.mp hf
      split
      · next hkey => simp [FaultRecord.again, (g.hasKey_iff.mp hkey).2]
      · exact inactive g hg
    · exact List.mem_map.mpr ⟨f, hf, if_neg fun hkey => hne (f.hasKey_iff.mp hkey).2⟩
  · next hnone =>
    obtain ⟨kept, hplace, hsub, hkept⟩ := faultPlace_inactive inactive .restart
    rw [hplace]
    refine ⟨⟨_, List.mem_append_right _ (.head _), rfl, rfl, rfl, rfl⟩, fun f hf => ?_, fun f hf _ hor => List.mem_append_left _ ?_, by simp [lost, bump]⟩
    · rcases List.mem_append.mp hf with hf | hf
      · exact inactive f (hsub f hf)
      · rw [List.mem_singleton.mp hf]
        rfl
    · rcases hor with hlen | ⟨g, hg, hkey⟩
      · exact hkept hlen ▸ hf
      · exact absurd (g.hasKey_iff.mpr hkey) (List.find?_eq_none.mp hnone g hg)

/-- The Port Record a directed reset leaves, field by field (R2, R9). -/
theorem PortRecord.directed_eq (n : Nat) (r : PortRecord) : r.directed n =
    { state := .disabled, orderOn := false, rates := none, causes := ⟨false, false, false⟩, wakePending := false, position := .normal
      transfer := some (if r.testClosedCmd then ⟨.restoring, .gap, n + 10000⟩ else ⟨.restoring, .settle, n + 15000⟩)
      heldOrder := none, held := ⟨false, false⟩, testRef := none, returnTarget := none, idleTimer := none
      counters := ⟨0, 0, 0, 0, 0, 0, 0, 0⟩, lineClosedCmd := !r.testClosedCmd, testClosedCmd := false
      lineClosedSense := r.lineClosedSense, testClosedSense := r.testClosedSense } := by
  unfold PortRecord.directed
  cases hcmd : r.testClosedCmd <;> rfl

/-- The reset comes at the end of its wait (R191). -/
theorem execDirectedReset_at (h : s.mga.resetWait = .over ∨ ∃ limit, s.mga.resetWait = .placed limit) :
    ∃ n, s.now ≤ n ∧ (∀ limit, s.mga.resetWait = .placed limit → limit ≤ n) ∧
      exec .directedReset s = .next (State.directed { s with now := n }) := by
  rcases h with h | ⟨limit, h⟩
  · exact ⟨s.now, le_rfl, fun limit hl => by simp [h] at hl, by simp [exec, execDirectedReset, h]⟩
  · refine ⟨max s.now limit, le_max_left _ _, fun l hl => ?_, by simp [exec, execDirectedReset, h, State.reach]⟩
    have hl : limit = l := by simpa [h] using hl
    exact hl ▸ le_max_right _ _

/-- Settles O4: the reset values, and what a raise of RESTART makes of the records that are kept. -/
theorem directedResetKeepsWhatR191Keeps : Obligations.DirectedResetKeepsWhatR191Keeps := by
  refine ⟨fun s hwait => ?_, fun s hwait => ⟨s.taken .directedReset, ?_, fun part hp => ?_⟩⟩
  · obtain ⟨n, hnow, hlimit, hexec⟩ := execDirectedReset_at hwait
    have hraise := Agent.raise_restart (a := { Agent.afterPowerOn s.mga.cabinet with
      faults := s.mga.faults.map fun r => { r with active := false }
      notices := [{ notice := .restart .directed, uptime := State.uptime { s with now := n } }], destination := s.mga.destination })
      (fun r hr => by obtain ⟨f, -, rfl⟩ := List.mem_map.mp hr; rfl) rfl (State.uptime { s with now := n })
    obtain ⟨hrestart, hinactive, hkept, hlost⟩ := hraise
    have hmga : (State.directed { s with now := n }).mga = s.mga.restarted (State.uptime { s with now := n }) := rfl
    refine ⟨_, hexec, hnow, hlimit, rfl, ?_⟩
    rw [hmga, Agent.restarted]
    rw [Agent.raise_eq]
    refine ⟨rfl, rfl, rfl, hrestart, hinactive, fun f hf hne hor => ?_, rfl, rfl, rfl, rfl, rfl, rfl, rfl, rfl, rfl, rfl, hlost, rfl, rfl,
      fun p => ?_, fun p => ⟨Row.get_all _ p, Row.get_all _ p⟩, rfl, rfl, rfl, rfl, rfl, rfl, rfl, rfl, fun src => ?_, ?_, rfl, rfl, rfl, rfl,
      rfl, rfl, rfl, rfl, rfl, State.directed_sub _⟩
    · refine hkept _ (List.mem_map_of_mem hf) hne (hor.imp (fun hlen => by simpa using hlen) fun ⟨g, hg, hkey⟩ => ?_)
      exact ⟨_, List.mem_map_of_mem hg, hkey⟩
    · have hport : (State.directed { s with now := n }).port p = (s.port p).directed n := Row.get_mapEach _ _ p
      exact hport.trans (PortRecord.directed_eq n (s.port p))
    · cases src <;> simp [State.reception, State.directed, Classifier.restarted, Classifier.afterReset]
    · rw [← Classifier.headerOwed_eq]
      rfl
  · rcases hwait with h | h <;> simp [exec, execDirectedReset, h]
  · cases part <;> simp_all [Part.Same]

/-! ## O5: the condition right after reset -/

/-- The reset state is what a power-on reset makes of it. -/
theorem State.reset_powerOn : State.reset.powerOn 0#16 = State.reset := by
  have hports : (State.reset.ports.mapEach fun _ r => r.powerOn) = State.reset.ports :=
    Row.ext fun p => by rw [Row.get_mapEach]; simp [State.reset, PortRecord.powerOn, PortRecord.afterReset]
  unfold powerOn
  rw [hports]
  rfl

/-- Settles O5: what a power-on reset meets from any state, the reset state meets. -/
theorem resetMeetsTheInvariants : Obligations.ResetMeetsTheInvariants := by
  have hport (p : Port) : State.reset.port p = (State.reset.port p).powerOn := by
    simp [State.port, State.reset, PortRecord.powerOn, PortRecord.afterReset]
  have hlisted : Listed State.reset := State.reset_powerOn ▸ State.reset.powerOn_listed 0#16
  obtain ⟨hsettings, hsub, hconfig⟩ := default_parametersLegal
  refine ⟨fun p => hport p ▸ (State.reset.port p).powerOn_relaysFollow, fun p => hport p ▸ (State.reset.port p).powerOn_sound,
    oneOnBus_of_none (fun p => ?_) fun p => ?_, State.reset.fcl.restarted_sound,
    reset_balance (s := State.reset) (k := 0) (n := 0) (b := false) rfl rfl rfl, ?_, reset_grantsFit rfl rfl, PairTest.afterReset_sound,
    hlisted.1, hlisted.2, rfl, ⟨hsettings, fun p => by simpa [State.sub, State.reset, Agent.afterPowerOn] using hsub, hconfig⟩⟩
  · rw [hport]; nofun
  · rw [hport]; rfl
  · exact fun p hp => reset_quietPort (n := 0) (b := false) rfl rfl rfl p

end Sys2Proof.Machine
end

section
/-! SUPPORT for the obligations on line ports: what a change of one port reaches, the messages it sends, the notice it raises, and what a return to
service makes of a record. -/

namespace Sys2Proof.Machine

variable {s t u : State} {p q : Port} {r : PortRecord}

/-! ## Changes of one line port -/

theorem OnlyIn.mono {l m : List Part} (h : OnlyIn l s t) (sub : l ⊆ m) : OnlyIn m s t := fun part hp => h part fun hl => hp (sub hl)

theorem OtherPorts.refl (p : Port) (s : State) : OtherPorts p s s := fun _ _ => rfl

theorem OtherPorts.trans (h : OtherPorts p s t) (k : OtherPorts p t u) : OtherPorts p s u := fun q hq => (k q hq).trans (h q hq)

theorem LineChange.refl (p : Port) (s : State) : LineChange p s s := ⟨.refl p s, .refl s, .refl _ s⟩

theorem LineChange.trans (h : LineChange p s t) (k : LineChange p t u) : LineChange p s u :=
  ⟨h.1.trans k.1, h.2.1.trans k.2.1, h.2.2.trans k.2.2⟩

theorem State.changePort_lineChange (p : Port) (r : PortRecord) (s : State) (e : Bool) : LineChange p s (s.changePort p r e) :=
  ⟨fun q hq => by rw [port_changePort, if_neg hq], s.reported_changePort p r e, fun part hp => by cases part <;> simp_all [Part.Same]⟩

theorem State.post_lineChange (p : Port) (m : Instr) (s : State) : LineChange p s (s.post m) :=
  ⟨.refl p s, .refl s, fun part hp => by cases part <;> simp_all [Part.Same]⟩

theorem State.taken_lineChange (p : Port) (m : Instr) (s : State) : LineChange p s (s.taken m) :=
  ⟨.refl p s, .refl s, fun part hp => by cases part <;> simp_all [Part.Same]⟩

theorem State.trigger_lineChange (p : Port) (s : State) : LineChange p s s.trigger :=
  ⟨fun q _ => by simp [State.port], reported_of_fields (by simp) (by simp) (by simp) (by simp) (by simp) (by simp) (by simp) (by simp) (by simp)
    (by simp) (by simp) (by simp) (by simp), fun part hp => by cases part <;> simp_all [Part.Same]⟩

theorem State.modifyPort_lineChange (p : Port) (f : PortRecord → PortRecord) (s : State) : LineChange p s (s.modifyPort p f) :=
  ⟨fun q hq => Row.get_modify_ne _ _ hq, .refl s, fun part hp => by cases part <;> simp_all [Part.Same]⟩

theorem State.raiseFault_lineChange (p : Port) (src : FaultSource) (kind : FaultKind) (s : State) : LineChange p s (s.raiseFault src kind) :=
  ⟨fun q _ => by simp [State.port], s.reported_raiseFault src kind none, fun part hp => by cases part <;> simp_all [Part.Same]⟩

/-! ## The messages of a change (R4, R102) -/

theorem State.installPort_mail (p : Port) (r : PortRecord) (s : State) : (s.installPort p r).mail = s.mail := by simp

/-- A change of a record reports the state when that changes, and asks for an evaluation when the load does. -/
theorem State.mail_changePort (p : Port) (r : PortRecord) (s : State) (e : Bool) :
    (s.changePort p r e).mail = s.mail ++ (if (s.port p).state = r.state then [] else [.portReport p r.state r.held.any r.phase]) ++
      (if (s.port p).load = r.load ∨ (e = true ∧ r.load = .demanding) then [] else [.evaluation]) := by
  unfold changePort
  dsimp only
  split <;> split <;> simp

/-! ## Notices (R185) -/

/-- With no destination known a notice only enters the queue. -/
theorem State.raiseNotice_mga (s : State) (n : Notice) (h : s.mga.destination = none) :
    (s.raiseNotice n).mga = if s.noticeEnabled n.kind then s.mga.queueNotice { notice := n, uptime := s.uptime } else s.mga := by
  have hdest : (s.mga.queueNotice { notice := n, uptime := s.uptime }).destination = none := by
    unfold Agent.queueNotice
    dsimp only
    split <;> exact h
  unfold raiseNotice
  split
  · unfold tryNoticeFrame
    rw [hdest]
  · rfl

/-- The queue with one more notice, while it has room. -/
theorem Agent.queueNotice_notices (item : NoticeItem) (a : Agent) (h : a.notices.length < 32) :
    (a.queueNotice item).notices = a.notices ++ [item] := by
  unfold queueNotice
  simp [Config.maxNotices, h]

/-- A notice that is raised stands in the queue. -/
theorem State.mem_raiseNotice (s : State) (n : Notice) (enabled : s.noticeEnabled n.kind = true) (h : s.mga.destination = none)
    (room : s.mga.notices.length < 32) : (⟨n, s.uptime⟩ : NoticeItem) ∈ (s.raiseNotice n).mga.notices := by
  rw [raiseNotice_mga s n h, if_pos enabled, Agent.queueNotice_notices _ _ room]
  exact List.mem_append_right _ (.head _)

theorem State.length_raiseNotice (s : State) (n : Notice) (h : s.mga.destination = none) (room : s.mga.notices.length < 32) :
    (s.raiseNotice n).mga.notices.length ≤ s.mga.notices.length + 1 := by
  rw [raiseNotice_mga s n h]
  split
  · rw [Agent.queueNotice_notices _ _ room]
    simp
  · omega

/-- The watches of a pair raise at most one notice when they are worked out again. -/
theorem State.length_rewatch (p : Port) (s : State) (h : s.mga.destination = none) (room : s.mga.notices.length < 32) :
    (s.rewatch p).mga.notices.length ≤ s.mga.notices.length + 1 := by
  have hreport (u : State) (hd : u.mga.destination = none) (hn : u.mga.notices = s.mga.notices) :
      (u.reportLevel p).mga.notices.length ≤ s.mga.notices.length + 1 := by
    unfold reportLevel
    dsimp only
    split
    · rw [hn]; omega
    · refine le_trans (length_raiseNotice _ _ ?_ ?_) ?_
      · exact hd
      · exact hn ▸ room
      · exact hn ▸ le_rfl
  unfold rewatch
  dsimp only
  split
  · split
    · exact hreport _ (by simpa using h) (by simp)
    · exact hreport _ (by simpa using h) (by simp)
  · simp

/-- A change of state raises PORT_STATE (R4, R185). -/
theorem State.changePort_noticed (p : Port) (r : PortRecord) (s : State) (hstate : (s.port p).state ≠ r.state)
    (enabled : s.noticeEnabled .portState = true) (h : s.mga.destination = none) (room : s.mga.notices.length ≤ 30) :
    (⟨.portState p r.state r.causes r.held r.wakePending, s.uptime⟩ : NoticeItem) ∈ (s.changePort p r).mga.notices := by
  have hlen := length_rewatch p (s.installPort p r) (by simpa using h) (by simpa using Nat.lt_of_le_of_lt room (by omega))
  simp only [installPort_frame] at hlen
  have hraise (v : State) (hv : v.mga = ((s.installPort p r).rewatch p).mga) (hset : v.settings = s.settings) (hnow : v.now = s.now) :
      (⟨.portState p r.state r.causes r.held r.wakePending, s.uptime⟩ : NoticeItem) ∈
        (v.raiseNotice (.portState p r.state r.causes r.held r.wakePending)).mga.notices := by
    have hup : v.uptime = s.uptime := by simp [uptime, hnow]
    exact hup ▸ mem_raiseNotice v _ (by rw [noticeEnabled, hset]; exact enabled) (by simpa [hv] using h) (by rw [hv]; omega)
  unfold changePort
  dsimp only
  rw [if_neg hstate, if_neg hstate]
  split
  · exact hraise _ rfl (by simp) (by simp)
  · exact hraise _ rfl (by simp) (by simp)

end Sys2Proof.Machine
end

section
/-! SUPPORT for the obligations on the power budget: the load list, its order, the walk over it, and the decisions an evaluation sends (R170 to R173). -/

namespace Sys2Proof.Machine

variable {s t u : State} {c : Option Port} {w : LoadWant}

/-! ## The load list (R170) -/

/-- The place of a load among those of its rank (R170). -/
def LoadId.place : LoadId → Nat
  | .heater => 0
  | .testBus => 1
  | .port p => 2 + p.val

theorem LoadId.place_injective {k l : LoadId} (h : k.place = l.place) : k = l := by
  cases k <;> cases l <;> simp [place] at h ⊢
  case heater.port => omega
  case testBus.port => omega

  case port.testBus => omega
  case port.port => exact Fin.ext (by omega)

theorem State.portWant_load {p : Port} (h : s.portWant c p = some w) : w.load = .port p := by
  unfold portWant at h
  dsimp only at h
  split at h
  · cases h; rfl
  · split at h <;> cases h <;> rfl

/-- The loads that want power stand in the order of their places. -/
theorem State.wants_places (s : State) (c : Option Port) : (s.wants c).Pairwise fun x y => x.load.place < y.load.place := by
  have hports : (allPorts.filterMap (s.portWant c)).Pairwise fun x y => x.load.place < y.load.place := by
    rw [List.pairwise_filterMap]
    refine (List.pairwise_lt_finRange 16).imp fun {a b} hab x hx y hy => ?_
    rw [portWant_load hx, portWant_load hy]
    simpa [LoadId.place] using hab
  have hportPlace (x : LoadWant) (hx : x ∈ allPorts.filterMap (s.portWant c)) : 2 ≤ x.load.place := by
    obtain ⟨p, -, hp⟩ := List.mem_filterMap.mp hx
    rw [portWant_load hp]
    exact Nat.le_add_right 2 _
  have hheater (x : LoadWant) (hx : x ∈ s.heaterWant.toList) : x.load = .heater := by
    unfold heaterWant at hx
    split at hx
    · rw [List.mem_singleton.mp hx]
    · cases hx
  have hbus (x : LoadWant) (hx : x ∈ s.busWant.toList) : x.load = .testBus := by
    unfold busWant at hx
    split at hx
    · rw [List.mem_singleton.mp hx]
    · cases hx
  have hsingle (o : Option LoadWant) : o.toList.Pairwise fun x y => x.load.place < y.load.place := by cases o <;> simp
  unfold wants
  rw [List.append_assoc]
  refine List.pairwise_append.mpr ⟨hsingle _, List.pairwise_append.mpr ⟨hsingle _, hports, fun x hx y hy => ?_⟩, fun x hx y hy => ?_⟩
  · rw [hbus x hx]
    exact Nat.lt_of_lt_of_le (by decide) (hportPlace y hy)
  · rw [hheater x hx]
    rcases List.mem_append.mp hy with hy | hy
    · rw [hbus y hy]; decide
    · exact Nat.lt_of_lt_of_le (by decide) (hportPlace y hy)

theorem State.mem_loadList : w ∈ s.loadList c ↔ w ∈ s.wants c ∧ w.rank ≤ 7 := by
  unfold loadList
  simp only [List.mem_flatMap, List.mem_filter, beq_iff_eq]
  constructor
  · rintro ⟨k, hk, hw, hr⟩
    refine ⟨hw, ?_⟩
    simp at hk
    omega
  · intro ⟨hw, hr⟩
    exact ⟨w.rank, by simp; omega, hw, rfl⟩

/-- Keep order: by rank, and within a rank by place (R170). -/
theorem State.loadList_ordered (s : State) (c : Option Port) :
    (s.loadList c).Pairwise fun x y => y.rank < x.rank ∨ (y.rank = x.rank ∧ x.load.place < y.load.place) := by
  unfold loadList
  refine List.pairwise_flatMap.mpr ⟨fun k _ => ?_, ?_⟩
  · refine (List.Pairwise.sublist List.filter_sublist (s.wants_places c)).imp_of_mem fun {x y} hx hy hxy => .inr ⟨?_, hxy⟩
    have hx := (List.mem_filter.mp hx).2
    have hy := (List.mem_filter.mp hy).2
    simp_all
  · have hdown : [7, 6, 5, 4, 3, 2, 1, 0].Pairwise fun a b : Nat => b < a := by decide
    refine hdown.imp fun {a b} hab x hx y hy => .inl ?_
    have hx := (List.mem_filter.mp hx).2
    have hy := (List.mem_filter.mp hy).2
    simp_all

/-- Every load stands once in the list. -/
theorem State.loadList_nodup (s : State) (c : Option Port) : ((s.loadList c).map (·.load)).Nodup := by
  refine List.pairwise_map.mpr ((s.loadList_ordered c).imp_of_mem fun {x y} hx hy hxy hload => ?_)
  have hinj : x = y := by
    by_contra hne
    have hsymm : Std.Symm fun x y : LoadWant => x.load ≠ y.load := ⟨fun _ _ h k => h k.symm⟩
    have hwants : (s.wants c).Pairwise fun x y => x.load ≠ y.load := (s.wants_places c).imp fun hlt hl => by simp [hl] at hlt
    exact hwants.forall (mem_loadList.mp hx).1 (mem_loadList.mp hy).1 hne hload
  subst hinj
  omega

/-! ## The walk (R171) -/

/-- What the walk keeps of a load. -/
def LoadEntry.want (x : LoadEntry) : LoadWant := { load := x.load, reserved := x.reserved, power := x.power, rank := x.rank }

theorem walkLoads_wants (ws : List LoadWant) (n : Nat) (m : Bool) : (walkLoads ws n m).map LoadEntry.want = ws := by
  induction ws generalizing n m with
  | nil => rfl
  | cons w ws ih =>
    unfold walkLoads
    split <;> rw [List.map_cons, ih] <;> rfl

theorem State.evaluationNow_nodup (s : State) (c : Option Port) : ((s.evaluationNow c).entries.map (·.load)).Nodup := by
  have hwants : (s.evaluationNow c).entries.map LoadEntry.want = s.loadList c := walkLoads_wants _ _ _
  have hnodup := s.loadList_nodup c
  rw [← hwants, List.map_map] at hnodup
  exact hnodup

/-! ## Decisions handed on (R173) -/

theorem Budget.sent_setSent (l k : LoadId) (d : Option Decision) (b : Budget) : (b.setSent l d).sent k = if k = l then d else b.sent k := by
  cases l <;> cases k <;> simp [setSent, sent, Row.get_set]

/-- A decision handed on is the last one sent for its load, and no other load's changes. -/
theorem State.handOn_sent (c : Option Port) (x : LoadEntry) (s : State) (l : LoadId) :
    (s.handOn c x).pbu.sent l = if l = x.load then some x.decision else s.pbu.sent l := by
  have hset := Budget.sent_setSent x.load l (some x.decision) s.pbu
  unfold handOn
  split
  · next hsame =>
    split
    · next hl => rw [hl, hsame]
    · rfl
  · dsimp only
    rw [← hset]
    split
    · split
      · rfl
      · split <;> simp
    · rfl
    · split <;> simp

theorem foldl_handOn_sent (c : Option Port) (xs : List LoadEntry) (s : State) (nodup : (xs.map (·.load)).Nodup) (l : LoadId) :
    (xs.foldl (fun s x => s.handOn c x) s).pbu.sent l =
      match xs.find? (fun x => x.load == l) with | some x => some x.decision | none => s.pbu.sent l := by
  induction xs generalizing s with
  | nil => rfl
  | cons x rest ih =>
    obtain ⟨hfirst, hrest⟩ := List.nodup_cons.mp nodup
    rw [List.foldl_cons, ih _ hrest, State.handOn_sent]
    by_cases hl : x.load = l
    · have hnone : rest.find? (fun y => y.load == l) = none := List.find?_eq_none.mpr fun y hy hyl =>
        hfirst (List.mem_map.mpr ⟨y, hy, (beq_iff_eq.mp hyl).trans hl.symm⟩)
      simp [hl, hnone]
    · simp [hl, Ne.symm hl]

/-- The last decision sent for a load after an evaluation is that of the evaluation, none for a load outside the list (R173). -/
theorem State.evaluate_sent (c : Option Port) (s : State) (l : LoadId) : (s.evaluate c).pbu.sent l = (s.evaluationNow c).decisionFor l := by
  unfold evaluate
  dsimp only
  rw [foldl_handOn_sent c _ _ (s.evaluationNow_nodup c)]
  unfold Evaluation.decisionFor
  split
  · next x hx => rw [hx]; rfl
  · next hnone =>
    rw [hnone]
    have hdrop : (s.pbu.dropAbsent (s.evaluationNow c)).sent l = none := by
      have habsent : (s.evaluationNow c).decisionFor l = none := by rw [Evaluation.decisionFor, hnone]; rfl
      cases l <;> simp [Budget.dropAbsent, Budget.sent, habsent]
    exact hdrop

end Sys2Proof.Machine
end

section
/-! The obligations on line events, phase ends, sense changes, the idle timer and TAKE: O15, O17, O19, O21, O22. -/

namespace Sys2Proof.Machine

variable {s t u : State} {p q : Port} {r : PortRecord}

/-! ## The record a change leaves -/

theorem PortRecord.ordered_off (h : r.state = .disabled ∨ r.state = .doze ∨ r.state = .test ∨ r.state = .held) :
    r.outOfUp.ordered = { r with orderOn := false, rates := none, idleTimer := none } := by
  rcases h with h | h | h | h <;> simp [ordered, outOfUp, h]

theorem PortRecord.ordered_up (h : r.state = .up) : r.outOfUp.ordered = r := by
  cases r
  subst h
  rfl

theorem PortRecord.ordered_training (h : r.state = .training) : r.outOfUp.ordered = { r with rates := none, idleTimer := none } := by
  simp [ordered, outOfUp, h]

theorem PortRecord.ordered_down (h : r.state = .down) : r.outOfUp.ordered =
    { r with orderOn := r.orderOn || (r.position == .normal && r.transfer.isNone), rates := none, idleTimer := none } := by
  simp [ordered, outOfUp, h]

/-- The port's record after a change of it. -/
theorem State.port_changePort_self (p : Port) (r : PortRecord) (s : State) (e : Bool) : (s.changePort p r e).port p = r.outOfUp.ordered := by
  rw [port_changePort, if_pos rfl]

/-- A change of state is told: it is reported, and its notice raised (R4). -/
theorem State.changePort_told (p : Port) (r : PortRecord) (s : State) (hstate : (s.port p).state ≠ r.state) :
    Instr.portReport p r.state r.held.any r.phase ∈ (s.changePort p r).mail ∧
      (s.noticeEnabled .portState = true → s.mga.destination = none → s.mga.notices.length ≤ 30 →
        (⟨.portState p r.state r.causes r.held r.wakePending, s.uptime⟩ : NoticeItem) ∈ (s.changePort p r).mga.notices) := by
  refine ⟨?_, s.changePort_noticed p r hstate⟩
  rw [mail_changePort, if_neg hstate]
  simp

/-! ## O15: line events (R6) -/

theorem bump_eq (n : Nat) : bump n = plusOne n := rfl

/-- A line event's rates, neither of which is 0, are clamped. -/
theorem clampRates_dead (up down : Nat) : (clampRates up down).dead = true ↔ up = 0 ∨ down = 0 := by
  simp [clampRates, Rates.dead, Config.maxRate]

theorem clampRates_eq (up down : Nat) : clampRates up down = ⟨min 1000000 up, min 1000000 down⟩ := rfl

/-- A trigger starts a computation, or finds one that runs. -/
theorem State.trigger_computes (s : State) : s.trigger.scu.computation.isSome := by
  unfold trigger
  split <;> simp_all [startComputation]

/-- A port enters UP with its rates (R3). -/
theorem State.enterUp_spec (p : Port) (rates : Rates) (s : State) (hstate : (s.port p).state ≠ .up) :
    (s.enterUp p rates).port p =
        { s.port p with
          state := .up, rates := some rates
          idleTimer := if (s.sub p).idleDoze = 0 then none else some (s.now + (s.sub p).idleDoze * 1000000) } ∧
      (s.enterUp p rates).scu.computation.isSome ∧
      (Instr.portReport p .up (s.port p).held.any (s.port p).phase ∈ (s.enterUp p rates).mail ∧
        (s.noticeEnabled .portState = true → s.mga.destination = none → s.mga.notices.length ≤ 30 →
          (⟨.portState p .up (s.port p).causes (s.port p).held (s.port p).wakePending, s.uptime⟩ : NoticeItem) ∈ (s.enterUp p rates).mga.notices)) ∧
      LineChange p s (s.enterUp p rates) := by
  unfold enterUp
  dsimp only
  obtain ⟨hmail, hnotice⟩ := s.changePort_told p
    { s.port p with
      state := .up, rates := some rates, idleTimer := if (s.sub p).idleDoze = 0 then none else some (s.now + sec (s.sub p).idleDoze) } hstate
  refine ⟨?_, trigger_computes _, ⟨by simp only [trigger_frame]; exact hmail, by simp only [trigger_frame]; exact hnotice⟩, (changePort_lineChange p _ s false).trans (trigger_lineChange p _)⟩
  simp only [port, trigger_frame]
  exact (port_changePort_self p _ s false).trans (PortRecord.ordered_up rfl)

/-- A port that retrains or loses its link leaves its rates and idle timer and counts a retrain (R3, R6). -/
theorem State.retrain_spec (p : Port) (st : PortState) (s : State) (hon : (s.port p).orderOn = true) (hstate : (s.port p).state ≠ st)
    (hst : st = .down ∨ st = .training) :
    let t := s.changePort p { s.port p with state := st, counters := { (s.port p).counters with retrains := bump (s.port p).counters.retrains } }
    t.port p =
        { s.port p with
          state := st, rates := none, idleTimer := none
          counters := { (s.port p).counters with retrains := plusOne (s.port p).counters.retrains } } ∧
      (Instr.portReport p st (s.port p).held.any (s.port p).phase ∈ t.mail ∧
        (s.noticeEnabled .portState = true → s.mga.destination = none → s.mga.notices.length ≤ 30 →
          (⟨.portState p st (s.port p).causes (s.port p).held (s.port p).wakePending, s.uptime⟩ : NoticeItem) ∈ t.mga.notices)) ∧
      LineChange p s t := by
  refine ⟨?_, s.changePort_told p _ hstate, changePort_lineChange p _ s false⟩
  rw [port_changePort_self]
  rcases hst with rfl | rfl
  · rw [PortRecord.ordered_down rfl]
    simp [hon, bump_eq]
  · rw [PortRecord.ordered_training rfl, bump_eq]

theorem State.replaceRates_spec (p : Port) (rates : Rates) (s : State) :
    (s.replaceRates p rates).port p = { s.port p with rates := some rates } ∧ (s.replaceRates p rates).scu.computation.isSome ∧
      OtherPorts p s (s.replaceRates p rates) ∧ OnlyIn [.ports, .scu] s (s.replaceRates p rates) := by
  refine ⟨?_, trigger_computes _, fun q hq => ?_, fun part hp => ?_⟩
  · simp [replaceRates, port, modifyPort]
  · simp [replaceRates, port, modifyPort, Row.get_modify_ne _ _ hq]
  · cases part <;> simp_all [Part.Same, replaceRates]

/-- Settles O15: each event by the port's state. -/
theorem lineEventsByState : Obligations.LineEventsByState := by
  refine fun p up down s => ⟨fun hoff => ?_, fun hdead => ?_, fun hon hup hdown => ?_⟩
  · simp [exec, execTrainingStarted, execTrained, execRateChanged, execLinkLost, hoff]
  · have hdead := (clampRates_dead up down).mpr hdead
    simp [exec, execTrained, execRateChanged, execLinkLost, hdead]
  · have hlive : (clampRates up down).dead = false := Bool.eq_false_iff.mpr fun h => by have := (clampRates_dead up down).mp h; omega
    have htraining :
        (s.changePort p { s.port p with state := .training }).port p = { s.port p with state := .training, rates := none, idleTimer := none } :=
      (State.port_changePort_self p { s.port p with state := .training } s false).trans (PortRecord.ordered_training rfl)
    refine ⟨fun hst => ⟨⟨_, ?_, htraining, s.changePort_told p { s.port p with state := .training } (by simp [hst]),
          s.changePort_lineChange p _ false⟩, ⟨_, ?_, s.enterUp_spec p (clampRates up down) (by simp [hst])⟩, ?_, ?_⟩,
      fun hst => ⟨?_, ⟨_, ?_, s.enterUp_spec p (clampRates up down) (by simp [hst])⟩, ?_, ⟨_, ?_, s.retrain_spec p .down hon (by simp [hst]) (.inl rfl)⟩⟩,
      fun hst => ⟨⟨_, ?_, s.retrain_spec p .training hon (by simp [hst]) (.inr rfl)⟩, ⟨_, ?_, s.replaceRates_spec p (clampRates up down)⟩,
        ⟨_, ?_, s.replaceRates_spec p (clampRates up down)⟩, ⟨_, ?_, s.retrain_spec p .down hon (by simp [hst]) (.inl rfl)⟩⟩⟩
    all_goals simp [exec, execTrainingStarted, execTrained, execRateChanged, execLinkLost, State.loseLink, hon, hst, hlive]

/-! ## O17, O19: phase ends and sense changes -/

theorem State.port_modifyPort_self (p : Port) (f : PortRecord → PortRecord) (s : State) : (s.modifyPort p f).port p = f (s.port p) :=
  Row.get_modify_self _ _ _

/-- A record changed in place, at a time. -/
theorem State.modifyPort_only (p : Port) (f : PortRecord → PortRecord) (s : State) :
    OtherPorts p s (s.modifyPort p f) ∧ OnlyIn [.ports] s (s.modifyPort p f) :=
  ⟨fun q hq => Row.get_modify_ne _ _ hq, fun part hp => by cases part <;> simp_all [Part.Same]⟩

/-- Another pair's test relay is commanded closed or sensed closed (R8). -/
theorem State.busOccupied_iff (p : Port) (s : State) :
    s.busOccupied p = true ↔ ∃ q, q ≠ p ∧ ((s.port q).testClosedCmd = true ∨ (s.port q).testClosedSense = true) := by
  simp [busOccupied, allPorts]

/-- The make at a GAP's end changes the record alone. -/
theorem execGapEnd_make {ends : Nat} {kind : TransferKind} (h : (s.port p).transfer = some ⟨kind, .gap, ends⟩)
    (opened : (s.port p).opened kind = true) : exec (.gapEnd p) s = .next ((s.reach ends).makeAfterGap p kind) := by
  simp [exec, execGapEnd, h, opened]

theorem modifyPort_reach_only (p : Port) (f : PortRecord → PortRecord) (s : State) (n : Nat) :
    ((s.reach n).modifyPort p f).port p = f (s.port p) ∧ ((s.reach n).modifyPort p f).now = max s.now n ∧
      OtherPorts p s ((s.reach n).modifyPort p f) ∧ OnlyIn [.ports, .now] s ((s.reach n).modifyPort p f) :=
  ⟨Row.get_modify_self _ _ _, rfl, fun _ hq => Row.get_modify_ne _ _ hq, fun part hp => by cases part <;> simp_all [Part.Same]⟩

/-- Settles O17: the make by the transfer's kind and by whether the bus is occupied. -/
theorem gapEndMakes : Obligations.GapEndMakes := by
  intro p ends kind s htransfer
  have hmake (opened : (s.port p).opened kind = true) (f : PortRecord → PortRecord)
      (hf : (s.reach ends).makeAfterGap p kind = (s.reach ends).modifyPort p f) :
      ∃ t, exec (.gapEnd p) s = .next t ∧ t.port p = f (s.port p) ∧ t.now = max s.now ends ∧ OtherPorts p s t ∧ OnlyIn [.ports, .now] s t :=
    ⟨_, hf ▸ execGapEnd_make htransfer opened, modifyPort_reach_only p f s ends⟩
  refine ⟨fun hkind hline hfree => ?_, fun hkind hline hoccupied => ?_, fun hkind htest hrestoring => ?_⟩
  · subst hkind
    have hbus : (s.reach ends).busOccupied p = false := Bool.eq_false_iff.mpr fun h => hfree (((s.reach ends).busOccupied_iff p).mp h)
    obtain ⟨t, ht, hport, hnow, hframe⟩ := hmake (by simp [PortRecord.opened, hline])
      (fun r => { r with testClosedCmd := true, transfer := some ((s.reach ends).settleOf .outward) }) (by simp [State.makeAfterGap, hbus])
    exact ⟨t, ht, by dsimp only; rw [hport, hnow]; rfl, hnow, hframe⟩
  · subst hkind
    have hbus : (s.reach ends).busOccupied p = true := ((s.reach ends).busOccupied_iff p).mpr hoccupied
    obtain ⟨t, ht, hport, hnow, hframe⟩ := hmake (by simp [PortRecord.opened, hline])
      (fun r => { r with lineClosedCmd := true, position := .normal, transfer := some ((s.reach ends).settleOf .turnedRound) })
      (by simp [State.makeAfterGap, hbus])
    exact ⟨t, ht, by dsimp only; rw [hport, hnow]; rfl, hnow, hframe⟩
  · obtain ⟨t, ht, hport, hnow, hframe⟩ := hmake (by cases kind <;> simp_all [PortRecord.opened])
      (fun r => { r with lineClosedCmd := true, transfer := some ((s.reach ends).settleOf kind) })
      (by cases kind <;> simp_all [State.makeAfterGap])
    exact ⟨t, ht, by dsimp only; rw [hport, hnow]; rfl, hnow, hframe⟩

/-- Settles O19: what finds nothing to act on, and a sense that brings no mismatch. -/
theorem senseChangesWithoutAMismatch : Obligations.SenseChangesWithoutAMismatch := by
  refine fun p s => ⟨fun hgap => ?_, fun hsettle => ?_, by simp [exec, execRelaySenseChange, PortRecord.sensed],
    by simp [exec, execRelaySenseChange, PortRecord.sensed], fun b => ⟨fun hb hno => ?_, fun hb hno => ?_⟩⟩
  · unfold exec execGapEnd
    dsimp only
    split
    · next t ht => rw [if_neg (hgap t ht)]
    · rfl
  · unfold exec execSettleEnd
    dsimp only
    split
    · next t ht => rw [if_neg (hsettle t ht)]
    · rfl
  · refine ⟨s.modifyPort p (PortRecord.sense .line b), ?_, s.port_modifyPort_self p _, s.modifyPort_only p _⟩
    have hquiet : ¬((s.port p).transfer.isNone = true ∧ (s.port p).lineClosedCmd ≠ b) := fun ⟨hnone, hcmd⟩ =>
      hno.elim (fun h => h (Option.isNone_iff_eq_none.mp hnone)) fun h => hcmd h.symm
    simp only [exec, execRelaySenseChange, PortRecord.sensed, PortRecord.commanded, Ne.symm hb, if_false, hquiet]
  · refine ⟨s.modifyPort p (PortRecord.sense .test b), ?_, s.port_modifyPort_self p _, s.modifyPort_only p _⟩
    have hquiet : ¬((s.port p).transfer.isNone = true ∧ (s.port p).testClosedCmd ≠ b) := fun ⟨hnone, hcmd⟩ =>
      hno.elim (fun h => h (Option.isNone_iff_eq_none.mp hnone)) fun h => hcmd h.symm
    simp only [exec, execRelaySenseChange, PortRecord.sensed, PortRecord.commanded, Ne.symm hb, if_false, hquiet]

/-! ## O21: the idle timer -/

theorem State.addDoze_serving (p : Port) (c : DozeCause) (s : State)
    (h : (s.port p).state = .down ∨ (s.port p).state = .training ∨ (s.port p).state = .up) :
    s.addDoze p c = s.changePort p { s.port p with state := .doze, causes := DozeCauses.empty.put c true, counters := (s.port p).counters.dozed } := by
  unfold addDoze
  rcases h with h | h | h <;> simp [h]

/-- A change of a record after an event of time `n`. -/
theorem changePort_reach_only (p : Port) (r : PortRecord) (s : State) (n : Nat) :
    ((s.reach n).changePort p r).now = max s.now n ∧ OtherPorts p s ((s.reach n).changePort p r) ∧
      Reported s ((s.reach n).changePort p r) ∧ OnlyIn [.ports, .now, .mail, .scu, .txs, .cbm, .lwu, .mga] s ((s.reach n).changePort p r) := by
  obtain ⟨hother, hreported, -⟩ := (s.reach n).changePort_lineChange p r false
  exact ⟨by simp [State.reach], hother, hreported, fun part hp => by cases part <;> simp_all [Part.Same]⟩

/-- Settles O21. -/
theorem idleExpiryDozes : Obligations.IdleExpiryDozes := by
  refine fun p s => ⟨fun e he hup => ?_, fun hnone => by simp [exec, execIdleTimerExpiry, hnone]⟩
  obtain ⟨hnow, hrest⟩ := changePort_reach_only p
    { s.port p with state := .doze, causes := DozeCauses.empty.put .idle true, counters := (s.port p).counters.dozed } s e
  refine ⟨_, ?_, hnow, ?_, hrest⟩
  · have hdoze := (s.reach e).addDoze_serving p .idle (.inr (.inr hup))
    have hexec : exec (.idleTimerExpiry p) s = .next ((s.reach e).addDoze p .idle) := by simp only [exec, execIdleTimerExpiry, he]
    exact hexec.trans (congrArg _ hdoze)
  · rw [State.port_changePort_self, PortRecord.ordered_off (.inr (.inl rfl))]
    rfl

/-! ## O22: TAKE -/

theorem State.denies_iff (p : Port) (allowUp : Bool) (s : State) : s.denies p allowUp = true ↔
    (∃ q, (s.port q).state = .test) ∨ (s.port p).state = .held ∨ ((s.port p).state = .disabled ∧ (s.port p).held.any = true) ∨
      (s.port p).transfer ≠ none ∨ ((s.port p).state = .up ∧ allowUp = false) := by
  simp [denies, allPorts, or_assoc, Option.isSome_iff_ne_none]

/-- Settles O22. -/
theorem takeIsGrantedOrDenied : Obligations.TakeIsGrantedOrDenied := by
  intro id p allowUp s
  have hdenies : (s.taken (.take id p allowUp)).denies p allowUp = true ↔ _ := (s.taken (.take id p allowUp)).denies_iff p allowUp
  refine ⟨fun hdenied => ⟨(s.taken (.take id p allowUp)).post (.denied id), ?_, rfl, fun part hp => ?_⟩,
    fun hgranted => ⟨(s.taken (.take id p allowUp)).lend id p, ?_, ?_, ?_, ?_⟩⟩
  · exact if_pos (hdenies.mpr hdenied)
  · cases part <;> simp_all [Part.Same]
  · exact if_neg fun h => hgranted (hdenies.mp h)
  · exact (State.port_changePort_self p _ (s.taken (.take id p allowUp)) false).trans (PortRecord.ordered_off (.inr (.inr (.inl rfl))))
  · exact List.mem_append_right _ (.head _)
  · exact (s.taken_lineChange p _).trans ((State.changePort_lineChange p _ _ false).trans (State.post_lineChange p _ _))

end Sys2Proof.Machine
end

section
/-! The obligations on the held state and the relay orders: O18, O20, O23. -/

namespace Sys2Proof.Machine

variable {s t u : State} {p q : Port} {r : PortRecord}

/-! ## What a hold does (R10 to R12) -/

/-- The only fault record that a change of a port's record touches is the FOREIGN_VOLTAGE one of a watch that ends (R151). -/
theorem State.rewatch_faults (p : Port) (s : State) : (s.rewatch p).mga.faults = s.mga.faults ∨
    (s.rewatch p).mga.faults = updateFault (.line p) .foreignVoltage (fun r => { r with active := false }) s.mga.faults := by
  have hreport (u : State) : (u.reportLevel p).mga.faults = u.mga.faults := by
    unfold reportLevel
    dsimp only
    split <;> simp
  unfold rewatch
  dsimp only
  split
  · rw [hreport]
    split
    · exact .inr (by simp [clearFault])
    · exact .inl (by simp)
  · exact .inl (by simp)

theorem State.changePort_faults (p : Port) (r : PortRecord) (s : State) (e : Bool) : (s.changePort p r e).mga.faults = s.mga.faults ∨
    (s.changePort p r e).mga.faults = updateFault (.line p) .foreignVoltage (fun r => { r with active := false }) s.mga.faults := by
  have hrewatch : (s.changePort p r e).mga.faults = ((s.installPort p r).rewatch p).mga.faults := by
    unfold changePort
    dsimp only
    split <;> split <;> simp
  have hinstall : (s.installPort p r).mga = s.mga := by simp
  rw [hrewatch, ← hinstall]
  exact (s.installPort p r).rewatch_faults p

/-- A fault log in order is so after a change of a port's record. -/
theorem State.changePort_faultsSound (p : Port) (r : PortRecord) (s : State) (e : Bool) (h : FaultsSound s.mga.faults) :
    FaultsSound (s.changePort p r e).mga.faults := by
  rcases s.changePort_faults p r e with hf | hf <;> rw [hf]
  · exact h
  · exact h.updateFault (fun _ => rfl) fun _ => rfl

/-- A raise of a latched kind leaves its active record. -/
theorem State.raiseFault_stands (src : FaultSource) (kind : FaultKind) (s : State) (h : FaultsSound s.mga.faults)
    (sourced : kind.sourced src = true) (latched : kind.latched = true) : Stands (s.raiseFault src kind).mga.faults src kind := by
  rw [show (s.raiseFault src kind).mga.faults = (s.mga.raise src kind none s.uptime).1.faults by simp]
  exact (Agent.raise_spec h sourced none s.uptime).2.2 latched

/-- A change of a record only adds messages. -/
theorem State.changePort_sends (p : Port) (r : PortRecord) (s : State) (e : Bool) : ∃ more, (s.changePort p r e).mail = s.mail ++ more :=
  ⟨_, (s.mail_changePort p r e).trans (List.append_assoc _ _ _)⟩

/-- The record of a port that a reason holds: a port that is held already gains the reason and stays (R11, R12). -/
def PortRecord.heldBy (reason : HeldReason) (r : PortRecord) : PortRecord :=
  let counted : PortRecord := { r with held := r.held.add reason, counters := r.counters.heldFor reason }
  if r.state = .held ∨ (r.state = .disabled ∧ r.held.any = true) then counted
  else
    { counted with
      state := .held, orderOn := false, rates := none, idleTimer := none, position := .isolated, transfer := none, heldOrder := none
      lineClosedCmd := false, testClosedCmd := false, causes := ⟨false, false, false⟩, wakePending := false, testRef := none
      returnTarget := some (if r.state = .disabled ∨ (r.state = .test ∧ r.returnTarget = some .disabled) then .disabled else .down) }

/-- What a hold comes to: the record, the fault record, the report to the Pair Test Controller about a port that was lent, and nothing but a
change of this port. -/
theorem State.hold_spec (p : Port) (reason : HeldReason) (s : State) :
    (s.hold p reason).port p = (s.port p).heldBy reason ∧
      (∀ id, (s.port p).state = .test → (s.port p).testRef = some id → Instr.portHeldReport id reason ∈ (s.hold p reason).mail) ∧
      (FaultsSound s.mga.faults → Stands (s.hold p reason).mga.faults (.line p) (heldFault reason)) ∧
      (∃ more, (s.hold p reason).mail = s.mail ++ more) ∧ LineChange p s (s.hold p reason) := by
  have hsourced : (heldFault reason).sourced (.line p) = true ∧ (heldFault reason).latched = true := by cases reason <;> exact ⟨rfl, rfl⟩
  unfold hold PortRecord.heldBy
  dsimp only
  split
  · next hheld =>
    refine ⟨?_, fun id hst => ?_, fun hf => ?_, ⟨[], by simp⟩, (s.modifyPort_lineChange p _).trans (raiseFault_lineChange p _ _ _)⟩
    · simp [port, modifyPort]
    · simp [hst] at hheld
    · exact raiseFault_stands _ _ _ hf hsourced.1 hsourced.2
  · next hfree =>
    have hport : ((s.changePort p ((s.port p).enterHeld reason)).raiseFault (.line p) (heldFault reason)).port p =
        ((s.port p).enterHeld reason).outOfUp.ordered := by
      rw [← s.port_changePort_self p ((s.port p).enterHeld reason) false]
      simp [port]
    have hstands (hf : FaultsSound s.mga.faults) :=
      raiseFault_stands (.line p) (heldFault reason) _ (s.changePort_faultsSound p ((s.port p).enterHeld reason) false hf) hsourced.1 hsourced.2
    obtain ⟨more, hmore⟩ := s.changePort_sends p ((s.port p).enterHeld reason) false
    have hmail : ((s.changePort p ((s.port p).enterHeld reason)).raiseFault (.line p) (heldFault reason)).mail = s.mail ++ more := by simp [hmore]
    have hchange := (s.changePort_lineChange p ((s.port p).enterHeld reason) false).trans (raiseFault_lineChange p (.line p) (heldFault reason) _)
    rw [PortRecord.ordered_off (.inr (.inr (.inr rfl)))] at hport
    split
    · next id hst href =>
      refine ⟨hport, fun k _ hk => ?_, hstands, ⟨more ++ [.portHeldReport id reason], ?_⟩, hchange.trans (post_lineChange p _ _)⟩
      · have hid : id = k := Option.some.inj (href.symm.trans hk)
        subst hid
        simp
      · rw [post_mail, hmail, List.append_assoc]
    · next hno =>
      exact ⟨hport, fun k hst hk => absurd hk (hno k hst), hstands, ⟨more, hmail⟩, hchange⟩

/-! ## O20 -/

/-- What a mismatch comes to, by the record as it reads then (R10). -/
theorem State.mismatch_spec (p : Port) (s : State) :
    (s.mismatch p).port p =
        PortRecord.heldBy .relayMismatch
          { s.port p with counters := { (s.port p).counters with relayFaults := plusOne (s.port p).counters.relayFaults } } ∧
      Instr.mismatchReport p ((s.port p).testClosedSense && !(s.port p).testClosedCmd) ∈ (s.mismatch p).mail ∧
      (∀ id, (s.port p).state = .test → (s.port p).testRef = some id → Instr.portHeldReport id .relayMismatch ∈ (s.mismatch p).mail) ∧
      (FaultsSound s.mga.faults → Stands (s.mismatch p).mga.faults (.line p) .relayMismatch) ∧ LineChange p s (s.mismatch p) := by
  have hcount := s.port_modifyPort_self p fun r => { r with counters := { r.counters with relayFaults := bump r.counters.relayFaults } }
  have hspec := State.hold_spec p .relayMismatch ((s.countPort p fun c => { c with relayFaults := bump c.relayFaults }).post
    (.mismatchReport p ((s.port p).testClosedSense && !(s.port p).testClosedCmd)))
  obtain ⟨hport, htold, hstands, ⟨more, hmail⟩, hchange⟩ := hspec
  refine ⟨hport.trans (congrArg _ hcount), ?_, fun id hst hid => htold id ?_ ?_, hstands,
    (s.modifyPort_lineChange p _).trans ((post_lineChange p _ _).trans hchange)⟩
  · rw [mismatch, hmail]
    simp
  · exact (congrArg PortRecord.state hcount).trans hst
  · exact (congrArg PortRecord.testRef hcount).trans hid

/-- The three points at which a comparison fails (R10): the mismatch is that of the record as it reads then. -/
theorem exec_mismatch {c : Instr} {lineSense testSense : Bool}
    (h : (c = .gapEnd p ∧ lineSense = (s.port p).lineClosedSense ∧ testSense = (s.port p).testClosedSense ∧
        ∃ tr, (s.port p).transfer = some tr ∧ tr.phase = .gap ∧
          ((tr.kind = .outward ∨ tr.kind = .restoring) ∧ lineSense = true ∨ tr.kind ≠ .outward ∧ testSense = true)) ∨
      (c = .settleEnd p ∧ lineSense = (s.port p).lineClosedSense ∧ testSense = (s.port p).testClosedSense ∧
        (∃ tr, (s.port p).transfer = some tr ∧ tr.phase = .settle) ∧
          (lineSense ≠ (s.port p).lineClosedCmd ∨ testSense ≠ (s.port p).testClosedCmd)) ∨
      (c = .relaySenseChange p .line lineSense ∧ testSense = (s.port p).testClosedSense ∧ (s.port p).transfer = none ∧
        lineSense ≠ (s.port p).lineClosedSense ∧ lineSense ≠ (s.port p).lineClosedCmd) ∨
      (c = .relaySenseChange p .test testSense ∧ lineSense = (s.port p).lineClosedSense ∧ (s.port p).transfer = none ∧
        testSense ≠ (s.port p).testClosedSense ∧ testSense ≠ (s.port p).testClosedCmd)) :
    ∃ u : State, exec c s = .next (u.mismatch p) ∧ u.port p = { s.port p with lineClosedSense := lineSense, testClosedSense := testSense } ∧
      u.mail = s.mail ∧ u.mga = s.mga ∧ OtherPorts p s u ∧ OnlyIn [.ports, .now] s u := by
  have hreach (n : Nat) : OtherPorts p s (s.reach n) ∧ OnlyIn [.ports, .now] s (s.reach n) :=
    ⟨.refl p s, fun part hp => by cases part <;> simp_all [Part.Same]⟩
  have hsense (f : PortRecord → PortRecord) : OtherPorts p s (s.modifyPort p f) ∧ OnlyIn [.ports, .now] s (s.modifyPort p f) :=
    ⟨(s.modifyPort_only p f).1, fun part hp => by cases part <;> simp_all [Part.Same]⟩
  rcases h with ⟨rfl, rfl, rfl, tr, htr, hphase, hread⟩ | ⟨rfl, rfl, rfl, ⟨tr, htr, hphase⟩, hread⟩ | ⟨rfl, rfl, htr, hnew, hcmd⟩ |
    ⟨rfl, rfl, htr, hnew, hcmd⟩
  · refine ⟨s.reach tr.ends, ?_, rfl, rfl, rfl, hreach _⟩
    have hopened : (s.port p).opened tr.kind = false := by
      cases hk : tr.kind <;> cases hl : (s.port p).lineClosedSense <;> simp_all [PortRecord.opened]
    simp [exec, execGapEnd, htr, hphase, hopened]
  · refine ⟨s.reach tr.ends, ?_, rfl, rfl, rfl, hreach _⟩
    have hagrees : (s.port p).agrees = false := by
      simp only [PortRecord.agrees, Bool.and_eq_false_iff, beq_eq_false_iff_ne]
      exact hread
    simp [exec, execSettleEnd, htr, hphase, hagrees]
  · refine ⟨s.modifyPort p (PortRecord.sense .line lineSense), ?_, s.port_modifyPort_self p _, rfl, rfl, hsense _⟩
    simp [exec, execRelaySenseChange, PortRecord.sensed, PortRecord.commanded, htr, Ne.symm hnew, Ne.symm hcmd]
  · refine ⟨s.modifyPort p (PortRecord.sense .test testSense), ?_, s.port_modifyPort_self p _, rfl, rfl, hsense _⟩
    simp [exec, execRelaySenseChange, PortRecord.sensed, PortRecord.commanded, htr, Ne.symm hnew, Ne.symm hcmd]

/-- Settles O20: each failed comparison, and a hazard, comes to a hold of the port. -/
theorem mismatchAndHazardHoldThePort : Obligations.MismatchAndHazardHoldThePort := by
  refine ⟨fun p s c lineSense testSense h => ?_, fun p path code s => ?_⟩
  · obtain ⟨u, hexec, hport, hmail, hmga, hother, honly⟩ := exec_mismatch h
    obtain ⟨hheld, hreport, htold, hstands, hchange⟩ := u.mismatch_spec p
    rw [hport] at hheld hreport htold
    refine ⟨_, hexec, ?_, hreport, htold, fun hs => ?_, hother.trans hchange.1, ?_, ?_⟩
    · rw [hheld]
      unfold PortRecord.heldBy
      dsimp only
      split <;> rfl
    · exact hstands (hmga ▸ ((Agent.sound_iff _).mp hs).1)
    · have hreported := hchange.2.1
      rw [Reported, hmga] at hreported
      exact hreported
    · exact (honly.mono (by decide)).trans (hchange.2.2.mono (by decide))
  · obtain ⟨hport, htold, hstands, -, hchange⟩ := (s.taken (.hazardReport p path code)).hold_spec p .hazard
    have hsame : (s.taken (.hazardReport p path code)).port p = s.port p := rfl
    rw [hsame] at hport htold
    refine ⟨(s.taken (.hazardReport p path code)).hold p .hazard, rfl, ?_, htold, fun hs => hstands ((Agent.sound_iff _).mp hs).1,
      (s.taken_lineChange p _).trans hchange⟩
    rw [hport]
    unfold PortRecord.heldBy
    dsimp only
    split <;> rfl

end Sys2Proof.Machine
end

section
/-! The obligations on relay orders: O18, O23; and what a return to service makes of a port (R18, R172). -/

namespace Sys2Proof.Machine

variable {s t u : State} {p q : Port} {r : PortRecord}

/-! ## Return to service (R18) -/

/-- The answer for a port that is about to return to service goes by the other ports and by what the budget speaks of. -/
theorem State.wouldShed_congr (others : OtherPorts p s t) (sub : ∀ q, t.sub q = s.sub q) (stage : t.csu.stage = s.csu.stage)
    (heater : t.csu.heaterDemand = s.csu.heaterDemand) (bus : t.ptc.demand = s.ptc.demand) (settings : t.settings = s.settings) :
    t.wouldShed p = s.wouldShed p := by
  have hport (q : Port) : t.portWant (some p) q = s.portWant (some p) q := by
    unfold portWant
    dsimp only
    by_cases hq : q = p
    · rw [if_pos (congrArg some hq.symm), if_pos (congrArg some hq.symm), sub]
    · rw [if_neg fun h => hq (Option.some.inj h).symm, if_neg fun h => hq (Option.some.inj h).symm, others q hq, sub]
  have hwants : t.wants (some p) = s.wants (some p) := by
    simp only [wants, heaterWant, busWant, heater, bus, settings, funext hport]
  have havailable : t.available = s.available := by simp only [available, stage, settings]
  have hsheds : t.shedsAll = s.shedsAll := by simp only [shedsAll, stage, settings]
  simp only [wouldShed, evaluationNow, loadList, hwants, havailable, hsheds]

/-- The record of a port that returns to service with the record `r` (R18). -/
def State.served (p : Port) (r : PortRecord) (wake : Bool) (s : State) : PortRecord :=
  if s.csu.thermalLatch = true ∨ s.wouldShed p = true then
    { r with
      state := .doze, causes := ⟨s.wouldShed p, s.csu.thermalLatch, false⟩, wakePending := wake, orderOn := false, rates := none
      idleTimer := none, counters := { r.counters with dozes := plusOne r.counters.dozes } }
  else
    { r with
      state := .down, causes := ⟨false, false, false⟩, wakePending := false, rates := none, idleTimer := none
      orderOn := r.orderOn || (r.position == .normal && r.transfer.isNone) }

theorem State.evaluate_shed (p : Port) (s : State) : ((s.evaluate (some p)).pbu.portSent.get p == some .shed) = s.wouldShed p := by
  have hsent := s.evaluate_sent (some p) (.port p)
  simp only [Budget.sent] at hsent
  rw [hsent]
  rfl

theorem State.returnToService_port (p : Port) (r : PortRecord) (keepWake : Bool) (s : State) :
    (s.returnToService p r keepWake).port p = s.served p r (keepWake && r.wakePending) := by
  have hlatch : (s.evaluate (some p)).csu.thermalLatch = s.csu.thermalLatch := by simp
  unfold returnToService served
  dsimp only
  rw [evaluate_shed, hlatch]
  by_cases hdoze : s.csu.thermalLatch = true ∨ s.wouldShed p = true
  · have hcauses : DozeCauses.isEmpty { shed := s.wouldShed p, thermal := s.csu.thermalLatch, idle := false } = false := by
      rcases hdoze with h | h <;> simp [DozeCauses.isEmpty, h]
    rw [if_pos hdoze, if_neg (by simp [hcauses]), port_changePort_self, PortRecord.ordered_off (.inr (.inl rfl))]
    rfl
  · obtain ⟨hthermal, hshed⟩ := not_or.mp hdoze
    rw [Bool.not_eq_true] at hthermal hshed
    rw [if_neg hdoze, hthermal, hshed, if_pos (by rfl), port_changePort_self, PortRecord.ordered_down rfl]

/-- A decision handed on only adds messages. -/
theorem State.handOn_sends (c : Option Port) (x : LoadEntry) (s : State) : ∃ more, (s.handOn c x).mail = s.mail ++ more := by
  have hrefl (u : State) : ∃ more, u.mail = u.mail ++ more := ⟨[], (List.append_nil _).symm⟩
  have hdoze (q : Port) (u : State) : ∃ more, (u.addDoze q .shed).mail = u.mail ++ more := by
    unfold addDoze
    dsimp only
    split
    · exact changePort_sends _ _ _ _
    · exact changePort_sends _ _ _ _
    · exact changePort_sends _ _ _ _
    · exact changePort_sends _ _ _ _
    · split
      · exact changePort_sends _ _ _ _
      · exact hrefl u
    · exact hrefl u
    · exact hrefl u
  have hback (q : Port) (u : State) : ∃ more, (u.removeShed q).mail = u.mail ++ more := by
    unfold removeShed
    dsimp only
    split
    · split
      · split
        · exact changePort_sends _ _ _ _
        · exact changePort_sends _ _ _ _
      · split
        · exact changePort_sends _ _ _ _
        · exact hrefl u
      · exact hrefl u
    · exact hrefl u
  unfold handOn
  split
  · exact hrefl s
  · dsimp only
    split
    · split
      · exact hrefl s
      · split
        · exact hdoze _ _
        · exact hback _ _
    · exact hrefl s
    · split
      · exact ⟨_, rfl⟩
      · exact ⟨_, rfl⟩

theorem State.evaluate_sends (c : Option Port) (s : State) : ∃ more, (s.evaluate c).mail = s.mail ++ more := by
  have hfold (xs : List LoadEntry) (u : State) : ∃ more, (xs.foldl (fun s x => s.handOn c x) u).mail = u.mail ++ more := by
    induction xs generalizing u with
    | nil => exact ⟨[], (List.append_nil _).symm⟩
    | cons x rest ih =>
      obtain ⟨first, hfirst⟩ := u.handOn_sends c x
      obtain ⟨more, hmore⟩ := ih (u.handOn c x)
      exact ⟨first ++ more, by rw [List.foldl_cons, hmore, hfirst, List.append_assoc]⟩
  exact hfold _ { s with pbu := { s.pbu.dropAbsent (s.evaluationNow c) with last := some (s.evaluationNow c) } }

theorem State.returnToService_sends (p : Port) (r : PortRecord) (keepWake : Bool) (s : State) :
    ∃ more, (s.returnToService p r keepWake).mail = s.mail ++ more := by
  obtain ⟨first, hfirst⟩ := s.evaluate_sends (some p)
  have hmore (r : PortRecord) : ∃ more, ((s.evaluate (some p)).changePort p r true).mail = s.mail ++ more := by
    obtain ⟨more, hmore⟩ := (s.evaluate (some p)).changePort_sends p r true
    exact ⟨first ++ more, by rw [hmore, hfirst, List.append_assoc]⟩
  unfold returnToService
  dsimp only
  split
  · exact hmore _
  · exact hmore _

/-! ## RELEASE carried out (R18, R20) -/

/-- A port leaves TEST, by the return target and the doze causes. -/
def State.leaveTest (p : Port) (s : State) : State :=
  let r := s.port p
  let back := { r with testRef := none, returnTarget := none }
  if r.returnTarget = some .disabled then s.changePort p { back with state := .disabled, causes := .empty, wakePending := false }
  else if r.causes.isEmpty then s.returnToService p back true
  else s.changePort p { back with state := .doze, counters := r.counters.dozed }

/-- The request that had the port is told. -/
def State.tellReleased (id : Option Nat) (s : State) : State :=
  match id with
  | some id => s.post (.released id)
  | none => s

theorem State.carryOutRelease_eq (p : Port) (s : State) : s.carryOutRelease p = (s.leaveTest p).tellReleased (s.port p).testRef := by
  unfold carryOutRelease leaveTest tellReleased
  dsimp only <;> cases (s.port p).testRef <;> rfl

theorem State.tellReleased_spec (p : Port) (id : Option Nat) (s : State) :
    LineChange p s (s.tellReleased id) ∧ (s.tellReleased id).port p = s.port p ∧ (s.tellReleased id).mail = s.mail ++ id.toList.map .released := by
  cases id with
  | none => exact ⟨.refl p s, rfl, (List.append_nil _).symm⟩
  | some id => exact ⟨post_lineChange p _ s, rfl, rfl⟩

/-- The record of a port whose RELEASE is carried out, by the return target and the doze causes. -/
theorem State.carryOutRelease_port (p : Port) (s : State) : (s.carryOutRelease p).port p =
    let r := s.port p
    let back : PortRecord := { r with testRef := none, returnTarget := none, orderOn := false, rates := none, idleTimer := none }
    if r.returnTarget = some .disabled then { back with state := .disabled, causes := ⟨false, false, false⟩, wakePending := false }
    else if r.causes.isEmpty = true then s.served p { r with testRef := none, returnTarget := none } r.wakePending
    else { back with state := .doze, counters := { r.counters with dozes := plusOne r.counters.dozes } } := by
  rw [carryOutRelease_eq, (tellReleased_spec p _ _).2.1]
  unfold leaveTest
  dsimp only
  split
  · exact (port_changePort_self _ _ _ _).trans (PortRecord.ordered_off (.inl rfl))
  · split
    · rw [returnToService_port, Bool.true_and]
    · exact (port_changePort_self _ _ _ _).trans (PortRecord.ordered_off (.inr (.inl rfl)))

/-- With the relays at rest at NORMAL and no order kept that is the record the statement names. -/
theorem State.released_eq (p : Port) (s : State) (rest : (s.port p).transfer = none) (normal : (s.port p).position = .normal)
    (kept : (s.port p).heldOrder = none) : (s.carryOutRelease p).port p = s.released p := by
  rw [carryOutRelease_port]
  unfold released served inService
  dsimp only
  split
  · simp only [rest, kept]
  · split
    · split
      · simp only [rest, kept]
      · simp [rest, kept, normal]
    · simp only [rest, kept]

theorem State.carryOutRelease_sends (p : Port) (s : State) :
    (∃ more, (s.carryOutRelease p).mail = s.mail ++ more) ∧
      ∀ id, (s.port p).testRef = some id → Instr.released id ∈ (s.carryOutRelease p).mail := by
  have hleave : ∃ more, (s.leaveTest p).mail = s.mail ++ more := by
    unfold leaveTest
    dsimp only
    split
    · exact changePort_sends _ _ _ _
    · split
      · exact returnToService_sends _ _ _ _
      · exact changePort_sends _ _ _ _
  obtain ⟨more, hmore⟩ := hleave
  rw [carryOutRelease_eq, (tellReleased_spec p _ _).2.2, hmore]
  exact ⟨⟨_, List.append_assoc _ _ _⟩, fun id hid => by simp [hid]⟩

/-- What a RELEASE reaches; without an evaluation it is a change of this port alone. -/
theorem State.carryOutRelease_only (p : Port) (s : State) :
    OnlyIn [.ports, .mail, .scu, .txs, .cbm, .lwu, .mga, .pbu] s (s.carryOutRelease p) ∧
      ((s.port p).returnTarget = some .disabled ∨ (s.port p).causes.isEmpty = false → LineChange p s (s.carryOutRelease p)) := by
  have htold := (tellReleased_spec p (s.port p).testRef (s.leaveTest p)).1
  rw [carryOutRelease_eq]
  have hchange (r : PortRecord) (h : s.leaveTest p = s.changePort p r) :
      OnlyIn [.ports, .mail, .scu, .txs, .cbm, .lwu, .mga, .pbu] s ((s.leaveTest p).tellReleased (s.port p).testRef) ∧
        ((s.port p).returnTarget = some .disabled ∨ (s.port p).causes.isEmpty = false →
          LineChange p s ((s.leaveTest p).tellReleased (s.port p).testRef)) := by
    have hline : LineChange p s (s.leaveTest p) := h ▸ s.changePort_lineChange p r false
    exact ⟨(hline.trans htold).2.2.mono (by decide), fun _ => hline.trans htold⟩
  by_cases htarget : (s.port p).returnTarget = some .disabled
  · exact hchange _ (if_pos htarget)
  · by_cases hcauses : (s.port p).causes.isEmpty = true
    · refine ⟨OnlyIn.trans (fun part hp => ?_) (htold.2.2.mono (by decide)), fun h => ?_⟩
      · rw [leaveTest, if_neg htarget, if_pos hcauses]
        cases part <;> simp_all [Part.Same]
      · simp [htarget, hcauses] at h
    · exact hchange _ ((if_neg htarget).trans (if_neg hcauses))

/-! ## O23 -/

/-- A record changed in place by an order that is taken. -/
theorem taken_modifyPort (c : Instr) (p : Port) (f : PortRecord → PortRecord) (s : State) :
    ((s.taken c).modifyPort p f).port p = f (s.port p) ∧ ((s.taken c).modifyPort p f).mail = s.mail.erase c ∧
      OtherPorts p s ((s.taken c).modifyPort p f) ∧ OnlyIn [.ports, .mail] s ((s.taken c).modifyPort p f) :=
  ⟨Row.get_modify_self _ _ _, rfl, fun _ hq => Row.get_modify_ne _ _ hq, fun part hp => by cases part <;> simp_all [Part.Same]⟩

theorem State.taken_only (c : Instr) (s : State) : OnlyIn [.mail] s (s.taken c) := fun part hp => by cases part <;> simp_all [Part.Same]

theorem State.taken_post_only (c m : Instr) (s : State) : OnlyIn [.mail] s ((s.taken c).post m) := fun part hp => by
  cases part <;> simp_all [Part.Same]

/-- A RELEASE on a lent port at rest at NORMAL is carried out. -/
theorem execRelease_rest (test : (s.port p).state = .test) (rest : (s.port p).transfer = none) (normal : (s.port p).position = .normal) :
    exec (.release p) s = .next ((s.taken (.release p)).carryOutRelease p) := by
  have hport : (s.taken (.release p)).port p = s.port p := rfl
  simp [exec, execRelease, State.orderRelease, hport, test, rest, normal]

/-- What takes a message leaves what a return to service goes by. -/
theorem State.served_taken (c : Instr) (p : Port) (r : PortRecord) (wake : Bool) (s : State) :
    (s.taken c).served p r wake = s.served p r wake := by
  have hshed : (s.taken c).wouldShed p = s.wouldShed p := wouldShed_congr (.refl p _) (fun _ => rfl) rfl rfl rfl rfl
  unfold served
  rw [hshed]
  rfl

/-- An order of the Pair Test Controller in TEST. -/
theorem exec_orders (test : (s.port p).state = .test) :
    exec (.transferOut p) s = .next ((s.taken (.transferOut p)).orderOut p) ∧
      exec (.transferBack p) s = .next ((s.taken (.transferBack p)).orderBack p) ∧
      exec (.release p) s = .next ((s.taken (.release p)).orderRelease p) :=
  ⟨if_pos test, if_pos test, if_pos test⟩

/-- An order on a port at rest. -/
theorem State.orders_atRest (p : Port) (s : State) (rest : (s.port p).transfer = none) :
    ((s.port p).position = .normal → s.orderOut p = s.startOutward p ∧ s.orderBack p = s.post .backDone ∧ s.orderRelease p = s.carryOutRelease p) ∧
      ((s.port p).position = .testing → s.orderOut p = s.post .outDone ∧ s.orderBack p = s.startBack p ∧
        s.orderRelease p = (s.startBack p).keepOrder p .release) := by
  constructor <;> intro hposition <;> simp [orderOut, orderBack, orderRelease, rest, hposition]

/-- An order during a transfer is kept. -/
theorem State.orders_moving (p : Port) (s : State) (moving : (s.port p).transfer ≠ none) :
    s.orderOut p = s.keepOrder p .transferOut ∧ s.orderBack p = s.keepOrder p .transferBack ∧ s.orderRelease p = s.keepOrder p .release := by
  have hsome : (s.port p).transfer.isSome := Option.isSome_iff_ne_none.mpr moving
  simp [orderOut, orderBack, orderRelease, hsome]

/-- The transfer back with the RELEASE kept over it is one change of the record. -/
theorem State.startBack_keepOrder (p : Port) (s : State) : (s.startBack p).keepOrder p .release =
    s.modifyPort p fun r => { r with testClosedCmd := false, position := .normal, transfer := some (s.gapOf .back), heldOrder := some .release } := by
  have hports : (s.startBack p).ports.modify p (fun r => { r with heldOrder := some .release }) = s.ports.modify p fun r =>
      { r with testClosedCmd := false, position := .normal, transfer := some (s.gapOf .back), heldOrder := some .release } :=
    Row.ext fun q => by by_cases hq : q = p <;> simp [startBack, modifyPort, Row.get_modify, hq]
  exact congrArg (fun ports => ({ s with ports := ports } : State)) hports

/-- TRANSFER_OUT and TRANSFER_BACK by the port's state, its transfer and its position. -/
theorem transferOrders_spec (p : Port) (s : State) :
    let r := s.port p
    let gap (k : TransferKind) : Option Transfer := some ⟨k, .gap, s.now + s.settings.transferGap * 1000⟩
    let alone (c : Instr) (t : State) : Prop := t.mail = s.mail.erase c ∧ OtherPorts p s t ∧ OnlyIn [.ports, .mail] s t
    (r.state = .test → r.transfer = none → r.position = .normal →
      (∃ t, exec (.transferOut p) s = .next t ∧
        t.port p = { r with lineClosedCmd := false, position := .testing, transfer := gap .outward } ∧ alone (.transferOut p) t) ∧
      ∃ t, exec (.transferBack p) s = .next t ∧ t.mail = s.mail.erase (.transferBack p) ++ [.backDone] ∧ OnlyIn [.mail] s t) ∧
    (r.state = .test → r.transfer = none → r.position = .testing →
      (∃ t, exec (.transferBack p) s = .next t ∧
        t.port p = { r with testClosedCmd := false, position := .normal, transfer := gap .back } ∧ alone (.transferBack p) t) ∧
      ∃ t, exec (.transferOut p) s = .next t ∧ t.mail = s.mail.erase (.transferOut p) ++ [.outDone] ∧ OnlyIn [.mail] s t) := by
  refine ⟨fun htest hrest hposition => ?_, fun htest hrest hposition => ?_⟩ <;> obtain ⟨hout, hback, -⟩ := exec_orders htest
  · have hnormal (c : Instr) := ((s.taken c).orders_atRest p hrest).1 hposition
    exact ⟨⟨_, hout.trans (congrArg _ (hnormal _).1), taken_modifyPort _ p _ s⟩, _, hback.trans (congrArg _ (hnormal _).2.1), rfl, s.taken_post_only _ _⟩
  · have htesting (c : Instr) := ((s.taken c).orders_atRest p hrest).2 hposition
    exact ⟨⟨_, hback.trans (congrArg _ (htesting _).2.1), taken_modifyPort _ p _ s⟩, _, hout.trans (congrArg _ (htesting _).1), rfl,
      s.taken_post_only _ _⟩

/-- Settles O23. -/
theorem relayOrdersAndRelease : Obligations.RelayOrdersAndRelease := by
  refine ⟨fun p s => ?_, fun p id s => ?_⟩
  · obtain ⟨hnormal, htesting⟩ := transferOrders_spec p s
    refine ⟨hnormal, htesting, fun htest hmoving => ?_, fun hno => ⟨⟨_, if_neg hno, s.taken_only _⟩, _, if_neg hno, s.taken_only _⟩⟩
    obtain ⟨hout, hback, -⟩ := exec_orders htest
    have hkept (c : Instr) := (s.taken c).orders_moving p hmoving
    exact ⟨⟨_, hout.trans (congrArg _ (hkept _).1), taken_modifyPort _ p _ s⟩, _, hback.trans (congrArg _ (hkept _).2.1), taken_modifyPort _ p _ s⟩
  · have hport : (s.taken (.release p)).port p = s.port p := rfl
    have hrecord := (s.taken (.release p)).carryOutRelease_port p
    rw [hport] at hrecord
    dsimp only at hrecord
    have hsends := ((s.taken (.release p)).carryOutRelease_sends p).2 id
    have hline (h : (s.port p).returnTarget = some .disabled ∨ (s.port p).causes.isEmpty = false) :=
      (s.taken_lineChange p (.release p)).trans (((s.taken (.release p)).carryOutRelease_only p).2 h)
    refine ⟨fun ⟨htest, hrest, hnormal, href⟩ htarget => ⟨_, execRelease_rest htest hrest hnormal, ?_, hsends href, hline (.inl htarget)⟩,
      fun ⟨htest, hrest, hnormal, href⟩ htarget hcauses => ⟨_, execRelease_rest htest hrest hnormal, ?_, hsends href, hline (.inr hcauses)⟩,
      fun ⟨htest, hrest, hnormal, href⟩ htarget hcauses => ⟨_, execRelease_rest htest hrest hnormal, ?_, hsends href, ?_⟩,
      fun htest hrest htesting => ?_, fun htest hmoving => ?_, fun hno => ⟨_, if_neg hno, s.taken_only _⟩⟩
    · rw [hrecord, if_pos htarget]
    · rw [hrecord, if_neg (by simp [htarget]), if_neg (by simp [hcauses])]
    · rw [hrecord, if_neg (by simp [htarget]), if_pos hcauses, State.served_taken]
      unfold State.served
      split
      · rfl
      · simp [hrest, hnormal]
    · exact OnlyIn.trans ((s.taken_only _).mono (by decide)) ((s.taken (.release p)).carryOutRelease_only p).1
    · have hback := ((exec_orders htest).2.2.trans (congrArg _ (((s.taken (.release p)).orders_atRest p hrest).2 htesting).2.2)).trans
        (congrArg _ ((s.taken (.release p)).startBack_keepOrder p))
      obtain ⟨hrec, -, hframe⟩ := taken_modifyPort (.release p) p (fun r => { r with
        testClosedCmd := false, position := .normal, transfer := some ((s.taken (.release p)).gapOf .back), heldOrder := some .release }) s
      exact ⟨_, hback, hrec, hframe⟩
    · obtain ⟨hrec, -, hframe⟩ := taken_modifyPort (.release p) p (fun r => { r with heldOrder := some .release }) s
      exact ⟨_, (exec_orders htest).2.2.trans (congrArg _ ((s.taken (.release p)).orders_moving p hmoving).2.2), hrec, hframe⟩

end Sys2Proof.Machine
end

section
/-! The obligation on the end of a transfer: O18. -/

namespace Sys2Proof.Machine

variable {s t u : State} {p q : Port} {r : PortRecord} {ends : Nat} {kind : TransferKind} {order : HeldOrder}

/-- The record of a port whose transfer has ended in agreement: POWER_ON follows in DOWN (R5). -/
theorem PortRecord.Sound.endTransfer (h : r.Sound) (moving : r.transfer ≠ none) :
    ({ r with transfer := none } : PortRecord).outOfUp.ordered = { r with transfer := none, orderOn := r.orderOn || r.state == .down } := by
  have hnormal : r.state = .down → r.position = .normal := fun hdown => by
    cases hpos : r.position with
    | normal => rfl
    | testing => simp [h.testing hpos] at hdown
    | isolated => exact absurd (h.atRest hpos) moving
  have hrates : r.state ≠ .up → r.rates = none ∧ r.idleTimer = none := fun hup =>
    ⟨by_contra fun hr => hup (h.rates.mp (Option.isSome_iff_ne_none.mpr hr)),
      by_contra fun hi => hup (h.idleTimer (Option.isSome_iff_ne_none.mpr hi))⟩
  have hoff := h.ordersOff
  cases hst : r.state <;> simp_all [ordered, outOfUp]

/-- The state at the end of a transfer in agreement, before an order that was kept starts (R5, R102). -/
def State.agreedEnd (p : Port) (kind : TransferKind) (s : State) : State :=
  { s with
    ports := s.ports.set p { s.port p with transfer := none, orderOn := (s.port p).orderOn || (s.port p).state == .down }
    mail := s.mail ++ [.portReport p (s.port p).state (s.port p).held.any .none] ++ transferAnswer kind }

theorem State.endTransfer_agreedEnd (h : (s.port p).Sound) (moving : (s.port p).transfer ≠ none) (kind : TransferKind) :
    s.endTransfer p kind = (s.agreedEnd p kind).startHeldOrder p := by
  have hinstall : s.installPort p { s.port p with transfer := none } =
      { s with ports := s.ports.set p { s.port p with transfer := none, orderOn := (s.port p).orderOn || (s.port p).state == .down } } := by
    rw [← h.endTransfer moving]
    exact if_neg fun hup => hup.2 hup.1
  unfold endTransfer
  dsimp only
  rw [hinstall]
  rfl

theorem execSettleEnd_agrees (h : (s.port p).transfer = some ⟨kind, .settle, ends⟩) (line : (s.port p).lineClosedSense = (s.port p).lineClosedCmd)
    (test : (s.port p).testClosedSense = (s.port p).testClosedCmd) (sound : (s.port p).Sound) :
    exec (.settleEnd p) s = .next (((s.reach ends).agreedEnd p kind).startHeldOrder p) := by
  have hagrees : (s.port p).agrees = true := by simp [PortRecord.agrees, line, test]
  rw [← State.endTransfer_agreedEnd (s := s.reach ends) sound (by rw [show (s.reach ends).port p = s.port p from rfl, h]; nofun)]
  simp [exec, execSettleEnd, h, hagrees]

/-- What the end of a transfer comes to, with no order kept or before one starts. -/
theorem State.agreedEnd_spec (p : Port) (kind : TransferKind) (ends : Nat) (s : State) :
    let t := (s.reach ends).agreedEnd p kind
    t.now = max s.now ends ∧
      t.port p = { s.port p with transfer := none, orderOn := (s.port p).orderOn || (s.port p).state == .down } ∧
      t.mail = s.mail ++ [.portReport p (s.port p).state (s.port p).held.any .none] ++ transferAnswer kind ∧
      OtherPorts p s t ∧ OnlyIn [.ports, .now, .mail] s t :=
  ⟨rfl, Row.get_set_self _ _ _, rfl, fun _ hq => Row.get_set_ne _ _ hq, fun part hp => by cases part <;> simp_all [Part.Same, agreedEnd]⟩

/-- An order of the Pair Test Controller on a port in TEST (R20). -/
def State.orderOf (o : HeldOrder) (p : Port) (s : State) : State :=
  match o with
  | .transferOut => s.orderOut p
  | .transferBack => s.orderBack p
  | .release => s.orderRelease p

/-- An order that was kept starts (R20). -/
theorem State.startHeldOrder_eq (kept : (s.port p).heldOrder = some order) (test : (s.port p).state = .test) :
    s.startHeldOrder p = (s.modifyPort p fun r => { r with heldOrder := none }).orderOf order p := by
  have htest : ((s.modifyPort p fun r => { r with heldOrder := none }).port p).state = .test := by
    rw [port_modifyPort_self]; exact test
  unfold startHeldOrder
  split
  · next hnone => rw [hnone] at kept; cases kept
  · next o ho =>
    have ho : o = order := Option.some.inj (ho.symm.trans kept)
    subst ho
    dsimp only
    rw [if_pos htest]
    cases o <;> rfl

/-- The released record goes by the port's own record but for its transfer and its held order, and by the others for the answer of the budget. -/
theorem State.released_congr (others : OtherPorts p s t) (same : OnlyIn [.ports, .now, .mail] s t)
    (port : t.port p = { s.port p with transfer := none, heldOrder := none }) : t.released p = s.released p := by
  have hcsu : t.csu = s.csu := same .csu (by decide)
  have hmga : t.mga = s.mga := same .mga (by decide)
  have hshed : t.wouldShed p = s.wouldShed p := wouldShed_congr others (fun q => by rw [sub, sub, hmga]) (by rw [hcsu]) (by rw [hcsu])
    (by rw [same .ptc (by decide)]) (same .settings (by decide))
  unfold released
  rw [port]
  dsimp only
  unfold inService
  rw [hshed, hcsu]

theorem transferAnswer_eq (kind : TransferKind) : transferAnswer kind =
    match kind with | .outward => [.outDone] | .back => [.backDone] | .turnedRound => [.outFailed] | .restoring => [] := by
  cases kind <;> rfl

/-- Every transfer but the outward one moves to NORMAL. -/
theorem TransferKind.target_normal (h : kind ≠ .outward) : kind.target = .normal := by
  cases kind
  · exact absurd rfl h
  · rfl
  · rfl
  · rfl

/-- Settles O18: the transfer's end, then what the order that was kept makes of it. -/
theorem settleEndAnswers : Obligations.SettleEndAnswers := by
  refine ⟨fun p ends kind s sound htransfer hkept hline htest => ?_, fun p ends kind order s sound htransfer hposition hkept hline htest => ?_⟩
  · obtain ⟨hnow, hport, hmail, hframe⟩ := s.agreedEnd_spec p kind ends
    refine ⟨_, execSettleEnd_agrees htransfer hline htest sound, ?_⟩
    have hnone : (((s.reach ends).agreedEnd p kind).port p).heldOrder = none := by rw [hport]; exact hkept
    have hsame : ((s.reach ends).agreedEnd p kind).startHeldOrder p = (s.reach ends).agreedEnd p kind := by
      unfold State.startHeldOrder; rw [hnone]
    rw [hsame]
    refine ⟨hnow, hport, ?_, hframe⟩
    cases kind <;> exact hmail
  · have hst : (s.port p).state = .test := (sound.heldOrder (by simp [hkept])).1
    obtain ⟨hnow, hport, hmail, hother, honly⟩ := s.agreedEnd_spec p kind ends
    have hexec := execSettleEnd_agrees htransfer hline htest sound
    rw [State.startHeldOrder_eq (order := order) (by rw [hport]; exact hkept) (by rw [hport]; exact hst)] at hexec
    have hrest : (((s.reach ends).agreedEnd p kind).modifyPort p fun r => { r with heldOrder := none }).port p =
        { s.port p with transfer := none, heldOrder := none } := by
      rw [State.port_modifyPort_self, hport]
      simp [hst]
    generalize hw : ((s.reach ends).agreedEnd p kind).modifyPort p (fun r => { r with heldOrder := none }) = w at hexec hrest
    have hwmail : w.mail = s.mail ++ [.portReport p (s.port p).state (s.port p).held.any .none] ++ transferAnswer kind := hw ▸ hmail
    have hwnow : w.now = max s.now ends := hw ▸ hnow
    have hwset : w.settings = s.settings := hw ▸ rfl
    have hwother : OtherPorts p s w := hw ▸ hother.trans (State.modifyPort_only p _ _).1
    have hwonly : OnlyIn [.ports, .now, .mail] s w := hw ▸ honly.trans ((State.modifyPort_only p _ _).2.mono (by decide))
    rw [transferAnswer_eq] at hwmail
    have hmodify (f : PortRecord → PortRecord) (r : PortRecord) (hr : f (w.port p) = r) :
        (w.modifyPort p f).now = max s.now ends ∧ (w.modifyPort p f).port p = r ∧
          (w.modifyPort p f).mail = w.mail ++ [] ∧ OtherPorts p s (w.modifyPort p f) ∧ OnlyIn [.ports, .now, .mail] s (w.modifyPort p f) :=
      ⟨hwnow, (State.port_modifyPort_self p f w).trans hr, (List.append_nil _).symm, hwother.trans (State.modifyPort_only p f w).1,
        hwonly.trans ((State.modifyPort_only p f w).2.mono (by decide))⟩
    have hpost (m : Instr) : (w.post m).now = max s.now ends ∧ (w.post m).port p = { s.port p with transfer := none, heldOrder := none } ∧
        (w.post m).mail = w.mail ++ [m] ∧ OtherPorts p s (w.post m) ∧ OnlyIn [.ports, .now, .mail] s (w.post m) :=
      ⟨hwnow, hrest, rfl, hwother, hwonly.trans fun part hp => by cases part <;> simp_all [Part.Same]⟩
    have hatRest := w.orders_atRest p (by rw [hrest])
    rw [hrest] at hatRest
    rw [hwmail] at hpost hmodify
    refine ⟨fun hkind => ?_, fun hkind => ?_⟩
    · subst hkind
      obtain ⟨hout, hback, hrelease⟩ := hatRest.2 hposition
      refine ⟨fun ho => ?_, fun ho => ?_, fun ho => ?_⟩ <;> subst ho
      · exact ⟨_, hexec.trans (congrArg _ hout), hpost .outDone⟩
      · exact ⟨_, hexec.trans (congrArg _ hback), hmodify _ _ (by rw [hrest, ← hwnow, ← hwset]; rfl)⟩
      · exact ⟨_, hexec.trans (congrArg _ (hrelease.trans (w.startBack_keepOrder p))), hmodify _ _ (by rw [hrest, ← hwnow, ← hwset]; rfl)⟩
    · obtain ⟨hout, hback, hrelease⟩ := hatRest.1 (hposition.trans (TransferKind.target_normal hkind))
      refine ⟨fun ho => ?_, fun ho => ?_, fun ho => ?_⟩ <;> subst ho
      · exact ⟨_, hexec.trans (congrArg _ hout), hmodify _ _ (by rw [hrest, ← hwnow, ← hwset]; rfl)⟩
      · exact ⟨_, hexec.trans (congrArg _ hback), hpost .backDone⟩
      · obtain ⟨⟨more, hmore⟩, hreleased⟩ := w.carryOutRelease_sends p
        obtain ⟨honlyAll, hchange⟩ := w.carryOutRelease_only p
        refine ⟨_, hexec.trans (congrArg _ hrelease), ?_, ?_, fun c hc => ?_, fun id hid => hreleased id (by rw [hrest]; exact hid), fun h => ?_, ?_⟩
        · exact (honlyAll .now (by decide)).trans hwnow
        · rw [State.released_eq p w (by rw [hrest]) (by rw [hrest]; exact hposition.trans (TransferKind.target_normal hkind)) (by rw [hrest])]
          exact State.released_congr hwother hwonly hrest
        · rw [hmore, hwmail]
          exact List.mem_append_left _ hc
        · have hline := hchange (by rw [hrest]; exact h)
          exact ⟨hwother.trans hline.1, (hline.2.2 .pbu (by decide)).trans (hwonly .pbu (by decide))⟩
        · exact (hwonly.mono (by decide)).trans (honlyAll.mono (by decide))

end Sys2Proof.Machine
end

section
/-! SUPPORT for the obligations on directives, and O24 and O25: what a directive that comes up leaves, from what its owner makes of it (R178). -/

namespace Sys2Proof.Machine

variable {s t u : State} {p q : Port} {r : PortRecord} {o : Origin} {code : Octet} {params : List Octet} {lengthGood : Bool} {demands : Demands}
  {body : State → Answer}

/-! ## Directives that come up -/

/-- A directive that comes up and passes the checks of R178 is answered by its owner, on a state that differs at most in its messages. -/
theorem State.direct_owner (h : s.comesUp o code params)
    (passes : ∀ ml : List Instr, ({ s with mail := ml } : State).answer o lengthGood demands body = body { s with mail := ml }) :
    ∃ ml : List Instr, ∃ v : State,
      (v = if s.dataFits (body { s with mail := ml }).data.length then (body { s with mail := ml }).state else (body { s with mail := ml }).ifCut) ∧
      Answered code (body { s with mail := ml }).outcome (body { s with mail := ml }).data s (s.direct o code params lengthGood demands body) ∧
      (s.direct o code params lengthGood demands body).besideDirective = v.besideDirective ∧
      ∃ more, (s.direct o code params lengthGood demands body).mail = v.mail ++ more := by
  obtain ⟨s₀, v, hs₀, hv, hanswered, hbeside, hmail⟩ := s.direct_spec o code params lengthGood demands body h
  have hml : ∃ ml, s₀ = { s with mail := ml } := by
    rcases hs₀ with rfl | rfl
    · exact ⟨s₀.mail, rfl⟩
    · exact ⟨_, rfl⟩
  obtain ⟨ml, rfl⟩ := hml
  rw [passes] at hv hanswered
  exact ⟨ml, v, hv, hanswered, hbeside, hmail⟩

/-- The checks pass with the lock clear and permission given, whatever the messages (R181). -/
theorem State.passes_of_mayChange (h : s.mayChange o) (demands : Demands) (body : State → Answer) (ml : List Instr) :
    ({ s with mail := ml } : State).answer o true demands body = body { s with mail := ml } :=
  State.answer_of_mayChange { s with mail := ml } o demands body h

/-- A directive that its owner refuses leaves its entry, and nothing else. -/
theorem State.direct_refused {why : DirectiveOutcome} (h : s.comesUp o code params)
    (passes : ∀ ml : List Instr, ({ s with mail := ml } : State).answer o lengthGood demands body = body { s with mail := ml })
    (refuses : ∀ ml : List Instr, body { s with mail := ml } = refuse why { s with mail := ml }) :
    Answered code why [] s (s.direct o code params lengthGood demands body) ∧
      (s.direct o code params lengthGood demands body).besideDirective = s.besideDirective := by
  obtain ⟨ml, v, hv, hanswered, hbeside, -⟩ := direct_owner h passes
  rw [refuses] at hv hanswered
  refine ⟨hanswered, hbeside.trans ?_⟩
  have hv : v = { s with mail := ml } := hv.trans (ite_self _)
  rw [hv]
  rfl

/-- A directive that is carried out and answered DONE leaves what its owner makes of the state, with its entry. -/
theorem State.direct_done {data : List Octet} {f : State → State} (h : s.comesUp o code params)
    (passes : ∀ ml : List Instr, ({ s with mail := ml } : State).answer o lengthGood demands body = body { s with mail := ml })
    (does : ∀ ml : List Instr, body { s with mail := ml } = doneWith data (f { s with mail := ml })) :
    Answered code .done data s (s.direct o code params lengthGood demands body) ∧
      ∃ ml : List Instr, (s.direct o code params lengthGood demands body).besideDirective = (f { s with mail := ml }).besideDirective ∧
        ∃ more, (s.direct o code params lengthGood demands body).mail = (f { s with mail := ml }).mail ++ more := by
  obtain ⟨ml, v, hv, hanswered, hbeside, hmail⟩ := direct_owner h passes
  rw [does] at hv hanswered
  have hv : v = f { s with mail := ml } := hv.trans (ite_self _)
  exact ⟨hanswered, ml, hv ▸ hbeside, hv ▸ hmail⟩

/-! ## What stands beside a directive -/

theorem besideDirective_port (h : t.besideDirective = u.besideDirective) : t.port = u.port :=
  show t.besideDirective.port = u.besideDirective.port by rw [h]

theorem besideDirective_ports (h : t.besideDirective = u.besideDirective) : t.ports = u.ports :=
  show t.besideDirective.ports = u.besideDirective.ports by rw [h]

theorem besideDirective_lwu (h : t.besideDirective = u.besideDirective) : t.lwu = u.lwu :=
  show t.besideDirective.lwu = u.besideDirective.lwu by rw [h]

theorem besideDirective_faults (h : t.besideDirective = u.besideDirective) : t.mga.faults = u.mga.faults :=
  show t.besideDirective.mga.faults = u.besideDirective.mga.faults by rw [h]

/-- A directive for a port outside L0..L15 is refused by its owner (1.8). -/
theorem onPort_bad {x : Octet} (h : 16 ≤ x.toNat) (f : Port → State → Answer) (s : State) : onPort [x] f s = refuse .badParam s := by
  have hnone : namedPort [x] = none := dif_neg (Nat.not_lt.mpr h)
  unfold onPort
  rw [hnone]

theorem portOctet_toNat (p : Port) : (portOctet p).toNat = p.val := by
  have hp := p.isLt
  simp only [portOctet, octet, BitVec.toNat_ofNat]
  omega

theorem onPort_good (p : Port) (f : Port → State → Answer) (s : State) : onPort [portOctet p] f s = f p s := by
  have hport : namedPort [portOctet p] = some p := by
    have hread : namedPort [portOctet p] = portOf (portOctet p).toNat := rfl
    rw [hread, portOctet_toNat, portOf, dif_pos p.isLt]
  unfold onPort
  rw [hport]

/-! ## O24 -/

theorem foldl_rewatch (ps : List Port) (s : State) : (ps.foldl (fun s p => s.rewatch p) s).ports = s.ports ∧
    (ps.foldl (fun s p => s.rewatch p) s).lwu.armed = s.lwu.armed ∧ (ps.foldl (fun s p => s.rewatch p) s).mail = s.mail := by
  induction ps generalizing s with
  | nil => exact ⟨rfl, rfl, rfl⟩
  | cons p rest ih =>
    rw [List.foldl_cons]
    obtain ⟨hports, harmed, hmail⟩ := ih (s.rewatch p)
    exact ⟨hports.trans (by simp), harmed.trans (by simp), hmail.trans (by simp)⟩

/-- Arming the Line Watch Unit changes no Port Record (R146). -/
theorem State.arm_spec (s : State) : s.arm.ports = s.ports ∧ s.arm.lwu.armed = true ∧ s.arm.mail = s.mail := by
  obtain ⟨hports, harmed, hmail⟩ := foldl_rewatch allPorts { s with lwu := { s.lwu with armed := true } }
  cases h : s.lwu.armed with
  | true => rw [show s.arm = s from if_pos h]; exact ⟨rfl, h, rfl⟩
  | false =>
    rw [show s.arm = allPorts.foldl (fun s p => s.rewatch p) { s with lwu := { s.lwu with armed := true } } from if_neg (by simp [h])]
    exact ⟨hports, harmed, hmail⟩

theorem State.arm_port (s : State) : s.arm.port = s.port := funext fun q => by rw [port, s.arm_spec.1]; rfl

/-- What messages there are does not change how a port returns to service. -/
theorem State.served_mail (ml : List Instr) (p : Port) (r : PortRecord) (wake : Bool) (s : State) :
    ({ s with mail := ml } : State).served p r wake = s.served p r wake := by
  have hshed : ({ s with mail := ml } : State).wouldShed p = s.wouldShed p := wouldShed_congr (.refl p _) (fun _ => rfl) rfl rfl rfl rfl
  unfold served
  rw [hshed]

/-- What PORT_ENABLE comes to when it is not refused: the change of its case, and the watches armed (R21, R146). -/
theorem portEnable_done (p : Port) (may : s.mayChange o) (comes : s.comesUp o 0x10#8 [portOctet p]) {f : State → State}
    (does : ∀ ml : List Instr, ({ s with mail := ml } : State).portEnable p = done (f { s with mail := ml }).arm) :
    ∃ t, exec (.portEnable o [portOctet p]) s = .next t ∧ Answered 0x10#8 .done [] s t ∧ t.lwu.armed = true ∧
      ∃ ml : List Instr, t.ports = (f { s with mail := ml }).ports := by
  obtain ⟨hanswered, ml, hbeside, -⟩ := State.direct_done (lengthGood := true) (demands := .changing) (f := fun u => (f u).arm) (data := [])
    (body := onPort [portOctet p] State.portEnable) comes (State.passes_of_mayChange may _ _)
    fun ml => (onPort_good p _ _).trans (does ml)
  obtain ⟨hports, harmed, -⟩ := (f { s with mail := ml }).arm_spec
  exact ⟨_, rfl, hanswered, (congrArg Watch.armed (besideDirective_lwu hbeside)).trans harmed, ml, (besideDirective_ports hbeside).trans hports⟩

theorem portDisable_done (p : Port) (may : s.mayChange o) (comes : s.comesUp o 0x11#8 [portOctet p]) :
    ∃ t, exec (.portDisable o [portOctet p]) s = .next t ∧ Answered 0x11#8 .done [] s t ∧
      ∃ ml : List Instr, t.besideDirective = (({ s with mail := ml } : State).portDisable p).besideDirective ∧
        ∃ more, t.mail = (({ s with mail := ml } : State).portDisable p).mail ++ more := by
  obtain ⟨hanswered, ml, hbeside, hmail⟩ := State.direct_done (lengthGood := true) (demands := .changing) (f := fun u => u.portDisable p) (data := [])
    (body := onPort [portOctet p] fun p s => done (s.portDisable p)) comes (State.passes_of_mayChange may _ _) fun ml => onPort_good p _ _
  exact ⟨_, rfl, hanswered, ml, hbeside, hmail⟩

/-- A port's PORT_DISABLE in TEST is reported with the request's id (R22). -/
def State.tellDisabled (id : Option Nat) (s : State) : State :=
  match id with
  | some id => s.post (.portDisabledReport id)
  | none => s

/-- PORT_DISABLE by the port's state (R22). -/
theorem State.portDisable_eq (p : Port) (s : State) :
    ((s.port p).state = .disabled → s.portDisable p = s) ∧
      ((s.port p).state = .held → s.portDisable p = s.changePort p { s.port p with state := .disabled, returnTarget := none }) ∧
      ((s.port p).state = .test → s.portDisable p =
        (s.changePort p { s.port p with returnTarget := some .disabled, causes := .empty, wakePending := false }).tellDisabled (s.port p).testRef) ∧
      ((s.port p).state = .down ∨ (s.port p).state = .training ∨ (s.port p).state = .up ∨ (s.port p).state = .doze →
        s.portDisable p = s.changePort p { s.port p with state := .disabled, causes := .empty, wakePending := false }) := by
  unfold portDisable
  dsimp only
  refine ⟨fun h => ?_, fun h => ?_, fun h => ?_, fun h => ?_⟩
  · split <;> simp_all
  · split <;> simp_all
  · split <;> simp_all [tellDisabled] <;> rfl
  · split <;> simp_all

/-- What messages there are does not change what is refused by PORT_ENABLE. -/
theorem portEnable_refused (p : Port) (may : s.mayChange o) (comes : s.comesUp o 0x10#8 [portOctet p])
    (latched : (s.port p).state = .held ∨ ((s.port p).state = .disabled ∧ (s.port p).held.any = true)) :
    ∃ t, exec (.portEnable o [portOctet p]) s = .next t ∧ Answered 0x10#8 .faultLatched [] s t ∧ t.besideDirective = s.besideDirective := by
  refine ⟨_, rfl, State.direct_refused (lengthGood := true) (demands := .changing) (body := onPort [portOctet p] State.portEnable) comes
    (State.passes_of_mayChange may _ _) fun ml => (onPort_good p _ _).trans ?_⟩
  have hport : ({ s with mail := ml } : State).port p = s.port p := rfl
  unfold State.portEnable
  rcases latched with h | ⟨h, hheld⟩
  · simp [hport, h]
  · simp [hport, h, hheld]

/-- A return to service from DISABLED that PORT_ENABLE makes (R18, R21). -/
theorem portEnable_returns (p : Port) (may : s.mayChange o) (comes : s.comesUp o 0x10#8 [portOctet p]) (disabled : (s.port p).state = .disabled)
    (free : (s.port p).held.any = false) : ∃ t, exec (.portEnable o [portOctet p]) s = .next t ∧ Answered 0x10#8 .done [] s t ∧
      t.lwu.armed = true ∧ t.port p = s.served p (s.port p) false := by
  obtain ⟨t, hexec, hanswered, harmed, ml, hports⟩ := portEnable_done p may comes (f := fun u => u.returnToService p (u.port p) false) fun ml => by
    have hport : ({ s with mail := ml } : State).port p = s.port p := rfl
    simp [State.portEnable, hport, disabled, free]
  refine ⟨t, hexec, hanswered, harmed, ?_⟩
  calc t.port p = (({ s with mail := ml } : State).returnToService p (s.port p) false).port p := congrArg (·.get p) hports
    _ = s.served p (s.port p) false := by rw [State.returnToService_port, State.served_mail, Bool.false_and]

/-- A change of the port's record that PORT_DISABLE makes (R22). -/
theorem portDisable_changes (p : Port) (may : s.mayChange o) (comes : s.comesUp o 0x11#8 [portOctet p])
    (out : r.state = .disabled ∨ r.state = .doze ∨ r.state = .test ∨ r.state = .held) (id : Option Nat)
    (does : ∀ ml : List Instr, ({ s with mail := ml } : State).portDisable p = (({ s with mail := ml } : State).changePort p r).tellDisabled id) :
    ∃ t, exec (.portDisable o [portOctet p]) s = .next t ∧ Answered 0x11#8 .done [] s t ∧
      t.port p = { r with orderOn := false, rates := none, idleTimer := none } ∧ (∀ k, id = some k → Instr.portDisabledReport k ∈ t.mail) ∧
      OtherPorts p s t := by
  obtain ⟨t, hexec, hanswered, ml, hbeside, more, hmail⟩ := portDisable_done p may comes
  have htold (u : State) : (u.tellDisabled id).ports = u.ports ∧ ∀ k, id = some k → Instr.portDisabledReport k ∈ (u.tellDisabled id).mail := by
    cases id with
    | none => exact ⟨rfl, fun _ h => (Option.some_ne_none _ h.symm).elim⟩
    | some id => exact ⟨rfl, fun k h => Option.some.inj h ▸ List.mem_append_right _ (.head _)⟩
  rw [does] at hbeside hmail
  obtain ⟨hsame, hreport⟩ := htold (({ s with mail := ml } : State).changePort p r)
  have hports : t.port = (({ s with mail := ml } : State).changePort p r).port :=
    (besideDirective_port hbeside).trans (funext fun q => congrArg (·.get q) hsame)
  refine ⟨t, hexec, hanswered, ?_, fun k hk => ?_, fun q hq => ?_⟩
  · rw [hports, State.port_changePort_self, PortRecord.ordered_off out]
  · rw [hmail]
    exact List.mem_append_left _ (hreport k hk)
  · rw [hports]
    exact (State.changePort_lineChange p r _ false).1 q hq

/-- A directive for a port outside L0..L15 is refused BAD_PARAM (1.8). -/
theorem onPort_refused {x : Octet} (may : s.mayChange o) (bad : 16 ≤ x.toNat) (code : Octet) (comes : s.comesUp o code [x]) (demands : Demands)
    (f : Port → State → Answer) : Answered code .badParam [] s (s.direct o code [x] true demands (onPort [x] f)) ∧
      (s.direct o code [x] true demands (onPort [x] f)).besideDirective = s.besideDirective :=
  State.direct_refused comes (State.passes_of_mayChange may _ _) fun _ => onPort_bad bad f _

/-- Settles O24: by the port's state, each case of R21 and R22 is one change of its record. -/
theorem enableAndDisable : Obligations.EnableAndDisable := by
  refine fun o p s may => ⟨fun comes => ⟨portEnable_refused p may comes, fun hdisabled hfree hrest hnormal => ?_, fun hsound hdisabled hfree hmoving => ?_,
    fun htest htarget => ?_, fun hserves => ?_⟩, fun comes => ⟨fun hserves => ?_, fun hheld => ?_, fun htest => ?_, fun hdisabled => ?_⟩,
    fun x bad => ⟨fun comes => ⟨_, rfl, onPort_refused may bad _ comes _ _⟩, fun comes => ⟨_, rfl, onPort_refused may bad _ comes _ _⟩⟩⟩
  · obtain ⟨t, hexec, hanswered, harmed, hport⟩ := portEnable_returns p may comes hdisabled hfree
    refine ⟨t, hexec, hanswered, harmed, hport.trans ?_⟩
    simp [State.served, hrest, hnormal]
  · obtain ⟨t, hexec, hanswered, harmed, hport⟩ := portEnable_returns p may comes hdisabled hfree
    have hsome : (s.port p).transfer.isNone = false := Option.isNone_eq_false_iff.mpr (Option.isSome_iff_ne_none.mpr hmoving)
    have hoff : (s.port p).orderOn = false := hsound.ordersOff (.inl hdisabled)
    have hserved : s.served p (s.port p) false =
        s.inService p { s.port p with orderOn := false, rates := none, idleTimer := none, wakePending := false } := by
      simp [State.served, State.inService, hsome, hoff]
    rw [hserved] at hport
    refine ⟨t, hexec, hanswered, harmed, hport, ?_, ?_⟩ <;> rw [hport, State.inService] <;> split <;> simp [hsome]
  · obtain ⟨t, hexec, hanswered, harmed, ml, hports⟩ := portEnable_done p may comes
      (f := fun u => u.changePort p { s.port p with returnTarget := some .down }) fun ml => by
        have hport : ({ s with mail := ml } : State).port p = s.port p := rfl
        simp [State.portEnable, hport, htest, htarget]
    have hport (q : Port) : t.port q = _ := congrArg (·.get q) hports
    exact ⟨t, hexec, hanswered, (hport p).trans ((State.port_changePort_self p _ _ false).trans (PortRecord.ordered_off (.inr (.inr (.inl htest))))),
      fun q hq => (hport q).trans ((State.changePort_lineChange p _ _ false).1 q hq)⟩
  · obtain ⟨t, hexec, hanswered, harmed, ml, hports⟩ := portEnable_done p may comes (f := id) fun ml => by
      have hport : ({ s with mail := ml } : State).port p = s.port p := rfl
      rcases hserves with h | h | h | h | ⟨h, htarget⟩
      case inr.inr.inr.inr => simp [State.portEnable, hport, h, htarget]
      all_goals simp [State.portEnable, hport, h]
    exact ⟨t, hexec, hanswered, hports⟩
  · obtain ⟨t, hexec, hanswered, hport, -, hother⟩ := portDisable_changes p may comes
      (r := { s.port p with state := .disabled, causes := .empty, wakePending := false }) (.inl rfl) none
      fun ml => ((State.portDisable_eq p { s with mail := ml }).2.2.2 hserves :)
    exact ⟨t, hexec, hanswered, hport, hother⟩
  · obtain ⟨t, hexec, hanswered, hport, -, hother⟩ := portDisable_changes p may comes
      (r := { s.port p with state := .disabled, returnTarget := none }) (.inl rfl) none
      fun ml => ((State.portDisable_eq p { s with mail := ml }).2.1 hheld :)
    exact ⟨t, hexec, hanswered, hport, hother⟩
  · exact portDisable_changes p may comes
      (r := { s.port p with returnTarget := some .disabled, causes := .empty, wakePending := false }) (.inr (.inr (.inl htest))) _
      fun ml => ((State.portDisable_eq p { s with mail := ml }).2.2.1 htest :)
  · obtain ⟨t, hexec, hanswered, ml, hbeside, -⟩ := portDisable_done p may comes
    have hsame : ({ s with mail := ml } : State).portDisable p = { s with mail := ml } := (State.portDisable_eq p _).1 hdisabled
    rw [hsame] at hbeside
    exact ⟨t, hexec, hanswered, hbeside⟩

end Sys2Proof.Machine
end

section
/-! SUPPORT for O25 and later obligations: what an evaluation keeps, and O25: PORT_CLEAR and PORT_WAKE. -/

namespace Sys2Proof.Machine

variable {s t u : State} {p q : Port} {r : PortRecord} {o : Origin}

/-! ## What an evaluation keeps (R171 to R173) -/

/-- What every change of a port's record, every message and every decision kept leaves standing stands after an evaluation. -/
theorem State.evaluate_keeps {P : State → Prop} (change : ∀ (u : State) (p : Port) (r : PortRecord) (e : Bool), P u → P (u.changePort p r e))
    (post : ∀ (u : State) (c : Instr), P u → P (u.post c)) (budget : ∀ (u : State) (b : Budget), P u → P { u with pbu := b })
    (c : Option Port) (h : P s) : P (s.evaluate c) := by
  have hdoze (q : Port) (u : State) (hu : P u) : P (u.addDoze q .shed) := by
    unfold addDoze
    dsimp only
    split
    case h_5 => split <;> [exact change _ _ _ _ hu; exact hu]
    case h_6 => exact hu
    case h_7 => exact hu
    all_goals exact change _ _ _ _ hu
  have hback (q : Port) (u : State) (hu : P u) : P (u.removeShed q) := by
    unfold removeShed
    dsimp only
    split
    · split
      · split <;> exact change _ _ _ _ hu
      · split <;> [exact change _ _ _ _ hu; exact hu]
      · exact hu
    · exact hu
  have hhand (x : LoadEntry) (u : State) (hu : P u) : P (u.handOn c x) := by
    unfold handOn
    split
    · exact hu
    · have hset := budget u (u.pbu.setSent x.load (some x.decision)) hu
      dsimp only
      split
      · split
        · exact hset
        · split
          · exact hdoze _ _ hset
          · exact hback _ _ hset
      · exact hset
      · split <;> exact post _ _ hset
  have hfold (xs : List LoadEntry) (u : State) (hu : P u) : P (xs.foldl (fun s x => s.handOn c x) u) := by
    induction xs generalizing u with
    | nil => exact hu
    | cons x rest ih => exact ih _ (hhand x u hu)
  exact hfold _ { s with pbu := { s.pbu.dropAbsent (s.evaluationNow c) with last := some (s.evaluationNow c) } } (budget s _ h)

theorem State.returnToService_keeps {P : State → Prop} (change : ∀ (u : State) (p : Port) (r : PortRecord) (e : Bool), P u → P (u.changePort p r e))
    (post : ∀ (u : State) (c : Instr), P u → P (u.post c)) (budget : ∀ (u : State) (b : Budget), P u → P { u with pbu := b })
    (p : Port) (r : PortRecord) (keepWake : Bool) (h : P s) : P (s.returnToService p r keepWake) := by
  have heval : P (s.evaluate (some p)) := State.evaluate_keeps change post budget _ h
  unfold returnToService
  dsimp only
  split <;> exact change _ _ _ _ heval

/-- No record of the log but one of foreign voltage is new or other than before. -/
def OnlyForeign (s t : State) : Prop := ∀ f ∈ t.mga.faults, f.kind ≠ .foreignVoltage → f ∈ s.mga.faults

theorem State.changePort_onlyForeign (u : State) (p : Port) (r : PortRecord) (e : Bool) (h : OnlyForeign s u) : OnlyForeign s (u.changePort p r e) := by
  rcases u.changePort_faults p r e with hf | hf
  · unfold OnlyForeign
    rwa [hf]
  · intro f hmem hkind
    rw [hf, updateFault, List.mem_map] at hmem
    obtain ⟨f₀, hmem, rfl⟩ := hmem
    split at hkind
    · next hkey => exact absurd ((FaultRecord.hasKey_iff _).mp hkey).2 hkind
    · next hkey =>
      rw [if_neg hkey]
      exact h f₀ hmem hkind

theorem State.returnToService_onlyForeign (p : Port) (r : PortRecord) (keepWake : Bool) (s : State) :
    OnlyForeign s (s.returnToService p r keepWake) :=
  State.returnToService_keeps (P := OnlyForeign s) (fun u p r e hu => State.changePort_onlyForeign u p r e hu) (fun _ _ hu => hu) (fun _ _ hu => hu) p r keepWake
    (fun _ hf _ => hf)

/-! ## PORT_CLEAR (R13) -/

/-- A port leaves the held state, its faults inactive (R13). -/
def State.unhold (p : Port) (s : State) : State :=
  let s := (s.clearFault (.line p) .relayMismatch).clearFault (.line p) .hazard
  let r := s.restored p
  if r.state = .disabled then s.installPort p r
  else if r.returnTarget = some .disabled then s.changePort p { r with state := .disabled, returnTarget := none }
  else s.returnToService p { r with returnTarget := none } false

/-- The port is held (R11, R12). -/
def State.isHeld (s : State) (p : Port) : Prop := (s.port p).state = .held ∨ ((s.port p).state = .disabled ∧ (s.port p).held.any = true)

/-- What holds the port is still present (R13). -/
def State.holdsStill (s : State) (p : Port) : Prop :=
  (s.port p).lineClosedSense = true ∨ (s.port p).testClosedSense = true ∨ (s.lwu.records.get p).hazardDeclared = true

theorem State.portClear_eq (p : Port) (s : State) :
    (¬ s.isHeld p → s.portClear p = refuse .wrongState s) ∧ (s.isHeld p → s.holdsStill p → s.portClear p = refuse .stillPresent s) ∧
      (s.isHeld p → ¬ s.holdsStill p → s.portClear p = done (s.unhold p)) := by
  unfold portClear
  dsimp only
  refine ⟨fun hno => if_neg hno, fun hheld hstill => (if_pos hheld).trans (if_pos hstill), fun hheld hgone => (if_pos hheld).trans ((if_neg hgone).trans ?_)⟩
  unfold unhold
  dsimp only
  split
  · rfl
  · split <;> rfl

/-- What PORT_CLEAR leaves of the port, of its faults and of the other blocks. -/
theorem State.unhold_spec (p : Port) (s : State) :
    let cleared : PortRecord :=
      { s.port p with
        held := ⟨false, false⟩, lineClosedCmd := true, testClosedCmd := false, position := .normal
        transfer := some ⟨.restoring, .settle, s.now + s.settings.relaySettle * 1000⟩ }
    (s.unhold p).port p =
        (if (s.port p).state = .disabled then cleared.outOfUp.ordered
         else if (s.port p).returnTarget = some .disabled then
           { cleared with state := .disabled, returnTarget := none, orderOn := false, rates := none, idleTimer := none }
         else s.served p { cleared with returnTarget := none } false) ∧
      (∀ f ∈ (s.unhold p).mga.faults, f.source = .line p → f.kind = .relayMismatch ∨ f.kind = .hazard → f.active = false) ∧
      (s.unhold p).ptc = s.ptc ∧ (s.unhold p).msu = s.msu ∧ (s.unhold p).csu = s.csu ∧ (s.unhold p).settings = s.settings ∧
      (s.unhold p).fcl = s.fcl := by
  intro cleared
  let u := (s.clearFault (.line p) .relayMismatch).clearFault (.line p) .hazard
  have hrestored : u.restored p = cleared := rfl
  have hquiet (f) (hf : f ∈ u.mga.faults) (hsource : f.source = .line p) (hkind : f.kind = .relayMismatch ∨ f.kind = .hazard) : f.active = false := by
    simp only [u, clearFault, updateFault, List.map_map, List.mem_map, Function.comp_apply] at hf
    obtain ⟨f₀, -, rfl⟩ := hf
    by_cases h₁ : f₀.hasKey (.line p) .relayMismatch = true
    · by_cases h₂ : f₀.hasKey (.line p) .hazard = true <;> simp [h₁, h₂]
    · by_cases h₂ : f₀.hasKey (.line p) .hazard = true
      · simp [h₁, h₂]
      · simp only [h₁, h₂, Bool.false_eq_true, if_false] at hsource hkind
        rcases hkind with hkind | hkind
        · exact absurd ((FaultRecord.hasKey_iff _).mpr ⟨hsource, hkind⟩) h₁
        · exact absurd ((FaultRecord.hasKey_iff _).mpr ⟨hsource, hkind⟩) h₂
  have hforeign {v : State} (h : OnlyForeign u v) (f) (hf : f ∈ v.mga.faults) (hsource : f.source = .line p)
      (hkind : f.kind = .relayMismatch ∨ f.kind = .hazard) : f.active = false :=
    hquiet f (h f hf (by rcases hkind with h | h <;> simp [h])) hsource hkind
  by_cases hdisabled : (s.port p).state = .disabled
  · have heq : s.unhold p = u.installPort p cleared := if_pos hdisabled
    rw [heq, if_pos hdisabled]
    refine ⟨?_, fun f hf => hquiet f (by simpa using hf), by simp [u], by simp [u], by simp [u], by simp [u], by simp [u]⟩
    simp [port, installPort_frame]
  · by_cases htarget : (s.port p).returnTarget = some .disabled
    · have heq : s.unhold p = u.changePort p { cleared with state := .disabled, returnTarget := none } :=
        (if_neg hdisabled).trans (if_pos htarget)
      rw [heq, if_neg hdisabled, if_pos htarget]
      refine ⟨?_, hforeign (State.changePort_onlyForeign u _ _ _ fun _ hf _ => hf), by simp [u], by simp [u], by simp [u], by simp [u], by simp [u]⟩
      rw [port_changePort_self, PortRecord.ordered_off (.inl rfl)]
    · have heq : s.unhold p = u.returnToService p { cleared with returnTarget := none } false :=
        (if_neg hdisabled).trans (if_neg htarget)
      rw [heq, if_neg hdisabled, if_neg htarget]
      refine ⟨?_, hforeign (u.returnToService_onlyForeign _ _ _), by simp [u], by simp [u], by simp [u], by simp [u], by simp [u]⟩
      have hshed : u.wouldShed p = s.wouldShed p := wouldShed_congr (.refl p _) (fun _ => rfl) rfl rfl rfl rfl
      have hserved (r : PortRecord) : u.served p r false = s.served p r false := by
        unfold served
        rw [hshed]
        rfl
      rw [returnToService_port, Bool.false_and, hserved]

/-- A directive for one port that its owner refuses. -/
theorem onPort_refuses {code : Octet} {demands : Demands} {body : Port → State → Answer} {why : DirectiveOutcome} (p : Port) (may : s.mayChange o)
    (comes : s.comesUp o code [portOctet p]) (refuses : ∀ ml : List Instr, body p { s with mail := ml } = refuse why { s with mail := ml }) :
    Answered code why [] s (s.direct o code [portOctet p] true demands (onPort [portOctet p] body)) ∧
      (s.direct o code [portOctet p] true demands (onPort [portOctet p] body)).besideDirective = s.besideDirective :=
  State.direct_refused comes (State.passes_of_mayChange may _ _) fun ml => (onPort_good p _ _).trans (refuses ml)

/-- A directive for one port that is carried out. -/
theorem onPort_does {code : Octet} {demands : Demands} {body : Port → State → Answer} {f : State → State} (p : Port) (may : s.mayChange o)
    (comes : s.comesUp o code [portOctet p]) (does : ∀ ml : List Instr, body p { s with mail := ml } = done (f { s with mail := ml })) :
    Answered code .done [] s (s.direct o code [portOctet p] true demands (onPort [portOctet p] body)) ∧ ∃ ml : List Instr,
      (s.direct o code [portOctet p] true demands (onPort [portOctet p] body)).besideDirective = (f { s with mail := ml }).besideDirective := by
  obtain ⟨hanswered, ml, hbeside, -⟩ := State.direct_done (data := []) (f := f) comes (State.passes_of_mayChange may demands (onPort [portOctet p] body))
    fun ml => (onPort_good p _ _).trans (does ml)
  exact ⟨hanswered, ml, hbeside⟩

theorem besideDirective_blocks (h : t.besideDirective = u.besideDirective) :
    t.ptc = u.ptc ∧ t.msu = u.msu ∧ t.csu = u.csu ∧ t.settings = u.settings ∧ t.fcl = u.fcl :=
  have part {β : Type} (f : State → β) : f t.besideDirective = f u.besideDirective := congrArg f h
  ⟨part State.ptc, part State.msu, part State.csu, part State.settings, part State.fcl⟩

/-! ## PORT_WAKE (R15, R16) -/

/-- A wake by the port's state and its other causes. -/
theorem State.wake_spec (p : Port) (s : State) (h : (s.port p).state = .doze ∨ (s.port p).state = .test) :
    ((s.port p).causes.shed = true ∨ (s.port p).causes.thermal = true → s.wake p true =
        s.changePort p { s.port p with causes := ⟨(s.port p).causes.shed, (s.port p).causes.thermal, false⟩, wakePending := true }) ∧
      ((s.port p).state = .test → (s.port p).causes.shed = false → (s.port p).causes.thermal = false → s.wake p true =
        s.changePort p { s.port p with causes := ⟨(s.port p).causes.shed, (s.port p).causes.thermal, false⟩ }) ∧
      ((s.port p).state = .doze → (s.port p).causes = ⟨false, false, true⟩ → s.wake p true =
        s.returnToService p { s.port p with causes := ⟨false, false, false⟩, wakePending := false } false) := by
  have hput : (s.port p).causes.put .idle false = ⟨(s.port p).causes.shed, (s.port p).causes.thermal, false⟩ := rfl
  refine ⟨fun hleft => ?_, fun htest hshed hthermal => ?_, fun hdoze hcauses => ?_⟩
  · have hempty : DozeCauses.isEmpty ⟨(s.port p).causes.shed, (s.port p).causes.thermal, false⟩ = false := by
      rcases hleft with h | h <;> simp [DozeCauses.isEmpty, h]
    simp only [wake, hput, hempty]
    rw [if_pos (h.imp id fun htest => ⟨trivial, htest⟩), if_neg Bool.false_ne_true]
  · simp [wake, htest, hput, hshed, hthermal, DozeCauses.isEmpty]
  · have hout : (⟨false, false, true⟩ : DozeCauses).put .idle false = ⟨false, false, false⟩ := rfl
    have hempty : DozeCauses.isEmpty ⟨false, false, false⟩ = true := rfl
    have hidle : (⟨false, false, true⟩ : DozeCauses).has .idle = true := rfl
    simp [wake, removeDoze, hdoze, hcauses, hout, hempty, hidle]

/-- PORT_WAKE on a port it reaches. -/
theorem portWake_done (p : Port) (may : s.mayChange o) (comes : s.comesUp o 0x13#8 [portOctet p])
    (reach : (s.port p).state = .doze ∨ (s.port p).state = .test) :
    ∃ t, exec (.portWake o [portOctet p]) s = .next t ∧ Answered 0x13#8 .done [] s t ∧
      ∃ ml : List Instr, t.port = (({ s with mail := ml } : State).wake p true).port := by
  obtain ⟨hanswered, ml, hbeside⟩ := onPort_does (body := State.portWake) (demands := .changing) (f := fun u => u.wake p true) p may comes fun ml => by
    have hport : ({ s with mail := ml } : State).port p = s.port p := rfl
    unfold State.portWake
    rcases reach with h | h <;> simp [hport, h]
  exact ⟨_, rfl, hanswered, ml, besideDirective_port hbeside⟩

/-- A wake that changes the record of the port and nothing of the others. -/
theorem portWake_changes (p : Port) (may : s.mayChange o) (comes : s.comesUp o 0x13#8 [portOctet p])
    (reach : (s.port p).state = .doze ∨ (s.port p).state = .test) (kept : r.state = (s.port p).state)
    (does : ∀ ml : List Instr, ({ s with mail := ml } : State).wake p true = ({ s with mail := ml } : State).changePort p r) :
    ∃ t, exec (.portWake o [portOctet p]) s = .next t ∧ Answered 0x13#8 .done [] s t ∧
      t.port p = { r with orderOn := false, rates := none, idleTimer := none } ∧ OtherPorts p s t := by
  obtain ⟨t, hexec, hanswered, ml, hport⟩ := portWake_done p may comes reach
  rw [does] at hport
  have hout : r.state = .disabled ∨ r.state = .doze ∨ r.state = .test ∨ r.state = .held := by
    rw [kept]
    exact .inr (reach.imp id .inl)
  refine ⟨t, hexec, hanswered, ?_, fun q hq => ?_⟩
  · rw [hport, State.port_changePort_self, PortRecord.ordered_off hout]
  · rw [hport]
    exact (State.changePort_lineChange p r _ false).1 q hq

/-- Settles O25. -/
theorem clearAndWake : Obligations.ClearAndWake := by
  refine ⟨fun o p s hsound may comes => ⟨fun hno => ?_, fun hheld hstill => ?_, fun hheld hgone => ?_⟩,
    fun o x s may bad => ⟨fun comes => ⟨_, rfl, onPort_refused may bad _ comes _ _⟩, fun comes => ⟨_, rfl, onPort_refused may bad _ comes _ _⟩⟩,
    fun o p s may comes => ⟨fun hdoze htest => ?_, fun reach hleft => ?_, fun htest hshed hthermal => ?_, fun hdoze hcauses hrest hnormal => ?_⟩⟩
  · exact ⟨_, rfl, onPort_refuses p may comes fun ml => (State.portClear_eq p { s with mail := ml }).1 hno⟩
  · exact ⟨_, rfl, onPort_refuses p may comes fun ml => (State.portClear_eq p { s with mail := ml }).2.1 hheld hstill⟩
  · obtain ⟨hanswered, ml, hbeside⟩ := onPort_does (body := State.portClear) (demands := .changing) (f := fun u => u.unhold p) p may comes
      fun ml => (State.portClear_eq p { s with mail := ml }).2.2 hheld hgone
    obtain ⟨hport, hfaults, hptc, hmsu, hcsu, hsettings, hfcl⟩ := State.unhold_spec p { s with mail := ml }
    obtain ⟨hptc', hmsu', hcsu', hsettings', hfcl'⟩ := besideDirective_blocks hbeside
    have hport := (congrFun (besideDirective_port hbeside) p).trans hport
    have hoff : (s.port p).orderOn = false := hsound.ordersOff (hheld.elim (fun h => .inr (.inr (.inr h))) fun h => .inl h.1)
    have hthis (h : (s.port p).state = .held) : (s.port p).state ≠ .disabled := by simp [h]
    refine ⟨_, rfl, hanswered, fun f hf => hfaults f (besideDirective_faults hbeside ▸ hf), fun hstate htarget => ?_, fun hstate htarget => ?_,
      fun hstate => ?_, hptc'.trans hptc, hmsu'.trans hmsu, hcsu'.trans hcsu, hsettings'.trans hsettings, hfcl'.trans hfcl⟩
    · exact hport.trans ((if_neg (hthis hstate)).trans (if_pos htarget))
    · have htarget' : (s.port p).returnTarget ≠ some .disabled := by simp [htarget]
      refine (hport.trans ((if_neg (hthis hstate)).trans (if_neg htarget'))).trans ?_
      have hsame : ({ s with mail := ml } : State).port p = s.port p := rfl
      rw [State.served_mail]
      simp [State.served, hoff, hsame]
    · exact hport.trans ((if_pos hstate).trans (PortRecord.ordered_off (.inl hstate)))
  · refine ⟨_, rfl, onPort_refuses p may comes fun ml => ?_⟩
    have hport : ({ s with mail := ml } : State).port p = s.port p := rfl
    unfold State.portWake
    split <;> simp_all
  · exact portWake_changes p may comes
      (r := { s.port p with causes := ⟨(s.port p).causes.shed, (s.port p).causes.thermal, false⟩, wakePending := true }) reach rfl
      fun ml => ((State.wake_spec p { s with mail := ml } reach).1 hleft :)
  · exact portWake_changes p may comes
      (r := { s.port p with causes := ⟨(s.port p).causes.shed, (s.port p).causes.thermal, false⟩ }) (.inr htest) rfl
      fun ml => ((State.wake_spec p { s with mail := ml } (.inr htest)).2.1 htest hshed hthermal :)
  · obtain ⟨t, hexec, hanswered, ml, hport⟩ := portWake_done p may comes (.inl hdoze)
    have hwake : ({ s with mail := ml } : State).wake p true = ({ s with mail := ml } : State).returnToService p
        { s.port p with causes := ⟨false, false, false⟩, wakePending := false } false :=
      (State.wake_spec p { s with mail := ml } (.inl hdoze)).2.2 hdoze hcauses
    refine ⟨t, hexec, hanswered, (congrFun hport p).trans ?_⟩
    rw [hwake, State.returnToService_port, State.served_mail]
    simp [State.served, hrest, hnormal]

end Sys2Proof.Machine
end

section
/-! The obligations on frames in reception: O26, O27, O28 (02, 03). -/

namespace Sys2Proof.Machine

variable {s t : State} {p : Port} {src : Source} {a : Area} {r : Reception}

/-! ## A frame in reception taken, kept or dropped -/

theorem State.setReception_only (src : Source) (r : Option Reception) (s : State) :
    ReceptionOnly src s (s.setReception src r) ∧ OnlyIn [.fcl] s (s.setReception src r) :=
  ⟨⟨fun _ hother => reception_setReception_ne r s hother, by cases src <;> rfl⟩, fun part hp => by cases part <;> simp_all [Part.Same]⟩

theorem HeldOnly.setHeld (a : Area) (f : Nat → Nat) (hcbm : t.cbm = { s.cbm.setHeld a f with picks := t.cbm.picks }) : HeldOnly a s t := by
  refine ⟨fun b hb => ?_, ?_⟩
  · unfold State.areaHeld
    rw [hcbm]
    cases a <;> cases b <;> simp_all [Buffer.setHeld]
  · rw [hcbm]
    cases a <;> rfl

/-- A frame takes one cell of its area. -/
theorem State.takeCells_only (src : Source) (a : Area) (r : Reception) (s : State) :
    let t := (s.takeCells a 1).setReception src (some r)
    t.reception src = some r ∧ t.areaHeld a = s.areaHeld a + 1 ∧ ReceptionOnly src s t ∧ HeldOnly a s t ∧ OnlyIn [.fcl, .cbm] s t := by
  intro t
  obtain ⟨⟨hother, hfcl⟩, -⟩ := (s.takeCells a 1).setReception_only src (some r)
  refine ⟨reception_setReception_self _ _ _, ?_, ⟨fun other ho => (hother other ho).trans (by simp), hfcl⟩,
    .setHeld a (· + 1) ?_, fun part hp => by cases part <;> simp_all [Part.Same, t]⟩
  · simp [t, areaHeld_takeCells]
  · simp [t, takeCells]

/-- A frame is dropped, and holds no cell any more. -/
theorem State.dropFrame_only (area : sourceArea src = some a) (why : DropReason) (r : Reception) (s : State) :
    let t := s.dropFrame src why r
    t.reception src = some { r with dropped := some why, cells := [] } ∧ t.areaHeld a = s.areaHeld a - r.cells.length ∧ ReceptionOnly src s t ∧
      HeldOnly a s t ∧ OnlyIn [.fcl, .cbm] s t := by
  intro t
  have hreturn : s.returnCells src r.cells.length = s.freeCells a r.cells.length := by
    unfold returnCells
    rw [area]
  obtain ⟨⟨hother, hfcl⟩, -⟩ := (s.freeCells a r.cells.length).setReception_only src (some { r with dropped := some why, cells := [] })
  have ht : t = (s.freeCells a r.cells.length).setReception src (some { r with dropped := some why, cells := [] }) := by
    rw [← hreturn]
    rfl
  rw [ht]
  refine ⟨reception_setReception_self _ _ _, ?_, ⟨fun other ho => (hother other ho).trans (by simp), hfcl⟩,
    .setHeld a (· - r.cells.length) ?_, fun part hp => by cases part <;> simp_all [Part.Same]⟩
  · simp [areaHeld_freeCells]
  · simp only [freeCells, setReception_frame]

/-- The one cell a frame takes: one that no frame held, as long as there is one. -/
theorem State.newCell_fresh (a : Area) (ha : a ≠ .reserved) (s : State) : ∃ c, s.newCells a 1 = [c] ∧
    ((∃ c, c < 4032 ∧ c ∉ s.heldCells) → c < 4032 ∧ c ∉ s.heldCells) := by
  obtain ⟨c, hc⟩ := List.length_eq_one_iff.mp (s.newCells_length a 1)
  have hcells (k : Nat) : k ∈ a.cells ↔ k < 4032 := by
    cases a
    · exact List.mem_range
    · exact List.mem_range
    · exact absurd rfl ha
  refine ⟨c, hc, fun ⟨k, hk, hfree⟩ => ?_⟩
  have hmem : k ∈ s.freeNumbers a := by simp [freeNumbers, hcells, hk, hfree]
  obtain ⟨hin, hout⟩ := (s.newCells_spec a 1 (List.length_pos_of_mem hmem)).2 c (hc ▸ .head _)
  exact ⟨(hcells c).mp hin, hout⟩

/-- Settles O26. -/
theorem framesTakeCells : Obligations.FramesTakeCells := by
  intro src a s hsrc
  have area : sourceArea src = some a := by rcases hsrc with ⟨⟨p, rfl⟩, rfl⟩ | ⟨rfl, rfl⟩ <;> rfl
  obtain ⟨c, hnew, hfresh⟩ := s.newCell_fresh a (by rcases hsrc with ⟨-, rfl⟩ | ⟨-, rfl⟩ <;> simp)
  have hneeds (r : Reception) : r.needs s.settings.expressReserve =
      if r.result.bind (·.cls) = some .bulk then s.settings.expressReserve + 1 else 1 := by
    unfold Reception.needs
    cases r.result.bind (·.cls) with
    | none => rfl
    | some cls => cases cls <;> rfl
  refine ⟨fun hnone hfree => ?_, fun hnone hfull => ?_, fun r h need hr hheader hdropped hshort hneed => ⟨fun hfree => ?_, fun hfull => ?_⟩,
    fun r hr => ⟨?_, fun hdone => ?_⟩, fun hnone halive => ?_, fun hnone hdead => ?_, fun r hr => ?_, ?_⟩
  · obtain ⟨hself, hrest⟩ := s.takeCells_only src a (.fresh (s.newCells a 1))
    exact ⟨_, by simp [exec, execFrameStart, hnone, area, hfree], ⟨c, hfresh, hself.trans (by rw [hnew]; rfl)⟩, hrest⟩
  · refine ⟨_, ?_, State.reception_setReception_self src (some { Reception.fresh [] with dropped := some .poolFull }) s, s.setReception_only _ _⟩
    simp [exec, execFrameStart, hnone, area, hfull]
  · obtain ⟨hself, hrest⟩ := s.takeCells_only src a { r with cells := r.cells ++ s.newCells a 1 }
    refine ⟨_, ?_, ⟨c, hfresh, hself.trans (by rw [hnew])⟩, hrest⟩
    rw [← hneeds] at hneed
    simp [exec, execCellRequest, hr, area, hheader, hdropped, Config.maxFrameCells, Nat.not_le.mpr hshort, ← hneed, hfree]
  · refine ⟨_, ?_, s.dropFrame_only area .poolFull r⟩
    rw [← hneeds] at hneed
    simp [exec, execCellRequest, hr, area, hheader, hdropped, Config.maxFrameCells, Nat.not_le.mpr hshort, ← hneed, Nat.not_le.mpr hfull]
  · simp [exec, execFrameStart, hr]
  · have hdone : r.header.isNone ∨ r.dropped.isSome ∨ Config.maxFrameCells ≤ r.cells.length :=
      .inr (hdone.imp Option.isSome_iff_ne_none.mpr id)
    simp only [exec, execCellRequest, hr, area]
    exact if_pos hdone
  · have hstart : exec (.frameStart .craft) s = .next ((s.setStaleHeader false).setReception .craft (some (.fresh []))) := by
      have hlives : (s.setStaleHeader false).craftAlive = true := halive
      simp [exec, execFrameStart, hnone, sourceArea, halive, hlives]
    exact ⟨_, hstart, State.reception_setReception_self _ _ _, ((s.setStaleHeader false).setReception_only .craft _).1,
      fun part hp => by cases part <;> simp_all [Part.Same]⟩
  · have hlives : (s.setStaleHeader true).craftAlive = false := hdead
    simp only [exec, execFrameStart, hnone, sourceArea, hdead, Option.isSome_none, Bool.false_eq_true, if_false, Bool.not_false, hlives]
    rfl
  · simp [exec, execFrameStart, hr]
  · simp only [exec, execCellRequest]
    cases s.reception .craft <;> rfl

end Sys2Proof.Machine
end

section
/-! The obligations on headers: O27 and O28 (02, 03). -/

namespace Sys2Proof.Machine

variable {s t : State} {p : Port} {src : Source} {a : Area} {r : Reception} {e : FlowEntry} {dir : Direction} {arrival : Option Port} {vid : Nat}
  {mark : Bool} {priority : BitVec 3}

/-! ## Lookup and classification (R31, R35) -/

theorem Bank.lookup_key {b : Bank} (h : b.lookup dir arrival vid = some e) : e.direction = dir ∧ e.port = arrival ∧ e.vid = vid := by
  obtain ⟨x, hx, rfl⟩ := Option.map_eq_some_iff.mp h
  have hkey := List.find?_some hx
  simp only [Bool.and_eq_true, beq_iff_eq] at hkey
  exact ⟨hkey.1.1, hkey.1.2, hkey.2⟩

/-- What the frame of an entry that does not drop it meets at its header. -/
theorem State.headerHit_kept (area : sourceArea src = some a) (keeps : e.action ≠ .drop) (r : Reception) (res : Result × Option QueueId) (s : State) :
    let t := s.headerHit src a e r res
    let short : Prop := res.1.cls = some .bulk ∧ s.areaFree a < s.settings.expressReserve
    (ReceptionOnly src s t ∧ HeldOnly a s t ∧ OnlyIn [.fcl, .cbm] s t) ∧
      (¬short → t.reception src = some { r with hit := some e.stamp, result := some res.1, queue := res.2 } ∧ t.cbm = s.cbm) ∧
      (short → t.reception src =
          some { r with hit := some e.stamp, result := some res.1, queue := res.2, dropped := some .poolFull, cells := [] } ∧
        t.areaHeld a = s.areaHeld a - r.cells.length) := by
  intro t short
  let k : Reception := { r with hit := some e.stamp, result := some res.1, queue := res.2 }
  by_cases hshort : short
  · have ht : t = s.dropFrame src .poolFull k := (if_neg keeps).trans (if_pos hshort)
    obtain ⟨hself, hheld, hframe⟩ := s.dropFrame_only area .poolFull k
    rw [ht]
    exact ⟨hframe, fun hno => absurd hshort hno, fun _ => ⟨hself, hheld⟩⟩
  · have ht : t = s.setReception src (some k) := (if_neg keeps).trans (if_neg hshort)
    obtain ⟨hrec, honly⟩ := s.setReception_only src (some k)
    rw [ht]
    refine ⟨⟨hrec, ⟨fun b _ => by simp, by simp⟩, honly.mono (by decide)⟩, fun _ => ⟨reception_setReception_self _ _ _, by simp⟩, fun h => absurd h hshort⟩

/-- The result of a frame that is forwarded (R31, R35). -/
theorem State.classify_forward {q : Port} (forward : e.action = .forward ∨ e.action = .retag) (queued : e.queuedFor arrival = some q) (s : State) :
    s.classify e arrival vid mark priority =
      ({ action := e.action, destination := match e.direction with | .up => .uplink | .down => .line q
         cls := some (e.classOf priority (s.sub q).classThreshold), egressVid := if e.action = .retag then e.retagVid.getD vid else vid
         insertTag := mark, priority := priority }, some (queueOf e.direction (e.classOf priority (s.sub q).classThreshold) q)) := by
  unfold classify
  rcases forward with h | h <;> simp [h, queued] <;> cases e.direction <;> rfl

theorem State.classify_agent (agent : e.action = .agent) (s : State) : s.classify e arrival vid mark priority =
    ({ action := .agent, destination := .agent, cls := none, egressVid := vid, insertTag := mark, priority := priority }, none) := by
  unfold classify
  simp [agent]

theorem State.lookupFrame_miss (miss : Bank.lookup s.fcl.active dir arrival vid = none) (src : Source) (a : Area) (r : Reception) :
    s.lookupFrame src a dir arrival vid mark priority r = s.dropFrame src .noEntry r := by
  simp [lookupFrame, miss]

theorem State.lookupFrame_hit (hit : Bank.lookup s.fcl.active dir arrival vid = some e) (src : Source) (a : Area) (r : Reception) :
    s.lookupFrame src a dir arrival vid mark priority r = s.headerHit src a e r (s.classify e arrival vid mark priority) := by
  simp [lookupFrame, hit]

theorem State.headerHit_drop (drops : e.action = .drop) (src : Source) (a : Area) (r : Reception) (res : Result × Option QueueId) (s : State) :
    s.headerHit src a e r res = s.dropFrame src .actionDrop { r with hit := some e.stamp } := if_pos drops

/-! ## O27 -/

/-- The header of an upstream frame that is still in reception and not dropped. -/
theorem execUpstreamHeader_open {o : HeaderOctets} (hr : s.reception (.line p) = some r) (first : r.header = none) (kept : r.dropped = none) :
    exec (.upstreamHeader p o) s = .next (s.upstream p (HeaderOctets.read o) { r with header := some (HeaderOctets.read o) }) := by
  simp [exec, execUpstreamHeader, hr, first, kept]

/-- The VID an upstream frame is looked up with: its tag's, or the port's default (R27). -/
def State.upstreamVid (p : Port) (h : FrameHeader) (s : State) : Option Nat :=
  if FrameHeader.vidOf h = 0 then (s.sub p).defaultVid else some (FrameHeader.vidOf h)

theorem State.upstream_eq (p : Port) (h : FrameHeader) (r : Reception) (s : State) :
    (h.ethertype = 0x88B5#16 → s.upstream p h r = s.dropFrame (.line p) .agentFromLine r) ∧
      (h.ethertype ≠ 0x88B5#16 → s.upstreamVid p h = none → s.upstream p h r = s.dropFrame (.line p) .untagged r) ∧
      ∀ v, h.ethertype ≠ 0x88B5#16 → s.upstreamVid p h = some v → ∃ mark, (FrameHeader.vidOf h = 0 → mark = h.tag.isNone) ∧
        (FrameHeader.vidOf h ≠ 0 → mark = false) ∧
        s.upstream p h r = s.lookupFrame (.line p) .upstream .up (some p) v mark (FrameHeader.priorityOf h) r := by
  unfold upstream upstreamVid
  refine ⟨fun hagent => if_pos hagent, fun hno hvid => (if_neg hno).trans ?_, fun v hno hvid => ?_⟩
  · by_cases hzero : FrameHeader.vidOf h = 0
    · rw [if_pos hzero] at hvid
      simp [hzero, hvid]
    · rw [if_neg hzero] at hvid
      exact absurd hvid (by simp)
  · by_cases hzero : FrameHeader.vidOf h = 0
    · rw [if_pos hzero] at hvid
      exact ⟨h.tag.isNone, fun _ => rfl, fun hne => absurd hzero hne, (if_neg hno).trans (by simp [hzero, hvid])⟩
    · rw [if_neg hzero] at hvid
      cases hvid
      exact ⟨false, fun h => absurd h hzero, fun _ => rfl, (if_neg hno).trans (if_neg hzero)⟩

/-- A tag's VID and priority code, 0 without a tag (R27). -/
theorem FrameHeader.vidOf_eq (h : FrameHeader) : (match h.tag with | some t => t.vid.toNat | none => 0) = FrameHeader.vidOf h := by
  unfold FrameHeader.vidOf
  cases h.tag <;> rfl

theorem FrameHeader.priorityOf_eq (h : FrameHeader) : (match h.tag with | some t => t.priority | none => 0#3) = FrameHeader.priorityOf h := by
  unfold FrameHeader.priorityOf
  cases h.tag <;> rfl

/-- A frame without a tag has the VID 0. -/
theorem FrameHeader.vidOf_untagged {h : FrameHeader} (none : h.tag.isNone = true) : FrameHeader.vidOf h = 0 := by
  unfold FrameHeader.vidOf
  rw [Option.isNone_iff_eq_none.mp none]

/-- The tag's octets hold the priority code, the drop-eligible bit and the VID, from the most significant bit. -/
theorem tagOf_eq (control : BitVec 16) : tagOf control =
    ⟨BitVec.ofNat 3 (control.toNat / 8192), decide (control.toNat / 4096 % 2 = 1), BitVec.ofNat 12 (control.toNat % 4096)⟩ := by
  have hbit : control.getLsbD 12 = decide (control.toNat / 4096 % 2 = 1) := by
    rw [BitVec.getLsbD, Nat.testBit_eq_decide_div_mod_eq]
  unfold tagOf
  rw [hbit]
  congr 1
  · exact BitVec.eq_of_toNat_eq (by simp [Nat.shiftRight_eq_div_pow])
  · exact BitVec.eq_of_toNat_eq (by simp)

theorem queueOf_up (cls : FrameClass) (p : Port) : queueOf .up cls p = match cls with | .express => .ux p | .bulk => .ub p := by
  cases cls <;> rfl

theorem queueOf_down (cls : FrameClass) (p : Port) : queueOf .down cls p = match cls with | .express => .dx p | .bulk => .db p := by
  cases cls <;> rfl

/-- Settles O27. -/
theorem upstreamHeaderClassifies : Obligations.UpstreamHeaderClassifies := by
  refine ⟨fun o => ⟨fun htag => ?_, fun htag => if_neg htag⟩, ?_⟩
  · rw [← tagOf_eq]
    exact if_pos htag
  intro p o r s hr hfirst hkept h tagVid priority vid entry frame dropped
  have htagVid : tagVid = FrameHeader.vidOf h := FrameHeader.vidOf_eq h
  have hpriority : priority = FrameHeader.priorityOf h := FrameHeader.priorityOf_eq h
  have hvid : vid = s.upstreamVid p h := by
    simp only [vid, htagVid]
    rfl
  have hdropped (why : DropReason) (hit : Option Nat) (hup : s.upstream p h { r with header := some h } =
      s.dropFrame (.line p) why { r with header := some h, hit := hit }) : dropped why hit := by
    obtain ⟨hself, hheld, hframe⟩ := s.dropFrame_only (src := .line p) rfl why { r with header := some h, hit := hit }
    exact ⟨_, execUpstreamHeader_open hr hfirst hkept, by rw [hup]; exact hself, by rw [hup]; exact hheld, by rw [hup]; exact hframe⟩
  obtain ⟨hagent, huntagged, hlooked⟩ := s.upstream_eq p h { r with header := some h }
  rw [hvid]
  refine ⟨fun he => hdropped _ _ (hagent he), fun he hv => hdropped _ _ (huntagged he hv), fun v he hv hmiss => ?_, fun v e he hv hhit hdrop => ?_,
    fun v e he hv hhit hforward => ?_⟩
  · obtain ⟨mark, -, -, hup⟩ := hlooked v he hv
    exact hdropped _ _ (hup.trans (State.lookupFrame_miss hmiss _ _ _))
  · obtain ⟨mark, -, -, hup⟩ := hlooked v he hv
    exact hdropped _ _ (hup.trans ((State.lookupFrame_hit hhit _ _ _).trans (State.headerHit_drop hdrop _ _ _ _ s)))
  · intro cls result short
    obtain ⟨mark, hzero, hother, hup⟩ := hlooked v he hv
    have hmark : mark = h.tag.isNone := by
      by_cases hz : FrameHeader.vidOf h = 0
      · exact hzero hz
      · rw [hother hz]
        exact (Bool.eq_false_iff.mpr fun hnone => hz (FrameHeader.vidOf_untagged hnone)).symm
    obtain ⟨hdir, -, -⟩ := Bank.lookup_key hhit
    have hqueued : e.queuedFor (some p) = some p := by
      unfold FlowEntry.queuedFor
      rw [hdir]
    have hcls : e.classOf (FrameHeader.priorityOf h) (s.sub p).classThreshold = cls := by
      rw [← hpriority]
      cases hmode : e.classMode <;> simp [FlowEntry.classOf, cls, hmode]
    have hresult : s.classify e (some p) v mark (FrameHeader.priorityOf h) =
        (result, some (queueOf .up cls p)) := by
      rw [State.classify_forward hforward hqueued, hcls, hmark, ← hpriority]
      simp only [hdir, result]
    have hupstream : s.upstream p h { r with header := some h } = s.headerHit (.line p) .upstream e { r with header := some h }
        (result, some (queueOf .up cls p)) := by
      rw [hup, State.lookupFrame_hit hhit, hresult]
    have hkeeps : e.action ≠ .drop := by rcases hforward with h | h <;> simp [h]
    obtain ⟨hframe, hlong, hshort⟩ := State.headerHit_kept (src := .line p) rfl hkeeps { r with header := some h }
      (result, some (queueOf .up cls p)) s
    have hiff : short ↔ result.cls = some .bulk ∧ s.areaFree .upstream < s.settings.expressReserve := by
      simp [short, result]
    refine ⟨_, execUpstreamHeader_open hr hfirst hkept, ?_, fun hno => ?_, fun hyes => ?_⟩ <;> rw [hupstream]
    · exact hframe
    · obtain ⟨hself, hcbm⟩ := hlong (hiff.not.mp hno)
      exact ⟨hself.trans (congrArg (fun q => some { r with header := some h, hit := some e.stamp, result := some result, queue := some q })
        (queueOf_up cls p)), hcbm⟩
    · have hbulk : cls = .bulk := hyes.1
      have hqueue : queueOf .up cls p = .ub p := by rw [hbulk]; rfl
      rw [hqueue] at hshort ⊢
      exact hshort (hiff.mp hyes)

end Sys2Proof.Machine
end

section
/-! O28: downstream and craft headers (02, 03). -/

namespace Sys2Proof.Machine

variable {s t : State} {p : Port} {r : Reception} {o : HeaderOctets}

/-- The header of a downstream frame that is still in reception and not dropped. -/
theorem execDownstreamHeader_open (hr : s.reception .uplink = some r) (first : r.header = none) (kept : r.dropped = none) :
    exec (.downstreamHeader o) s = .next (s.downstream (HeaderOctets.read o) { r with header := some (HeaderOctets.read o) }) := by
  simp [exec, execDownstreamHeader, hr, first, kept]

/-- A downstream frame by its VID. -/
theorem State.downstream_eq (h : FrameHeader) (r : Reception) (s : State) :
    (FrameHeader.vidOf h = 0 → s.downstream h r = s.dropFrame .uplink .untagged r) ∧
      (FrameHeader.vidOf h ≠ 0 → s.downstream h r =
        s.lookupFrame .uplink .downstream .down none (FrameHeader.vidOf h) false (FrameHeader.priorityOf h) r) :=
  ⟨fun h => if_pos h, fun h => if_neg h⟩

/-- Why a craft frame is dropped at its header (R29). -/
theorem State.craftDrop_eq (h : FrameHeader) (s : State) : s.craftDrop h =
    if h.ethertype ≠ 0x88B5#16 then some .notAgent else if s.mga.craftStore ≠ none then some .storeBusy else none := by
  unfold craftDrop
  cases s.mga.craftStore <;> rfl

/-- The header of a craft frame, its reception begun before or with it. -/
theorem State.craftHeader_received (r : Reception) (o : HeaderOctets) (s : State)
    (h : exec (.craftHeader o) s =
      .next (s.setReception .craft (some { r with header := some (HeaderOctets.read o), dropped := s.craftDrop (HeaderOctets.read o) }))) :
    ∃ t, exec (.craftHeader o) s = .next t ∧ ReceptionOnly .craft s t ∧ OnlyIn [.fcl] s t ∧
      t.reception .craft =
        some { r with
          header := some (HeaderOctets.read o)
          dropped :=
            if (HeaderOctets.read o).ethertype ≠ 0x88B5#16 then some .notAgent
            else if s.mga.craftStore ≠ none then some .storeBusy else none } := by
  obtain ⟨hrec, honly⟩ := s.setReception_only .craft
    (some { r with header := some (HeaderOctets.read o), dropped := s.craftDrop (HeaderOctets.read o) })
  refine ⟨_, h, hrec, honly, ?_⟩
  rw [State.reception_setReception_self, State.craftDrop_eq]

/-- Settles O28. -/
theorem downstreamAndCraftHeaders : Obligations.DownstreamAndCraftHeaders := by
  constructor
  · intro o r s hr hfirst hkept h tagVid priority entry frame dropped
    have htagVid : tagVid = FrameHeader.vidOf h := FrameHeader.vidOf_eq h
    have hpriority : priority = FrameHeader.priorityOf h := FrameHeader.priorityOf_eq h
    have hdropped (why : DropReason) (hit : Option Nat) (hdown : s.downstream h { r with header := some h } =
        s.dropFrame .uplink why { r with header := some h, hit := hit }) : dropped why hit := by
      obtain ⟨hself, hheld, hframe⟩ := s.dropFrame_only (src := .uplink) rfl why { r with header := some h, hit := hit }
      exact ⟨_, execDownstreamHeader_open hr hfirst hkept, by rw [hdown]; exact hself, by rw [hdown]; exact hheld, by rw [hdown]; exact hframe⟩
    obtain ⟨huntagged, hlooked⟩ := s.downstream_eq h { r with header := some h }
    rw [← htagVid] at huntagged hlooked
    refine ⟨fun hv => hdropped _ _ (huntagged hv), fun hv hmiss => hdropped _ _ ((hlooked hv).trans (State.lookupFrame_miss hmiss _ _ _)),
      fun e hv hhit hdrop => hdropped _ _ ((hlooked hv).trans ((State.lookupFrame_hit hhit _ _ _).trans (State.headerHit_drop hdrop _ _ _ _ s))),
      fun e hv hhit hagent => ?_, fun e q hv hhit htarget hforward => ?_⟩
    · have hdown : s.downstream h { r with header := some h } = s.headerHit .uplink .downstream e { r with header := some h }
          ({ action := .agent, destination := .agent, cls := none, egressVid := tagVid, insertTag := false, priority := priority }, none) := by
        rw [hlooked hv, State.lookupFrame_hit hhit, State.classify_agent hagent, ← hpriority]
      obtain ⟨hframe, hlong, -⟩ := State.headerHit_kept (src := .uplink) rfl (by simp [hagent] : e.action ≠ .drop) { r with header := some h }
        ({ action := .agent, destination := .agent, cls := none, egressVid := tagVid, insertTag := false, priority := priority }, none) s
      have hopen := execDownstreamHeader_open (o := o) hr hfirst hkept
      rw [hdown] at hopen
      exact ⟨_, hopen, hframe, hlong (by simp)⟩
    · intro cls result short
      obtain ⟨hdir, -, -⟩ := Bank.lookup_key hhit
      have hqueued : e.queuedFor none = some q := by
        unfold FlowEntry.queuedFor
        rw [hdir]
        exact htarget
      have hcls : e.classOf (FrameHeader.priorityOf h) (s.sub q).classThreshold = cls := by
        rw [← hpriority]
        cases hmode : e.classMode <;> simp [FlowEntry.classOf, cls, hmode]
      have hresult : s.classify e none tagVid false (FrameHeader.priorityOf h) = (result, some (queueOf .down cls q)) := by
        rw [State.classify_forward hforward hqueued, hcls, ← hpriority]
        simp only [hdir, result]
      have hdown : s.downstream h { r with header := some h } =
          s.headerHit .uplink .downstream e { r with header := some h } (result, some (queueOf .down cls q)) := by
        rw [hlooked hv, State.lookupFrame_hit hhit, hresult]
      have hkeeps : e.action ≠ .drop := by rcases hforward with h | h <;> simp [h]
      obtain ⟨hframe, hlong, hshort⟩ := State.headerHit_kept (src := .uplink) rfl hkeeps { r with header := some h }
        (result, some (queueOf .down cls q)) s
      have hiff : short ↔ result.cls = some .bulk ∧ s.areaFree .downstream < s.settings.expressReserve := by
        simp [short, result]
      refine ⟨_, execDownstreamHeader_open hr hfirst hkept, ?_, fun hno => ?_, fun hyes => ?_⟩ <;> rw [hdown]
      · exact hframe
      · obtain ⟨hself, hcbm⟩ := hlong (hiff.not.mp hno)
        exact ⟨hself.trans (congrArg (fun q => some { r with header := some h, hit := some e.stamp, result := some result, queue := some q })
          (queueOf_down cls q)), hcbm⟩
      · have hbulk : cls = .bulk := hyes.1
        have hqueue : queueOf .down cls q = .db q := by rw [hbulk]; rfl
        rw [hqueue] at hshort ⊢
        exact hshort (hiff.mp hyes)
  · intro o s h received
    refine ⟨fun r hr hfirst => s.craftHeader_received r o ?_, fun hnone hstale => ?_, fun hnone hfresh halive => s.craftHeader_received _ o ?_,
      fun hnone hfresh hdead => ?_, fun hnone => ?_, fun p hnone => ?_⟩
    · simp [exec, execCraftHeader, hr, hfirst]
    · simp [exec, execCraftHeader, hnone, hstale, State.setStaleHeader]
    · simp [exec, execCraftHeader, hnone, hfresh, halive, Reception.fresh]
    · simp [exec, execCraftHeader, hnone, hfresh, hdead]
    · simp [exec, execDownstreamHeader, hnone]
    · simp [exec, execUpstreamHeader, hnone]

end Sys2Proof.Machine
end

section
/-! The obligations on the end of a frame: O29 and O31 (02, 03, 10). -/

namespace Sys2Proof.Machine

variable {s t : State} {p : Port} {r : Reception} {src : Source} {length : Nat} {good : Bool} {payload : List Octet}

/-- The end of a frame in reception: its length is checked, then its FCS (R25). -/
theorem State.endFrame_eq (hr : s.reception src = some r) (length : Nat) (good : Bool) (payload : List Octet) :
    s.endFrame src length good payload =
      if length < 64 ∨ 1664 < length then ((s.setReception src none).returnCells src r.cells.length).countLength src
      else if good = true then (s.setReception src none).endGood src length payload r
      else ((s.setReception src none).returnCells src r.cells.length).countFcs src := by
  unfold endFrame
  rw [hr]
  cases good <;> rfl

/-- FRAME_END of a frame in reception. -/
theorem execFrameEnd_received (hr : s.reception src = some r) (length : Nat) (good : Bool) (payload : List Octet) :
    exec (.frameEnd src length good payload) s = .next (s.endFrame src length good payload) := by
  simp [exec, execFrameEnd, hr]

/-- The end of a bad frame. -/
theorem execFrameEnd_bad (hr : s.reception src = some r) (bad : (length < 64 ∨ 1664 < length) ∨ good = false) :
    exec (.frameEnd src length good payload) s = .next
      (if length < 64 ∨ 1664 < length then ((s.setReception src none).returnCells src r.cells.length).countLength src
       else ((s.setReception src none).returnCells src r.cells.length).countFcs src) := by
  rw [execFrameEnd_received hr, State.endFrame_eq hr]
  by_cases h : length < 64 ∨ 1664 < length
  · rw [if_pos h, if_pos h]
  · rw [if_neg h, if_neg h, if_neg (by simp [bad.resolve_left h])]

theorem State.countBad_only (src : Source) (s : State) : OnlyIn [.fcl] s (s.countLength src) ∧ OnlyIn [.fcl] s (s.countFcs src) := by
  constructor <;> intro part hp <;> cases part <;> simp_all [Part.Same]

/-- A bad frame of a line or the uplink changes its link's counters and the held cells alone. -/
theorem State.badFrame_only (src : Source) (n : Nat) (s : State) :
    OnlyIn [.fcl, .cbm] s (((s.setReception src none).returnCells src n).countLength src) ∧
      OnlyIn [.fcl, .cbm] s (((s.setReception src none).returnCells src n).countFcs src) := by
  constructor <;> intro part hp <;> cases part <;> simp_all [Part.Same]

/-- Settles O29. -/
theorem badFramesAreCounted : Obligations.BadFramesAreCounted := by
  intro p length good payload r s bad
  refine ⟨fun hr hbad => ?_, fun hr hbad => ?_, fun hr hbad => ?_, fun src hsrc hnone => ?_, fun hnone => ?_⟩
  · refine ⟨_, execFrameEnd_bad hr hbad, ?_⟩
    by_cases h : length < 64 ∨ 1664 < length
    · rw [if_pos h]
      exact ⟨rfl, .setHeld .upstream (· - r.cells.length) rfl, (s.badFrame_only _ _).1, fun _ => rfl, fun hno => absurd h hno⟩
    · rw [if_neg h]
      exact ⟨rfl, .setHeld .upstream (· - r.cells.length) rfl, (s.badFrame_only _ _).2, fun hno => absurd hno h, fun _ => rfl⟩
  · refine ⟨_, execFrameEnd_bad hr hbad, ?_⟩
    by_cases h : length < 64 ∨ 1664 < length
    · rw [if_pos h]
      exact ⟨rfl, .setHeld .downstream (· - r.cells.length) rfl, (s.badFrame_only _ _).1, fun _ => rfl, fun hno => absurd h hno⟩
    · rw [if_neg h]
      exact ⟨rfl, .setHeld .downstream (· - r.cells.length) rfl, (s.badFrame_only _ _).2, fun hno => absurd hno h, fun _ => rfl⟩
  · refine ⟨_, execFrameEnd_bad hr hbad, ?_⟩
    by_cases h : length < 64 ∨ 1664 < length
    · rw [if_pos h]
      exact ⟨((s.setReception_only .craft none).2.trans (State.countBad_only .craft (s.setReception .craft none)).1 :), fun _ => rfl, fun hno => absurd h hno⟩
    · rw [if_neg h]
      exact ⟨((s.setReception_only .craft none).2.trans (State.countBad_only .craft (s.setReception .craft none)).2 :), fun hno => absurd hno h, fun _ => rfl⟩
  · simp [exec, execFrameEnd, hsrc, State.endFrame, hnone]
  · simp [exec, execFrameEnd, hnone, State.setStaleHeader]

/-! ## Frames for the agent (R34, R176) -/

/-- The agent is called to take a frame in while it is IDLE and no reset waits. -/
theorem State.callTakeIn_spec (s : State) : OnlyIn [.mail] s s.callTakeIn ∧
    (s.mga.exec = .idle → s.mga.resetWait = .none → s.mga.uplinkStore.isSome ∨ s.mga.craftStore.isSome →
      Instr.agentFrameTakeIn ∈ s.callTakeIn.mail) := by
  refine ⟨fun part hp => by cases part <;> simp_all [Part.Same], fun hidle hwait hstore => ?_⟩
  unfold callTakeIn
  by_cases hmail : Instr.agentFrameTakeIn ∈ s.mail
  · rw [if_neg (by simp [hmail])]
    exact hmail
  · rw [if_pos ⟨hidle, hwait, hstore, by simp [hmail]⟩]
    exact List.mem_append_right _ (.head _)

/-- A frame for the agent enters its store when that is free. -/
theorem State.handOver_spec (f : AgentFrame) (s : State) :
    let idle : Prop := s.mga.exec = .idle ∧ s.mga.resetWait = .none
    OnlyIn [.mga, .mail] s (s.handOver f) ∧
      (f.origin = .uplink → s.mga.uplinkStore ≠ none →
        (s.handOver f).mga = { s.mga with rejected := plusOne s.mga.rejected } ∧ (s.handOver f).mail = s.mail) ∧
      (f.origin = .uplink → s.mga.uplinkStore = none →
        (s.handOver f).mga = { s.mga with uplinkStore := some f } ∧ (idle → Instr.agentFrameTakeIn ∈ (s.handOver f).mail)) ∧
      (f.origin = .craft →
        (s.handOver f).mga = { s.mga with craftStore := some f } ∧ (idle → Instr.agentFrameTakeIn ∈ (s.handOver f).mail)) := by
  refine ⟨fun part hp => by cases part <;> simp_all [Part.Same], fun horigin hfull => ?_, fun horigin hfree => ?_, fun horigin => ?_⟩
  · have hover : s.handOver f = { s with mga := { s.mga with rejected := bump s.mga.rejected } } := by
      simp [handOver, horigin, Option.isSome_iff_ne_none, hfull]
    rw [hover]
    exact ⟨rfl, rfl⟩
  · have hover : s.handOver f = State.callTakeIn { s with mga := { s.mga with uplinkStore := some f } } := by
      simp [handOver, horigin, hfree]
    obtain ⟨honly, htake⟩ := State.callTakeIn_spec { s with mga := { s.mga with uplinkStore := some f } }
    rw [hover]
    exact ⟨honly .mga (by simp), fun ⟨hidle, hwait⟩ => htake hidle hwait (.inl rfl)⟩
  · have hover : s.handOver f = State.callTakeIn { s with mga := { s.mga with craftStore := some f } } := by
      simp [handOver, horigin]
    obtain ⟨honly, htake⟩ := State.callTakeIn_spec { s with mga := { s.mga with craftStore := some f } }
    rw [hover]
    exact ⟨honly .mga (by simp), fun ⟨hidle, hwait⟩ => htake hidle hwait (.inr rfl)⟩

/-- The end of a good frame in reception. -/
theorem execFrameEnd_good (hr : s.reception src = some r) (least : 64 ≤ length) (most : length ≤ 1664) (payload : List Octet) :
    exec (.frameEnd src length true payload) s = .next ((s.setReception src none).endGood src length payload r) := by
  rw [execFrameEnd_received hr, State.endFrame_eq hr, if_neg (by omega), if_pos rfl]

/-- The hit counted changes the banks alone. -/
theorem State.countHits_only (r : Reception) (s : State) : OnlyIn [.fcl] s (s.countHits r) ∧ ∀ src, (s.countHits r).reception src = s.reception src := by
  refine ⟨fun part hp => by cases part <;> simp_all [Part.Same], fun src => ?_⟩
  unfold countHits
  cases r.hit <;> cases src <;> rfl

/-- Settles O31. -/
theorem agentFramesReachTheirStore : Obligations.AgentFramesReachTheirStore := by
  intro length payload r h s least most idle
  refine ⟨fun res hr hheader hdropped hresult hqueue => ?_, fun hr hheader hdropped => ?_, fun why hr hdropped => ?_⟩
  · let u := ((s.setReception .uplink none).countHits r).returnCells .uplink r.cells.length
    let f := agentFrameOf .uplink res.egressVid h payload
    obtain ⟨hhits, hrec⟩ := (s.setReception .uplink none).countHits_only r
    have hend : (s.setReception .uplink none).endGood .uplink length payload r = u.handOver f := by
      simp [State.endGood, State.handOnFrame, State.receivedGood, hdropped, hheader, hresult, hqueue, u, f]
    obtain ⟨honly, hfull, hfree, -⟩ := u.handOver_spec f
    have hmga : u.mga = s.mga := by simp [u]
    have hcbm : u.cbm = s.cbm.setHeld .downstream (· - r.cells.length) := by simp [u, State.returnCells, sourceArea, State.freeCells]
    have hover : (u.handOver f).cbm = s.cbm.setHeld .downstream (· - r.cells.length) := (honly .cbm (by simp)).trans hcbm
    have hu : OnlyIn [.fcl, .cbm] s u := fun part hp => by cases part <;> simp_all [Part.Same, u]
    have hrecover : (u.handOver f).reception .uplink = none :=
      (congrArg Classifier.rxUplink (honly .fcl (by simp))).trans
        ((State.returnCells_reception _ _ _ _).trans ((hrec .uplink).trans (State.reception_setReception_self _ _ _)))
    rw [hmga] at hfull hfree
    refine ⟨_, (execFrameEnd_good hr least most payload).trans (congrArg _ hend), hrecover, by rw [hover]; rfl,
      .setHeld .downstream (· - r.cells.length) (by rw [hover]), (hu.mono (by decide)).trans (honly.mono (by decide)), fun hf => ?_, fun hf => ?_⟩
    · obtain ⟨hrejected, hmail⟩ := hfull rfl hf
      exact ⟨hrejected, hmail.trans (by simp [u])⟩
    · exact hfree rfl hf
  · let u := (s.setReception .craft none).countHits r
    let f := agentFrameOf .craft 0 h payload
    obtain ⟨hhits, hrec⟩ := (s.setReception .craft none).countHits_only r
    have hend : (s.setReception .craft none).endGood .craft length payload r = u.handOver f := by
      simp [State.endGood, State.handOnFrame, State.receivedGood, hdropped, hheader, u, f]
    obtain ⟨honly, -, -, hstored⟩ := u.handOver_spec f
    have hmga : u.mga = s.mga := by simp [u]
    have hu : OnlyIn [.fcl] s u := (s.setReception_only _ _).2.trans hhits
    have hrecover : (u.handOver f).reception .craft = none :=
      (congrArg Classifier.rxCraft (honly .fcl (by simp))).trans ((hrec .craft).trans (State.reception_setReception_self _ _ _))
    rw [hmga] at hstored
    obtain ⟨hstore, htake⟩ := hstored rfl
    exact ⟨_, (execFrameEnd_good hr least most payload).trans (congrArg _ hend), hrecover, hstore, htake,
      (hu.mono (by decide)).trans (honly.mono (by decide))⟩
  · let u := (s.setReception .craft none).countHits r
    obtain ⟨hhits, hrec⟩ := (s.setReception .craft none).countHits_only r
    have hend : (s.setReception .craft none).endGood .craft length payload r = u.countDrop .craft why r := by
      simp [State.endGood, State.receivedGood, hdropped, u]
    have hu : OnlyIn [.fcl] s u := (s.setReception_only _ _).2.trans hhits
    have hdrops : u.fcl.craftDrops = s.fcl.craftDrops := by
      simp only [u, State.countHits]
      cases r.hit <;> rfl
    refine ⟨_, (execFrameEnd_good hr least most payload).trans (congrArg _ hend), ?_, hu.trans ?_, fun hwhy => ?_, fun hwhy => ?_⟩
    · refine Eq.trans ?_ ((hrec .craft).trans (State.reception_setReception_self _ _ _))
      cases why <;> rfl
    · intro part hp
      cases why <;> cases part <;> simp_all [Part.Same, State.countDrop, State.countPoolFull]
    · subst hwhy
      exact congrArg (CraftDrops.count .notAgent) hdrops
    · subst hwhy
      exact congrArg (CraftDrops.count .storeBusy) hdrops

end Sys2Proof.Machine
end

section
/-! O30: the end of a good frame, its counters and its admission (02, 03, 05). -/

namespace Sys2Proof.Machine

variable {s t u : State} {p : Port} {r : Reception} {src : Source} {length : Nat} {payload : List Octet}

/-! ## A choice moves frames and no cell (R57) -/

/-- The buffer holds the cells it held, whatever stands in its queues. -/
def SameCells (s t : State) : Prop :=
  t.cbm = { s.cbm with queues := t.cbm.queues, aq := t.cbm.aq, cq := t.cbm.cq }

theorem State.setQueue_sameCells (q : QueueId) (ds : List Descriptor) (s : State) : SameCells s (s.setQueue q ds) := by
  cases q <;> rfl

theorem State.startUplink_sameCells (q : QueueId) (s : State) : SameCells s (s.startUplink q) := by
  unfold startUplink
  split
  · rfl
  · exact s.setQueue_sameCells q _

theorem State.startLine_sameCells (p : Port) (q : QueueId) (s : State) : SameCells s (s.startLine p q) := by
  unfold startLine
  split
  · rfl
  · exact s.setQueue_sameCells q _

theorem State.uplinkChoice_sameCells (s : State) : SameCells s s.uplinkChoice := by
  unfold uplinkChoice
  split
  · split
    · split
      · next p _ => exact (s.chargeUp p _).startUplink_sameCells (.ux p)
      · split
        · next p _ => exact (s.chargeUp p _).startUplink_sameCells (.ub p)
        · rfl
    · exact s.startUplink_sameCells .aq
  · rfl

theorem State.lineChoice_sameCells (p : Port) (s : State) : SameCells s (s.lineChoice p) := by
  unfold lineChoice
  split
  · rfl
  · dsimp only
    split
    · split
      · exact s.startLine_sameCells p _
      · rfl
    · split
      · exact s.startLine_sameCells p _
      · rfl

theorem SameCells.held (h : SameCells s t) : t.cbm.upHeld = s.cbm.upHeld ∧ t.cbm.downHeld = s.cbm.downHeld := by
  rw [h]
  exact ⟨rfl, rfl⟩

/-! ## What a good frame counts (R17, R24, R31) -/

/-- The idle timer restarts with the full time in UP (R17). -/
def State.idleAgain (p : Port) (s : State) : Option Nat :=
  if (s.port p).state = .up ∧ (s.sub p).idleDoze ≠ 0 then some (s.now + (s.sub p).idleDoze * 1000000) else (s.port p).idleTimer

theorem State.idleAgain_congr (port : t.port p = s.port p) (sub : t.sub p = s.sub p) (now : t.now = s.now) : t.idleAgain p = s.idleAgain p := by
  unfold idleAgain
  rw [port, sub, now]

theorem State.restartIdle_spec (p : Port) (s : State) :
    (s.restartIdle p).port p = { s.port p with idleTimer := s.idleAgain p } ∧ OtherPorts p s (s.restartIdle p) := by
  unfold restartIdle idleAgain
  dsimp only
  split
  · exact ⟨port_modifyPort_self p _ s, (modifyPort_only p _ s).1⟩
  · exact ⟨rfl, .refl p s⟩

theorem State.receivedGood_line (p : Port) (length : Nat) (s : State) :
    (s.receivedGood (.line p) length).port p =
        { s.port p with
          idleTimer := s.idleAgain p
          counters := { (s.port p).counters with
            rxFrames := (s.port p).counters.rxFrames + 1#32
            rxOctets := (s.port p).counters.rxOctets + BitVec.ofNat 32 length } } ∧
      OtherPorts p s (s.receivedGood (.line p) length) := by
  let f (r : PortRecord) : PortRecord :=
    { r with counters := { r.counters with rxFrames := count32 r.counters.rxFrames, rxOctets := count32 r.counters.rxOctets length } }
  obtain ⟨hport, hother⟩ := (s.modifyPort p f).restartIdle_spec p
  obtain ⟨hothers, -⟩ := s.modifyPort_only p f
  have hself : (s.modifyPort p f).port p = f (s.port p) := port_modifyPort_self p f s
  have hidle : (s.modifyPort p f).idleAgain p = s.idleAgain p := by
    unfold idleAgain
    rw [hself]
    rfl
  rw [hself, hidle] at hport
  exact ⟨hport, hothers.trans hother⟩

/-- What both banks keep of a frame's hits. -/
theorem HitCounted.of_banks (h : HitCounted r s t) (active : u.fcl.active = t.fcl.active) (candidate : u.fcl.candidate = t.fcl.candidate) :
    HitCounted r s u := by
  unfold HitCounted at *
  rwa [active, candidate]

theorem HitCounted.from_banks (h : HitCounted r s t) (active : s.fcl.active = u.fcl.active) (candidate : s.fcl.candidate = u.fcl.candidate) :
    HitCounted r u t := by
  unfold HitCounted at *
  rwa [← active, ← candidate]

theorem State.countHits_counted (r : Reception) (s : State) : HitCounted r s (s.countHits r) := by
  unfold countHits
  constructor
  · intro hnone
    rw [hnone]
    exact ⟨rfl, rfl⟩
  · intro stamp hstamp
    rw [hstamp]
    exact ⟨rfl, rfl⟩

/-- A good frame at its end, taken out of reception and counted. -/
def State.counted (src : Source) (length : Nat) (r : Reception) (s : State) : State :=
  ((s.setReception src none).receivedGood src length).countHits r

theorem State.counted_spec (src : Source) (length : Nat) (r : Reception) (s : State) :
    (s.counted src length r).reception src = none ∧ HitCounted r s (s.counted src length r) ∧
      OnlyIn [.ports, .fcl] s (s.counted src length r) ∧
      (s.counted src length r).ports = ((s.setReception src none).receivedGood src length).ports ∧
      (s.counted src length r).fcl.lineDrops = s.fcl.lineDrops ∧ (s.counted src length r).fcl.uplinkDrops = s.fcl.uplinkDrops := by
  obtain ⟨-, hrec⟩ := ((s.setReception src none).receivedGood src length).countHits_only r
  have hfcl : ((s.setReception src none).receivedGood src length).fcl = (s.setReception src none).fcl := by simp
  have hbanks : (s.setReception src none).fcl.active = s.fcl.active ∧ (s.setReception src none).fcl.candidate = s.fcl.candidate ∧
      (s.setReception src none).fcl.lineDrops = s.fcl.lineDrops ∧ (s.setReception src none).fcl.uplinkDrops = s.fcl.uplinkDrops := by
    cases src <;> exact ⟨rfl, rfl, rfl, rfl⟩
  obtain ⟨hactive, hcandidate, hline, huplink⟩ := hbanks
  have hdrops (u : State) : (u.countHits r).fcl.lineDrops = u.fcl.lineDrops ∧ (u.countHits r).fcl.uplinkDrops = u.fcl.uplinkDrops := by
    unfold countHits
    split <;> exact ⟨rfl, rfl⟩
  refine ⟨(hrec src).trans ?_, (countHits_counted r _).from_banks (by rw [hfcl, hactive]) (by rw [hfcl, hcandidate]),
    fun part hp => by cases part <;> simp_all [Part.Same, counted], by simp [counted], ?_, ?_⟩
  · have hrec : ((s.setReception src none).receivedGood src length).reception src = (s.setReception src none).reception src := by
      unfold reception
      rw [hfcl]
    exact hrec.trans (reception_setReception_self _ _ _)
  · exact (hdrops _).1.trans (hfcl ▸ hline)
  · exact (hdrops _).2.trans (hfcl ▸ huplink)

/-- The end of a good frame. -/
theorem execFrameEnd_counted (hr : s.reception src = some r) (least : 64 ≤ length) (most : length ≤ 1664) :
    exec (.frameEnd src length true payload) s = .next
      (match r.dropped with
       | some why => (s.counted src length r).countDrop src why r
       | none => (s.counted src length r).handOnFrame src length payload r) := by
  rw [execFrameEnd_good hr least most]
  unfold State.endGood State.counted
  cases r.dropped <;> rfl

/-- A drop counted leaves the receptions, the banks and the held cells. -/
theorem State.countDrop_keeps (src : Source) (why : DropReason) (r : Reception) (s : State) :
    (∀ other, (s.countDrop src why r).reception other = s.reception other) ∧ (s.countDrop src why r).fcl.active = s.fcl.active ∧
      (s.countDrop src why r).fcl.candidate = s.fcl.candidate ∧ (s.countDrop src why r).cbm.upHeld = s.cbm.upHeld ∧
      (s.countDrop src why r).cbm.downHeld = s.cbm.downHeld ∧ (s.countDrop src why r).cbm.queues = s.cbm.queues := by
  unfold countDrop
  split
  · unfold countPoolFull
    cases src with
    | line p => exact ⟨fun other => by cases other <;> rfl, rfl, rfl, rfl, rfl, rfl⟩
    | craft => exact ⟨fun other => by cases other <;> rfl, rfl, rfl, rfl, rfl, rfl⟩
    | uplink =>
      dsimp only
      split <;> exact ⟨fun other => by cases other <;> rfl, rfl, rfl, rfl, rfl, rfl⟩
  · cases src <;> exact ⟨fun other => by cases other <;> rfl, rfl, rfl, rfl, rfl, rfl⟩

/-- A drop is counted under its reason (R26, R36, R51). -/
theorem State.countDrop_line (p : Port) (why : DropReason) (r : Reception) (s : State) :
    (why ≠ .poolFull → (s.countDrop (.line p) why r).fcl.lineDrops.get p = LineDrops.count why (s.fcl.lineDrops.get p)) ∧
      (why = .poolFull → ((s.countDrop (.line p) why r).cbm.drops.get p).poolFullUp = plusOne (s.cbm.drops.get p).poolFullUp) := by
  refine ⟨fun hwhy => ?_, fun hwhy => ?_⟩
  · rw [show s.countDrop (.line p) why r = s.countLine p (LineDrops.count why) from if_neg hwhy]
    exact Row.get_modify_self _ _ _
  · rw [show s.countDrop (.line p) why r = s.countBuffer p _ from if_pos hwhy]
    exact congrArg BufferDrops.poolFullUp (Row.get_modify_self _ _ _)

theorem State.countDrop_uplink (why : DropReason) (r : Reception) (s : State) :
    (why ≠ .poolFull → (s.countDrop .uplink why r).fcl.uplinkDrops = UplinkDrops.count why s.fcl.uplinkDrops) ∧
      (why = .poolFull → r.queue = none → (s.countDrop .uplink why r).cbm.uplinkPoolFull = plusOne s.cbm.uplinkPoolFull) ∧
      ∀ p q, why = .poolFull → r.queue = some q → q.port = some p →
        ((s.countDrop .uplink why r).cbm.drops.get p).poolFullDown = plusOne (s.cbm.drops.get p).poolFullDown := by
  refine ⟨fun hwhy => ?_, fun hwhy hnone => ?_, fun p q hwhy hq hport => ?_⟩
  · rw [show s.countDrop .uplink why r = s.countUplink (UplinkDrops.count why) from if_neg hwhy]
    rfl
  · rw [show s.countDrop .uplink why r = s.countPoolFull .uplink r from if_pos hwhy, countPoolFull, hnone]
    rfl
  · have hbind : r.queue.bind QueueId.port = some p := by rw [hq]; exact hport
    rw [show s.countDrop .uplink why r = s.countPoolFull .uplink r from if_pos hwhy, countPoolFull, hbind]
    exact congrArg BufferDrops.poolFullDown (Row.get_modify_self _ _ _)

/-! ## Admission (R55, R56) -/

/-- A frame that its port turns away: its cells return, and it is counted (R55). -/
theorem State.acceptDescriptor_refused (p : Port) (d : Descriptor) (s : State) :
    ((s.port p).state ≠ .up → s.acceptDescriptor p d =
        (s.freeCells d.queue.area d.cells.length).countBuffer p (BufferDrops.refused d.queue true)) ∧
      ((s.port p).state = .up → s.capOf d.queue < cellsOf (s.queue d.queue) + d.cells.length → s.acceptDescriptor p d =
        (s.freeCells d.queue.area d.cells.length).countBuffer p (BufferDrops.refused d.queue false)) ∧
      ((s.port p).state = .up → ¬s.capOf d.queue < cellsOf (s.queue d.queue) + d.cells.length → s.acceptDescriptor p d =
        (s.setQueue d.queue (s.queue d.queue ++ [d])).admitted d.queue) :=
  ⟨fun h => if_pos h, fun h hfull => (if_neg (not_not.mpr h)).trans (if_pos hfull), fun h hroom => (if_neg (not_not.mpr h)).trans (if_neg hroom)⟩

/-- Activity is reported (R56, R66). -/
theorem State.reportActivity_spec (p : Port) (s : State) :
    (s.reportActivity p).scu.activity.get p = some (s.now + s.settings.activityWindow * 1000) ∧
      (s.scu.activity.get p = none → (s.reportActivity p).scu.computation.isSome) ∧ (s.reportActivity p).scu.linkUp = s.scu.linkUp := by
  unfold reportActivity
  dsimp only
  split
  · next h =>
    refine ⟨Row.get_set_self _ _ _, fun hnone => ?_, rfl⟩
    simp [isActive, hnone] at h
  · exact ⟨by simp [ms], fun _ => trigger_computes _, by simp⟩

theorem State.queue_of_cbm (h : t.cbm = s.cbm) (q : QueueId) : t.queue q = s.queue q := by
  unfold queue
  rw [h]

/-- A frame joins the tail of its queue, and the buffer holds what it held. -/
theorem State.setQueue_joins (q : QueueId) (d : Descriptor) (s : State) (subscriber : q ≠ .aq ∧ q ≠ .cq) :
    let u := s.setQueue q (s.queue q ++ [d])
    u.queue q = s.queue q ++ [d] ∧ (∀ other, other ≠ q → u.queue other = s.queue other) ∧ u.cbm = { s.cbm with queues := u.cbm.queues } := by
  refine ⟨queue_setQueue_self _ _ _, fun other h => queue_setQueue_ne _ _ h, ?_⟩
  cases q <;> simp_all [setQueue]

/-- The counted frame's own link: what a line frame leaves of its port, and what every other frame leaves of all. -/
theorem State.counted_line (p : Port) (length : Nat) (r : Reception) (s : State) :
    (s.counted (.line p) length r).port p =
        { s.port p with
          idleTimer := s.idleAgain p
          counters := { (s.port p).counters with
            rxFrames := (s.port p).counters.rxFrames + 1#32
            rxOctets := (s.port p).counters.rxOctets + BitVec.ofNat 32 length } } ∧
      OtherPorts p s (s.counted (.line p) length r) := by
  obtain ⟨-, -, -, hports, -, -⟩ := s.counted_spec (.line p) length r
  obtain ⟨hport, hother⟩ := (s.setReception (.line p) none).receivedGood_line p length
  exact ⟨(congrArg (·.get p) hports).trans hport, fun q hq => (congrArg (·.get q) hports).trans (hother q hq)⟩

theorem State.admittedUp_only (p : Port) (q : QueueId) (ds : List Descriptor) (s : State) :
    OnlyIn [.cbm, .scu, .txs] s ((s.setQueue q ds).reportActivity p).uplinkChoice :=
  fun part hp => by cases part <;> simp_all [Part.Same]

theorem State.admittedDown_only (p : Port) (q : QueueId) (ds : List Descriptor) (s : State) :
    OnlyIn [.ports, .cbm, .txs] s (((s.setQueue q ds).restartIdle p).lineChoice p) :=
  fun part hp => by cases part <;> simp_all [Part.Same]

/-- What a good frame of a line leaves when it is admitted to one of its port's queues. -/
theorem State.acceptUp_spec (p : Port) (q : QueueId) (hq : q = .ux p ∨ q = .ub p) (d : Descriptor) (hd : d.queue = q) (s : State) :
    let t := s.acceptDescriptor p d
    let full : Prop := s.capOf q < cellsOf (s.queue q) + d.cells.length
    t.ports = s.ports ∧ t.fcl = s.fcl ∧ OnlyIn [.cbm, .scu, .txs] s t ∧
      ((s.port p).state ≠ .up → t.cbm.upHeld = s.cbm.upHeld - d.cells.length ∧ t.cbm.queues = s.cbm.queues ∧
        (t.cbm.drops.get p).notUpUp = plusOne (s.cbm.drops.get p).notUpUp) ∧
      ((s.port p).state = .up → full → t.cbm.upHeld = s.cbm.upHeld - d.cells.length ∧ t.cbm.queues = s.cbm.queues ∧
        (t.cbm.drops.get p).queueFullUp = plusOne (s.cbm.drops.get p).queueFullUp) ∧
      ((s.port p).state = .up → ¬full →
        t.cbm.upHeld = s.cbm.upHeld ∧ t.scu.activity.get p = some (s.now + s.settings.activityWindow * 1000) ∧
          (s.scu.activity.get p = none → t.scu.computation.isSome) ∧ t.scu.linkUp = s.scu.linkUp ∧
          (s.uplinkMayStart = false → t.queue q = s.queue q ++ [d]) ∧
          ∃ u : State, (u.queue q = s.queue q ++ [d] ∧ (∀ other, other ≠ q → u.queue other = s.queue other) ∧
            u.cbm = { s.cbm with queues := u.cbm.queues } ∧ u.txs = s.txs) ∧ u.UplinkChosen t) := by
  intro t full
  have harea : q.area = .upstream := by rcases hq with rfl | rfl <;> rfl
  have hother (b : Bool) (ht : t = (s.freeCells .upstream d.cells.length).countBuffer p (BufferDrops.refused q b)) :
      t.ports = s.ports ∧ t.fcl = s.fcl ∧ OnlyIn [.cbm, .scu, .txs] s t ∧ t.cbm.upHeld = s.cbm.upHeld - d.cells.length ∧
        t.cbm.queues = s.cbm.queues ∧ t.cbm.drops.get p = BufferDrops.refused q b (s.cbm.drops.get p) := by
    rw [ht]
    exact ⟨rfl, rfl, fun part hp => by cases part <;> simp_all [Part.Same], rfl, rfl, Row.get_modify_self _ _ _⟩
  obtain ⟨hnotUp, hfull, hroom⟩ := s.acceptDescriptor_refused p d
  rw [hd, harea] at hnotUp hfull
  rw [hd] at hroom
  by_cases hup : (s.port p).state = .up
  · by_cases hf : full
    · obtain ⟨hports, hfcl, honly, hheld, hqueues, hdrops⟩ := hother false (hfull hup hf)
      refine ⟨hports, hfcl, honly, fun hno => absurd hup hno, fun _ _ => ⟨hheld, hqueues, ?_⟩, fun _ hno => absurd hf hno⟩
      rw [hdrops]
      rcases hq with rfl | rfl <;> rfl
    · let u := (s.setQueue q (s.queue q ++ [d])).reportActivity p
      have ht : t = u.uplinkChoice := by
        refine (hroom hup hf).trans ?_
        rcases hq with rfl | rfl <;> rfl
      obtain ⟨hself, hne, hcbm⟩ := s.setQueue_joins q d (by rcases hq with rfl | rfl <;> simp)
      obtain ⟨hactive, hstarts, hlink⟩ := (s.setQueue q (s.queue q ++ [d])).reportActivity_spec p
      have hkeep : u.cbm = (s.setQueue q (s.queue q ++ [d])).cbm ∧ u.txs = s.txs := by simp [u]
      have hqueue (k : QueueId) : u.queue k = (s.setQueue q (s.queue q ++ [d])).queue k := State.queue_of_cbm hkeep.1 k
      have hscu : t.scu = u.scu := by rw [ht]; simp
      have hheld : t.cbm.upHeld = s.cbm.upHeld := by
        rw [ht, u.uplinkChoice_sameCells.held.1, hkeep.1]
        simp
      have hmay : u.uplinkMayStart = s.uplinkMayStart := by
        unfold State.uplinkMayStart
        rw [hkeep.2, hlink]
        simp
      refine ⟨by rw [ht]; simp [u], by rw [ht]; simp [u], ?_, fun hno => absurd hup hno, fun _ h => absurd h hf, fun _ _ =>
        ⟨hheld, by rw [hscu, hactive]; simp, fun hnone => by rw [hscu]; exact hstarts (by simpa using hnone), by rw [hscu, hlink]; simp, fun hstop => ?_,
          u, ⟨(hqueue q).trans hself, fun other ho => (hqueue other).trans (hne other ho), ?_, hkeep.2⟩, ht ▸ u.uplinkChoice_chosen⟩⟩
      · rw [ht]
        exact s.admittedUp_only p q _
      · have hsame : u.uplinkChoice = u := if_neg (by simp [hmay, hstop])
        rw [ht, hsame]
        exact (hqueue q).trans hself
      · rw [hkeep.1]
        exact hcbm
  · obtain ⟨hports, hfcl, honly, hheld, hqueues, hdrops⟩ := hother true (hnotUp hup)
    refine ⟨hports, hfcl, honly, fun _ => ⟨hheld, hqueues, ?_⟩, fun h => absurd h hup, fun h => absurd h hup⟩
    rw [hdrops]
    rcases hq with rfl | rfl <;> rfl

/-- What a good downstream frame leaves when it is admitted to one of its port's queues. -/
theorem State.acceptDown_spec (p : Port) (q : QueueId) (hq : q = .dx p ∨ q = .db p) (d : Descriptor) (hd : d.queue = q) (s : State) :
    let t := s.acceptDescriptor p d
    let full : Prop := s.capOf q < cellsOf (s.queue q) + d.cells.length
    t.fcl = s.fcl ∧ OtherPorts p s t ∧ OnlyIn [.ports, .cbm, .txs] s t ∧
      ((s.port p).state ≠ .up → t.cbm.downHeld = s.cbm.downHeld - d.cells.length ∧ t.cbm.queues = s.cbm.queues ∧
        (t.cbm.drops.get p).notUpDown = plusOne (s.cbm.drops.get p).notUpDown ∧ t.ports = s.ports) ∧
      ((s.port p).state = .up → full → t.cbm.downHeld = s.cbm.downHeld - d.cells.length ∧ t.cbm.queues = s.cbm.queues ∧
        (t.cbm.drops.get p).queueFullDown = plusOne (s.cbm.drops.get p).queueFullDown ∧ t.ports = s.ports) ∧
      ((s.port p).state = .up → ¬full →
        t.cbm.downHeld = s.cbm.downHeld ∧ t.port p = { s.port p with idleTimer := s.idleAgain p } ∧
          (s.txs.lineTx.get p ≠ none → t.queue q = s.queue q ++ [d] ∧ t.txs = s.txs) ∧
          ∃ u : State, (u.queue q = s.queue q ++ [d] ∧ (∀ other, other ≠ q → u.queue other = s.queue other) ∧
            u.cbm = { s.cbm with queues := u.cbm.queues } ∧ u.txs = s.txs) ∧ u.LineChosen p t) := by
  intro t full
  have harea : q.area = .downstream := by rcases hq with rfl | rfl <;> rfl
  have hother (b : Bool) (ht : t = (s.freeCells .downstream d.cells.length).countBuffer p (BufferDrops.refused q b)) :
      t.ports = s.ports ∧ t.fcl = s.fcl ∧ OnlyIn [.ports, .cbm, .txs] s t ∧ t.cbm.downHeld = s.cbm.downHeld - d.cells.length ∧
        t.cbm.queues = s.cbm.queues ∧ t.cbm.drops.get p = BufferDrops.refused q b (s.cbm.drops.get p) := by
    rw [ht]
    exact ⟨rfl, rfl, fun part hp => by cases part <;> simp_all [Part.Same], rfl, rfl, Row.get_modify_self _ _ _⟩
  have hports {v : State} (h : v.ports = s.ports) : OtherPorts p s v := fun k _ => congrArg (·.get k) h
  obtain ⟨hnotUp, hfull, hroom⟩ := s.acceptDescriptor_refused p d
  rw [hd, harea] at hnotUp hfull
  rw [hd] at hroom
  by_cases hup : (s.port p).state = .up
  · by_cases hf : full
    · obtain ⟨hsame, hfcl, honly, hheld, hqueues, hdrops⟩ := hother false (hfull hup hf)
      refine ⟨hfcl, hports hsame, honly, fun hno => absurd hup hno, fun _ _ => ⟨hheld, hqueues, ?_, hsame⟩, fun _ hno => absurd hf hno⟩
      rw [hdrops]
      rcases hq with rfl | rfl <;> rfl
    · let u := (s.setQueue q (s.queue q ++ [d])).restartIdle p
      have ht : t = u.lineChoice p := by
        refine (hroom hup hf).trans ?_
        rcases hq with rfl | rfl <;> rfl
      obtain ⟨hself, hne, hcbm⟩ := s.setQueue_joins q d (by rcases hq with rfl | rfl <;> simp)
      obtain ⟨hport, hothers⟩ := (s.setQueue q (s.queue q ++ [d])).restartIdle_spec p
      have hset : (s.setQueue q (s.queue q ++ [d])).ports = s.ports ∧ (s.setQueue q (s.queue q ++ [d])).idleAgain p = s.idleAgain p := by
        have hports : (s.setQueue q (s.queue q ++ [d])).ports = s.ports := by simp
        have hmga : (s.setQueue q (s.queue q ++ [d])).mga = s.mga := by simp
        exact ⟨hports, State.idleAgain_congr (congrArg (·.get p) hports) (congrArg (fun a : Agent => a.subscribers.get p) hmga) (by simp)⟩
      have hkeep : u.cbm = (s.setQueue q (s.queue q ++ [d])).cbm ∧ u.txs = s.txs := by simp [u]
      have hqueue (k : QueueId) : u.queue k = (s.setQueue q (s.queue q ++ [d])).queue k := State.queue_of_cbm hkeep.1 k
      have hsame (k : Port) : t.port k = u.port k := by
        rw [ht]
        simp [State.port]
      have hsetPort (k : Port) : (s.setQueue q (s.queue q ++ [d])).port k = s.port k := congrArg (·.get k) hset.1
      have hheld : t.cbm.downHeld = s.cbm.downHeld := by
        rw [ht, (u.lineChoice_sameCells p).held.2, hkeep.1]
        simp
      refine ⟨by rw [ht]; simp [u], fun k hk => (hsame k).trans ((hothers k hk).trans (hsetPort k)), ?_, fun hno => absurd hup hno,
        fun _ h => absurd h hf, fun _ _ => ⟨hheld, ?_, fun hbusy => ?_, u, ⟨(hqueue q).trans hself,
          fun other ho => (hqueue other).trans (hne other ho), ?_, hkeep.2⟩, ht ▸ State.lineChoice_chosen p u⟩⟩
      · rw [ht]
        exact s.admittedDown_only p q _
      · rw [hsame, hport, hset.2, hsetPort]
      · have hstays : u.lineChoice p = u := if_pos (by rw [hkeep.2]; exact Option.isSome_iff_ne_none.mpr hbusy)
        rw [ht, hstays]
        exact ⟨(hqueue q).trans hself, hkeep.2⟩
      · rw [hkeep.1]
        exact hcbm
  · obtain ⟨hsame, hfcl, honly, hheld, hqueues, hdrops⟩ := hother true (hnotUp hup)
    refine ⟨hfcl, hports hsame, honly, fun _ => ⟨hheld, hqueues, ?_, hsame⟩, fun h => absurd h hup, fun h => absurd h hup⟩
    rw [hdrops]
    rcases hq with rfl | rfl <;> rfl

/-- What reads of a counted frame's state are those before it. -/
theorem State.counted_reads (src : Source) (length : Nat) (r : Reception) (s : State) :
    let u := s.counted src length r
    u.cbm = s.cbm ∧ u.scu = s.scu ∧ u.txs = s.txs ∧ u.now = s.now ∧ u.settings = s.settings ∧ (∀ q, u.queue q = s.queue q) ∧
      (∀ q, u.capOf q = s.capOf q) ∧ u.uplinkMayStart = s.uplinkMayStart ∧ ∀ p, u.sub p = s.sub p := by
  intro u
  obtain ⟨-, -, honly, -, -, -⟩ := s.counted_spec src length r
  have hcbm : u.cbm = s.cbm := honly .cbm (by simp)
  have hscu : u.scu = s.scu := honly .scu (by simp)
  have htxs : u.txs = s.txs := honly .txs (by simp)
  have hmga : u.mga = s.mga := honly .mga (by simp)
  have hsub (p : Port) : u.sub p = s.sub p := by
    unfold State.sub
    rw [hmga]
  refine ⟨hcbm, hscu, htxs, honly .now (by simp), honly .settings (by simp), State.queue_of_cbm hcbm, fun q => ?_, ?_, hsub⟩
  · unfold State.capOf
    simp only [hsub]
  · unfold State.uplinkMayStart
    rw [htxs, hscu]

/-- Settles O30: the frame is counted as it leaves reception, and then dropped, refused or admitted. -/
theorem goodFramesAreAdmitted : Obligations.GoodFramesAreAdmitted := by
  intro p express length payload r h res s least most up down cap d full idleTimer counted joins
  have hup : up = .ux p ∨ up = .ub p := by cases express <;> simp [up]
  have hdown : down = .dx p ∨ down = .db p := by cases express <;> simp [down]
  have hcap : s.capOf up = cap ∧ s.capOf down = cap := by cases express <;> exact ⟨rfl, rfl⟩
  refine ⟨fun why hr hdropped => ?_, fun hr hheader hdropped hresult hqueue => ?_, fun why hr hdropped => ?_,
    fun hr hheader hdropped hresult hqueue => ?_⟩
  · have hend := execFrameEnd_counted (payload := payload) hr least most
    rw [hdropped] at hend
    obtain ⟨hrec, hhits, honly, -, hline, -⟩ := s.counted_spec (.line p) length r
    obtain ⟨hport, hother⟩ := s.counted_line p length r
    obtain ⟨hrecs, hactive, hcandidate, hheld, -, hqueues⟩ := (s.counted (.line p) length r).countDrop_keeps (.line p) why r
    have hports : ((s.counted (.line p) length r).countDrop (.line p) why r).ports = (s.counted (.line p) length r).ports := by simp
    obtain ⟨hcbm, -⟩ := s.counted_reads (.line p) length r
    obtain ⟨hcounts, hpool⟩ := (s.counted (.line p) length r).countDrop_line p why r
    rw [hline] at hcounts
    rw [hcbm] at hpool hheld hqueues
    refine ⟨_, hend, (hrecs _).trans hrec, ⟨(congrArg (·.get p) hports).trans hport, fun q hq => (congrArg (·.get q) hports).trans (hother q hq),
      hhits.of_banks hactive hcandidate⟩, hheld, hqueues, ?_, ?_, ?_, ?_, hpool, fun part hp => ?_⟩
    · rintro rfl
      exact congrArg LineDrops.untagged (hcounts (by simp))
    · rintro rfl
      exact congrArg LineDrops.noEntry (hcounts (by simp))
    · rintro rfl
      exact congrArg LineDrops.actionDrop (hcounts (by simp))
    · rintro rfl
      exact congrArg LineDrops.agentFromLine (hcounts (by simp))
    · have hsame := honly part
      cases part <;> simp_all [Part.Same]
  · have hend := execFrameEnd_counted (payload := payload) hr least most
    obtain ⟨hrec, hhits, honly, -, -, -⟩ := s.counted_spec (.line p) length r
    obtain ⟨hport, hother⟩ := s.counted_line p length r
    obtain ⟨hcbm, hscu, htxs, hnow, hsettings, hqueues, hcaps, hmay, -⟩ := s.counted_reads (.line p) length r
    obtain ⟨hports, hfcl, haccept, hnotUp, hfull, hroom⟩ := (s.counted (.line p) length r).acceptUp_spec p up hup (d (.line p) up) rfl
    have hhand : (s.counted (.line p) length r).handOnFrame (.line p) length payload r =
        (s.counted (.line p) length r).acceptDescriptor p (d (.line p) up) := by
      rcases hup with h | h <;> simp [State.handOnFrame, hheader, hresult, hqueue, h, QueueId.port, d, descriptorSource]
    simp only [hdropped, hhand] at hend
    have hstate : ((s.counted (.line p) length r).port p).state = (s.port p).state := by rw [hport]
    rw [hstate] at hnotUp hfull hroom
    rw [hcbm] at hnotUp hfull hroom
    rw [hcaps, hcap.1, hqueues] at hfull hroom
    rw [hscu, hnow, hsettings, hmay, htxs] at hroom
    simp only [hqueues] at hroom
    refine ⟨_, hend, ?_, ⟨(congrArg (·.get p) hports).trans hport, fun q hq => (congrArg (·.get q) hports).trans (hother q hq),
      hhits.of_banks (by rw [hfcl]) (by rw [hfcl])⟩, (honly.mono (by decide)).trans (haccept.mono (by decide)), hnotUp, hfull, hroom⟩
    exact (congrArg (fun c => c.rxLine.get p) hfcl).trans hrec
  · have hend := execFrameEnd_counted (payload := payload) hr least most
    rw [hdropped] at hend
    obtain ⟨hrec, hhits, honly, -, -, huplink⟩ := s.counted_spec .uplink length r
    obtain ⟨hrecs, hactive, hcandidate, -, hheld, hqueues⟩ := (s.counted .uplink length r).countDrop_keeps .uplink why r
    have hports : (s.counted .uplink length r).ports = s.ports := by simp [State.counted, State.receivedGood]
    obtain ⟨hcbm, -⟩ := s.counted_reads .uplink length r
    obtain ⟨hcounts, hnone, hpool⟩ := (s.counted .uplink length r).countDrop_uplink why r
    rw [huplink] at hcounts
    rw [hcbm] at hnone hpool hheld hqueues
    refine ⟨_, hend, (hrecs _).trans hrec, hhits.of_banks hactive hcandidate, hheld, hqueues, ?_, ?_, ?_, hnone,
      fun hwhy hq => hpool p down hwhy hq (by rcases hdown with h | h <;> simp [h, QueueId.port]), fun part hp => ?_⟩
    · rintro rfl
      exact hcounts (by simp)
    · rintro rfl
      exact hcounts (by simp)
    · rintro rfl
      exact hcounts (by simp)
    · have hsame := honly part
      cases part <;> simp_all [Part.Same]
  · have hend := execFrameEnd_counted (payload := payload) hr least most
    obtain ⟨hrec, hhits, honly, -, -, -⟩ := s.counted_spec .uplink length r
    have hports : (s.counted .uplink length r).ports = s.ports := by simp [State.counted, State.receivedGood]
    obtain ⟨hcbm, hscu, htxs, hnow, hsettings, hqueues, hcaps, -, hsub⟩ := s.counted_reads .uplink length r
    obtain ⟨hfcl, hother, haccept, hnotUp, hfull, hroom⟩ := (s.counted .uplink length r).acceptDown_spec p down hdown (d .uplink down) rfl
    have hhand : (s.counted .uplink length r).handOnFrame .uplink length payload r =
        (s.counted .uplink length r).acceptDescriptor p (d .uplink down) := by
      rcases hdown with h | h <;> simp [State.handOnFrame, hheader, hresult, hqueue, h, QueueId.port, d, descriptorSource]
    simp only [hdropped, hhand] at hend
    have hport (q : Port) : (s.counted .uplink length r).port q = s.port q := congrArg (·.get q) hports
    have hidle : (s.counted .uplink length r).idleAgain p = s.idleAgain p := State.idleAgain_congr (hport p) (hsub p) hnow
    rw [hport, hcbm] at hnotUp hfull hroom
    rw [hcaps, hcap.2, hqueues] at hfull hroom
    rw [htxs, hidle] at hroom
    rw [hports] at hnotUp hfull
    simp only [hqueues] at hroom
    refine ⟨_, hend, ?_, fun q hq => (hother q hq).trans (hport q), hhits.of_banks (by rw [hfcl]) (by rw [hfcl]),
      (honly.mono (by decide)).trans (haccept.mono (by decide)), hnotUp, hfull, hroom⟩
    · exact (congrArg Classifier.rxUplink hfcl).trans hrec

end Sys2Proof.Machine
end

section
/-! The obligations on the Share Computation Unit's events: O34 and O35 (04). -/

namespace Sys2Proof.Machine

variable {s t u : State} {p : Port} {o : Origin}

/-! ## Triggers (R79) -/

/-- What a snapshot is taken from. -/
theorem State.snapshot_congr (link : t.scu.linkUp = s.scu.linkUp) (report : t.scu.latestReport = s.scu.latestReport)
    (activity : t.scu.activity = s.scu.activity) (settings : t.settings = s.settings) (ports : t.ports = s.ports)
    (subscribers : t.mga.subscribers = s.mga.subscribers) : t.snapshot = s.snapshot := by
  have hcapacity : t.capacityUp = s.capacityUp := by
    unfold capacityUp
    rw [link, report, settings]
  have hactive : t.isActive = s.isActive := by
    funext p
    unfold isActive
    rw [activity]
  have hclaim : t.claim = s.claim := by
    funext p
    unfold claim sub port
    rw [subscribers, ports]
  unfold snapshot
  rw [hcapacity, hactive, hclaim, settings]

/-- A trigger of `s` was taken in a step that left `t` (R79). -/
def Triggered (s t : State) : Prop :=
  (s.scu.computation = none → t.scu.computation = some ⟨t.snapshot, false, Row.all false⟩) ∧
    ∀ c, s.scu.computation = some c → t.scu.computation = some { c with recompute := true }

theorem State.trigger_computation (s : State) :
    (s.scu.computation = none → s.trigger.scu.computation = some ⟨s.snapshot, false, Row.all false⟩) ∧
      ∀ c, s.scu.computation = some c → s.trigger.scu.computation = some { c with recompute := true } := by
  unfold trigger
  refine ⟨fun h => ?_, fun c h => ?_⟩ <;> rw [h]
  rfl

/-- A trigger taken in a state with the same computation, the share unit and what it reads kept afterwards. -/
theorem Triggered.of_trigger (computation : u.scu.computation = s.scu.computation) (scu : t.scu = u.trigger.scu) (settings : t.settings = u.settings)
    (ports : t.ports = u.ports) (subscribers : t.mga.subscribers = u.mga.subscribers) : Triggered s t := by
  obtain ⟨hnone, hsome⟩ := u.trigger_computation
  have hsnapshot : t.snapshot = u.snapshot :=
    State.snapshot_congr (by rw [scu]; simp) (by rw [scu]; simp) (by rw [scu]; simp) settings ports subscribers
  unfold Triggered
  rw [← computation, scu, hsnapshot]
  exact ⟨hnone, hsome⟩

theorem State.raiseFault_faults (src : FaultSource) (kind : FaultKind) (s : State) :
    (s.raiseFault src kind).mga.faults = (s.mga.raise src kind none s.uptime).1.faults := by simp

/-- Settles O34. -/
theorem shareTriggers : Obligations.ShareTriggers := by
  intro p capacity s triggered idle v counts
  have htriggered {t : State} (h : Triggered s t) : triggered t := by
    simp only [triggered]
    split
    · next hnone => exact h.1 hnone
    · next c hsome => exact h.2 c hsome
  refine ⟨fun hnone => by simp [exec, execActivityTimerExpiry, hnone], fun e he => ?_, ?_, by simp [exec, execUplinkLinkStateChange], fun hup => ?_,
    fun hdown => ?_⟩
  · let u : State := { s.reach e with scu := { s.scu with activity := s.scu.activity.set p none } }
    let k : State := { s.reach e with scu := { s.scu with activity := s.scu.activity.set p (some ((s.reach e).now + ms s.settings.activityWindow)) } }
    have hqueue (q : QueueId) : (s.reach e).queue q = s.queue q := rfl
    by_cases hidle : idle
    · obtain ⟨hux, hub⟩ := hidle
      refine ⟨u.trigger, by simp [exec, execActivityTimerExpiry, he, hqueue, hux, hub, u], by simp [u, State.reach], fun q hq => ?_, by simp [u],
        fun part hp => by cases part <;> simp_all [Part.Same, u], fun _ => ⟨?_, htriggered (.of_trigger (u := u) rfl rfl (by simp) (by simp) (by simp))⟩,
        fun hno => absurd ⟨hux, hub⟩ hno⟩
      · have hactivity : u.trigger.scu.activity = s.scu.activity.set p none := by simp [u]
        rw [hactivity]
        exact Row.get_set_ne _ _ hq
      · simp [u]
    · have hexec : exec (.activityTimerExpiry p) s = .next k := by
        simp only [exec, execActivityTimerExpiry, he]
        exact if_neg fun ⟨hux, hub⟩ => hidle ⟨List.isEmpty_iff.mp hux, List.isEmpty_iff.mp hub⟩
      exact ⟨k, hexec, rfl, fun q hq => Row.get_set_ne _ _ hq, rfl, fun part hp => by cases part <;> simp_all [Part.Same, k], fun h => absurd h hidle,
        fun _ => ⟨Row.get_set_self _ _ _, rfl⟩⟩
  · let u : State := { s with scu := { s.scu with latestReport := some v } }
    by_cases hcounts : counts
    · refine ⟨u.trigger, if_pos hcounts, by simp [u], fun part hp => by cases part <;> simp_all [Part.Same, u], by simp [u], by simp [u],
        fun _ => htriggered (.of_trigger (u := u) rfl rfl (by simp) (by simp) (by simp)), fun hno => absurd hcounts hno⟩
    · exact ⟨u, if_neg hcounts, rfl, fun part hp => by cases part <;> simp_all [Part.Same, u], rfl, rfl, fun h => absurd h hcounts, fun _ => rfl⟩
  · let u : State := { s with scu := { s.scu with linkUp := false } }
    refine ⟨u.trigger.raiseFault .uplink .uplinkDown, by simp [exec, execUplinkLinkStateChange, hup, State.linkDown, u], by simp [u],
      htriggered (.of_trigger (u := u) rfl (by simp) (by simp) (by simp) (by simp)), ?_, fun part hp => by cases part <;> simp_all [Part.Same, u]⟩
    rw [State.raiseFault_faults]
    simp [u, State.uptime]
  · let u : State := { s with scu := { s.scu with linkUp := true } }
    refine ⟨(u.trigger.clearFault .uplink .uplinkDown).tryNoticeFrame.uplinkChoice,
      by simp [exec, execUplinkLinkStateChange, hdown, State.linkComesUp, u], by simp [u],
      htriggered (.of_trigger (u := u) rfl (by simp) (by simp) (by simp) (by simp)), fun f hf hsource hkind => ?_,
      fun part hp => by cases part <;> simp_all [Part.Same, u]⟩
    simp only [State.uplinkChoice_frame, State.tryNoticeFrame_frame, State.clearFault, updateFault, List.mem_map] at hf
    obtain ⟨f₀, -, rfl⟩ := hf
    split
    · rfl
    · next hkey =>
      rw [if_neg hkey] at hsource hkind
      exact absurd ((FaultRecord.hasKey_iff _).mpr ⟨hsource, hkind⟩) hkey

end Sys2Proof.Machine
end

section
/-! O35: snapshots, installs and SHARE_RECOMPUTE (04). -/

namespace Sys2Proof.Machine

variable {s t u : State} {p : Port} {o : Origin}

/-- What stands beside a directive that was carried out on a state with another list of messages. -/
theorem onlyIn_of_beside {l : List Part} (h : t.besideDirective = u.besideDirective) (only : OnlyIn l s u) (mga : Part.mga ∈ l := by decide)
    (mail : Part.mail ∈ l := by decide) : OnlyIn l s t := by
  intro part hp
  have hsame := only part hp
  have hpart {β : Type} (f : State → β) : f t.besideDirective = f u.besideDirective := congrArg f h
  cases part with
  | mga => exact absurd mga hp
  | mail => exact absurd mail hp
  | pending => exact (hpart State.pending).trans hsame
  | now => exact (hpart State.now).trans hsame
  | resetAt => exact (hpart State.resetAt).trans hsame
  | ports => exact (hpart State.ports).trans hsame
  | fcl => exact (hpart State.fcl).trans hsame
  | cbm => exact (hpart State.cbm).trans hsame
  | scu => exact (hpart State.scu).trans hsame
  | txs => exact (hpart State.txs).trans hsame
  | ptc => exact (hpart State.ptc).trans hsame
  | msu => exact (hpart State.msu).trans hsame
  | lwu => exact (hpart State.lwu).trans hsame
  | csu => exact (hpart State.csu).trans hsame
  | pbu => exact (hpart State.pbu).trans hsame
  | settings => exact (hpart State.settings).trans hsame

/-- The claims of a snapshot are those of the active ports, in ascending order (R69). -/
theorem State.snapshot_claims (s : State) :
    (∀ p, (∃ c ∈ s.snapshot.claims, c.port = p) ↔ s.scu.activity.get p ≠ none) ∧ (s.snapshot.claims.map (·.port)).Pairwise (· < ·) ∧
      ∀ c ∈ s.snapshot.claims, c = s.claim c.port := by
  have hports : s.snapshot.claims.map (·.port) = allPorts.filter s.isActive := by
    simp only [snapshot, List.map_map]
    exact (List.map_congr_left fun p _ => rfl).trans (List.map_id _)
  refine ⟨fun p => ?_, ?_, fun c hc => ?_⟩
  · have hmem : (∃ c ∈ s.snapshot.claims, c.port = p) ↔ p ∈ s.snapshot.claims.map (·.port) := by simp
    rw [hmem, hports, List.mem_filter]
    simp [allPorts, isActive, Option.isSome_iff_ne_none]
  · rw [hports]
    exact List.Pairwise.filter _ (by decide)
  · obtain ⟨p, -, rfl⟩ := List.mem_map.mp hc
    rfl

/-- What an install leaves: the table, and the notice of a changed flag (R76, R80). -/
theorem State.installShares_spec (c : Computation) (s : State) :
    let u := s.installShares c
    let table := c.install s.scu.table
    u.scu = { s.scu with table := table } ∧
      (table.overcommitted ≠ s.scu.table.overcommitted → s.noticeEnabled .overcommit = true → s.mga.destination = none →
        s.mga.notices.length < 32 →
        u.mga.notices = s.mga.notices ++ [⟨.overcommit table.overcommitted table.usable table.floors table.sequence, s.uptime⟩]) ∧
      (table.overcommitted = s.scu.table.overcommitted ∨ s.noticeEnabled .overcommit = false →
        u.mga = s.mga ∧ u.cbm = s.cbm ∧ u.txs = s.txs) ∧
      Reported s u ∧ OnlyIn [.scu, .mga, .cbm, .txs] s u ∧ u.mga.subscribers = s.mga.subscribers := by
  intro u table
  let v : State := { s with scu := { s.scu with table := table } }
  let n : Notice := .overcommit table.overcommitted table.usable table.floors table.sequence
  have hu : u = if table.overcommitted = s.scu.table.overcommitted then v else v.raiseNotice n := rfl
  by_cases hflag : table.overcommitted = s.scu.table.overcommitted
  · rw [if_pos hflag] at hu
    rw [hu]
    exact ⟨rfl, fun h => absurd hflag h, fun _ => ⟨rfl, rfl, rfl⟩, rfl, fun part hp => by cases part <;> simp_all [Part.Same, v], rfl⟩
  · rw [if_neg hflag] at hu
    rw [hu]
    refine ⟨by simp [v], fun _ henabled hdest hroom => ?_, fun h => ?_, v.reported_raiseNotice n, fun part hp => by cases part <;> simp_all [Part.Same, v],
      by simp [v]⟩
    · rw [State.raiseNotice_mga v n hdest, if_pos (show v.noticeEnabled n.kind = true from henabled), Agent.queueNotice_notices _ _ hroom]
      rfl
    · have hoff : s.noticeEnabled .overcommit = false := h.resolve_left hflag
      have hquiet : v.raiseNotice n = v := if_neg (by rw [show v.noticeEnabled n.kind = s.noticeEnabled .overcommit from rfl, hoff]; simp)
      rw [hquiet]
      exact ⟨rfl, rfl, rfl⟩

/-- The state after a completion. -/
theorem execComputationComplete_running {c : Computation} (h : s.scu.computation = some c) :
    ∃ t, exec .computationComplete s = .next t ∧
      t = { s.installShares c with
        scu := { (s.installShares c).scu with
          computation := if c.recompute = true then some ⟨s.snapshot, false, Row.all false⟩ else none } } := by
  obtain ⟨hscu, -, -, -, honly, hsub⟩ := s.installShares_spec c
  have hsnapshot : State.snapshot { s.installShares c with scu := { (s.installShares c).scu with computation := none } } = s.snapshot :=
    State.snapshot_congr (by rw [hscu]) (by rw [hscu]) (by rw [hscu]) (honly .settings (by simp)) (honly .ports (by simp)) hsub
  refine ⟨_, ?_, rfl⟩
  simp only [exec, execComputationComplete, h]
  split
  · rw [State.startComputation, hsnapshot]
  · rfl

theorem yesNo_eq (b : Bool) : yesNo b = [if b = true then 1 else 0] := by
  cases b <;> rfl

/-- Settles O35. -/
theorem computationsInstall : Obligations.ComputationsInstall := by
  refine ⟨fun s hidle => by simp [exec, execComputationComplete, hidle], fun s => ?_, fun s c hc => ?_, fun o s comes => ?_⟩
  · obtain ⟨hactive, hordered, hclaims⟩ := s.snapshot_claims
    have hcup : s.snapshot.cUp = (if s.scu.linkUp = true then
        match s.settings.capacitySource with | .reported => s.scu.latestReport.getD 0 | .fixed => s.settings.fixedCapacity else 0) := by
      cases hsource : s.settings.capacitySource <;> simp [State.snapshot, State.capacityUp, hsource]
    refine ⟨hcup, rfl, rfl, hactive, hordered, fun c hc => ?_⟩
    rw [hclaims c hc]
    exact ⟨rfl, rfl, rfl, fun r hr => by simp only [State.claim]; rw [show (s.port c.port).rates = some r from hr]⟩
  · obtain ⟨t, hexec, rfl⟩ := execComputationComplete_running hc
    obtain ⟨hscu, hnotice, hquiet, hreported, honly, -⟩ := s.installShares_spec c
    have hflag : (c.install s.scu.table).overcommitted = true ↔ c.snapshot.compute.outcome = .overcommitted := by
      simp only [Computation.install]
      cases c.snapshot.compute.outcome <;> simp [ShareOutcome.flag]
    have htable : (s.installShares c).scu.table = c.install s.scu.table := by rw [hscu]
    refine ⟨_, hexec, fun p => ?_, ?_⟩
    · simp only [htable, Computation.install, Row.get_make]
      rfl
    simp only [htable]
    exact ⟨rfl, rfl, rfl, rfl, rfl, hflag, rfl, rfl, trivial, hnotice, hquiet, by rw [hscu], hreported,
      fun part hp => by have hsame := honly part hp; cases part <;> simp_all [Part.Same]⟩
  · obtain ⟨hanswered, ml, hbeside, -⟩ := State.direct_done (lengthGood := true) (demands := .free) (f := State.trigger)
      (data := num4 s.scu.table.sequence.toNat ++ yesNo s.scu.computation.isNone) comes
      (fun ml => (State.answer_free _ o State.recompute).1) fun ml => rfl
    have hscu : (({ s with mail := ml } : State).trigger).scu =
        { s.scu with
          computation :=
            match s.scu.computation with
            | none => some ⟨s.snapshot, false, Row.all false⟩
            | some c => some { c with recompute := true } } := by
      unfold State.trigger
      cases hc : s.scu.computation <;> simp [State.startComputation] <;> rfl
    rw [yesNo_eq] at hanswered
    exact ⟨_, rfl, hanswered, (congrArg State.scu hbeside).trans hscu, onlyIn_of_beside hbeside fun part hp => by cases part <;> simp_all [Part.Same]⟩

end Sys2Proof.Machine
end

section
/-! The obligations on refills and choices: O36 and O37 (05). -/

namespace Sys2Proof.Machine

variable {s t u : State} {p : Port}

/-! ## What a choice leaves of the scheduler (R89, R94) -/

/-- A bucket that was at most charged. -/
def Bucket.Charged (b c : Bucket) : Prop := c.due = b.due ∧ c.remainder = b.remainder ∧ c.tokens ≤ b.tokens

theorem Bucket.Charged.refl (b : Bucket) : b.Charged b := ⟨rfl, rfl, le_refl _⟩

theorem State.startUplink_txs (q : QueueId) (s : State) : (s.startUplink q).txs = { s.txs with uplinkTx := (s.startUplink q).txs.uplinkTx } := by
  unfold startUplink
  split
  · rfl
  · simp

/-- A choice on the uplink at most charges the upstream buckets, and leaves all downstream. -/
theorem State.uplinkChoice_charges (s : State) : (∀ p, (s.txs.upBuckets.get p).Charged (s.uplinkChoice.txs.upBuckets.get p)) ∧
    s.uplinkChoice.txs.downBuckets = s.txs.downBuckets ∧ s.uplinkChoice.txs.lineTx = s.txs.lineTx := by
  have hrefl : (∀ p, (s.txs.upBuckets.get p).Charged (s.txs.upBuckets.get p)) ∧ s.txs.downBuckets = s.txs.downBuckets ∧ s.txs.lineTx = s.txs.lineTx :=
    ⟨fun _ => .refl _, rfl, rfl⟩
  have hcharge (k : Port) (n : Nat) (q : QueueId) : (∀ p, (s.txs.upBuckets.get p).Charged (((s.chargeUp k n).startUplink q).txs.upBuckets.get p)) ∧
      ((s.chargeUp k n).startUplink q).txs.downBuckets = s.txs.downBuckets ∧ ((s.chargeUp k n).startUplink q).txs.lineTx = s.txs.lineTx := by
    rw [startUplink_txs]
    refine ⟨fun p => ?_, rfl, rfl⟩
    by_cases hp : p = k
    · subst hp
      simp [chargeUp, Row.get_modify, Bucket.Charged]
    · simp [chargeUp, Row.get_modify, hp, Bucket.Charged]
  unfold uplinkChoice
  split
  · split
    · split
      · exact hcharge _ _ _
      · split
        · exact hcharge _ _ _
        · exact hrefl
    · rw [startUplink_txs]
      exact hrefl
  · exact hrefl

/-- A choice of a line transmitter at most charges its own downstream bucket. -/
theorem State.lineChoice_charges (p : Port) (s : State) : (s.txs.downBuckets.get p).Charged ((s.lineChoice p).txs.downBuckets.get p) ∧
    (∀ q, q ≠ p → (s.lineChoice p).txs.downBuckets.get q = s.txs.downBuckets.get q) ∧ (s.lineChoice p).txs.upBuckets = s.txs.upBuckets := by
  have hrefl : (s.txs.downBuckets.get p).Charged (s.txs.downBuckets.get p) ∧ (∀ q, q ≠ p → s.txs.downBuckets.get q = s.txs.downBuckets.get q) ∧
      s.txs.upBuckets = s.txs.upBuckets := ⟨.refl _, fun _ _ => rfl, rfl⟩
  have hstart (q : QueueId) : (s.txs.downBuckets.get p).Charged ((s.startLine p q).txs.downBuckets.get p) ∧
      (∀ k, k ≠ p → (s.startLine p q).txs.downBuckets.get k = s.txs.downBuckets.get k) ∧ (s.startLine p q).txs.upBuckets = s.txs.upBuckets := by
    unfold startLine
    split
    · exact hrefl
    · refine ⟨?_, fun k hk => ?_, ?_⟩ <;> simp [Row.get_modify, Bucket.Charged]
      exact fun h => absurd h hk
  unfold lineChoice
  dsimp only
  split
  · exact hrefl
  · split <;> split <;> [exact hstart _; exact hrefl; exact hstart _; exact hrefl]

theorem Row.modify_eq_set {α : Type} {n : Nat} (row : Row n α) (i : Fin n) (f : α → α) : row.modify i f = row.set i (f (row.get i)) :=
  Row.ext fun j => by by_cases h : j = i <;> simp [Row.get_modify, Row.get_set, h]

/-- Settles O36. -/
theorem bucketsRefill : Obligations.BucketsRefill := by
  intro p s refilled up down upNew downRate downNew
  constructor
  · let u : State := { s with
      now := max s.now up.due, txs := { s.txs with upBuckets := s.txs.upBuckets.set p ⟨upNew.1, upNew.2, max s.now up.due + 1000⟩ } }
    have hexec : exec (.upstreamRefill p) s = .next u.uplinkChoice := by
      simp only [exec, execUpstreamRefill, Row.modify_eq_set]
      rfl
    obtain ⟨hcharged, hdown, hline⟩ := u.uplinkChoice_charges
    have hself : u.txs.upBuckets.get p = ⟨upNew.1, upNew.2, max s.now up.due + 1000⟩ := Row.get_set_self _ _ _
    obtain ⟨hdue, hremainder, htokens⟩ := hcharged p
    rw [hself] at hdue hremainder htokens
    have hnow : u.uplinkChoice.now = max s.now up.due := by simp [u]
    refine ⟨_, hexec, hnow, hdue.trans (by rw [hnow]), hremainder, htokens, fun hstop => ?_, hdown, hline,
      fun part hp => by cases part <;> simp_all [Part.Same, u], u.uplinkChoice_chosen⟩
    have hstays : u.uplinkChoice = u := if_neg (by rw [show u.uplinkMayStart = s.uplinkMayStart from rfl, hstop]; simp)
    rw [hstays]
    exact ⟨by rw [hself], rfl, fun q hq => Row.get_set_ne _ _ hq⟩
  · let u : State := { s with
      now := max s.now down.due, txs := { s.txs with downBuckets := s.txs.downBuckets.set p ⟨downNew.1, downNew.2, max s.now down.due + 1000⟩ } }
    have hrate : s.downRate p = downRate := by
      cases hstate : (s.port p).state <;> cases hrates : (s.port p).rates <;> simp [State.downRate, downRate, hstate, hrates]
    have hexec : exec (.downstreamRefill p) s = .next (u.lineChoice p) := by
      simp only [exec, execDownstreamRefill, Row.modify_eq_set]
      rw [show (s.reach (s.txs.downBuckets.get p).due).downRate p = downRate from hrate]
      rfl
    obtain ⟨hcharged, hother, hup⟩ := u.lineChoice_charges p
    have hself : u.txs.downBuckets.get p = ⟨downNew.1, downNew.2, max s.now down.due + 1000⟩ := Row.get_set_self _ _ _
    obtain ⟨hdue, hremainder, htokens⟩ := hcharged
    rw [hself] at hdue hremainder htokens
    have hnow : (u.lineChoice p).now = max s.now down.due := by simp [u]
    refine ⟨_, hexec, hnow, hdue.trans (by rw [hnow]), hremainder, htokens, fun hbusy => ?_, fun q hq => (hother q hq).trans (Row.get_set_ne _ _ hq),
      hup, fun part hp => by cases part <;> simp_all [Part.Same, u], State.lineChoice_chosen p u⟩
    have hstays : u.lineChoice p = u := if_pos (Option.isSome_iff_ne_none.mpr hbusy)
    rw [hstays]
    exact ⟨by rw [hself], rfl⟩

/-! ## A choice made again (R88) -/

/-- A frame that starts keeps the uplink busy. -/
theorem State.startUplink_busy (q : QueueId) (s : State) (h : s.queue q ≠ []) : (s.startUplink q).txs.uplinkTx.isSome := by
  unfold startUplink
  split
  · next hq => exact absurd hq h
  · simp

theorem headFits_ne {ds : List Descriptor} {n : Nat} (h : headFits ds n = true) : ds ≠ [] := by
  rintro rfl
  exact Bool.false_ne_true h

/-- After a choice either nothing has started, or nothing more may start. -/
theorem State.uplinkChoice_settles (s : State) : s.uplinkChoice = s ∨ s.uplinkChoice.uplinkMayStart = false := by
  have hbusy (u : State) (h : u.txs.uplinkTx.isSome) : u.uplinkMayStart = false := by
    unfold uplinkMayStart
    rw [Option.isNone_eq_false_iff.mpr h]
    rfl
  have hstart (k : Port) (n : Nat) (q : QueueId) (h : s.queue q ≠ []) : ((s.chargeUp k n).startUplink q).txs.uplinkTx.isSome :=
    (s.chargeUp k n).startUplink_busy q h
  unfold uplinkChoice
  split
  · split
    · split
      · next p hp => exact .inr (hbusy _ (hstart p _ _ (headFits_ne (List.find?_some (p := fun p => headFits (s.queue (.ux p)) (s.upTokens p)) hp))))
      · split
        · next p hp => exact .inr (hbusy _ (hstart p _ _ (headFits_ne (List.find?_some (p := fun p => headFits (s.queue (.ub p)) (s.upTokens p)) hp))))
        · exact .inl rfl
    · next haq => exact .inr (hbusy _ (s.startUplink_busy .aq fun h => haq (List.isEmpty_iff.mpr h)))
  · exact .inl rfl

/-- A choice made twice is made once. -/
theorem State.uplinkChoice_again (s : State) : s.uplinkChoice.uplinkChoice = s.uplinkChoice := by
  rcases s.uplinkChoice_settles with h | h
  · rw [h]
    exact h
  · exact if_neg (by simp [h])

/-- What the attempt of a notice frame leaves for the choice that follows it (R186): at most one notice frame more at the tail of AQ. -/
theorem State.tryNoticeFrame_placed (s : State) : ∃ u : State, s.tryNoticeFrame.uplinkChoice = u.uplinkChoice ∧ u.txs = s.txs ∧
    (∀ q, q ≠ .aq → u.queue q = s.queue q) ∧ (u.cbm.aq = s.cbm.aq ∨ ∃ d, d.agentKind = some .notice ∧ u.cbm.aq = s.cbm.aq ++ [d]) ∧
    (s.mga.notices = [] ∨ s.mga.destination = none → u = s) ∧ OnlyIn [.mga, .cbm] s u := by
  have hstay (h : s.tryNoticeFrame = s) : ∃ u : State, s.tryNoticeFrame.uplinkChoice = u.uplinkChoice ∧ u.txs = s.txs ∧
      (∀ q, q ≠ .aq → u.queue q = s.queue q) ∧ (u.cbm.aq = s.cbm.aq ∨ ∃ d, d.agentKind = some .notice ∧ u.cbm.aq = s.cbm.aq ++ [d]) ∧
      (s.mga.notices = [] ∨ s.mga.destination = none → u = s) ∧ OnlyIn [.mga, .cbm] s u :=
    ⟨s, by rw [h], rfl, fun _ _ => rfl, .inl rfl, fun _ => rfl, .refl _ _⟩
  rcases Option.eq_none_or_eq_some s.mga.destination with hdest | ⟨dst, hdest⟩
  · exact hstay (by unfold tryNoticeFrame; rw [hdest])
  · by_cases hquiet : (s.mga.notices.isEmpty || !s.scu.linkUp || s.noticeFrameOut) = true
    · exact hstay (by unfold tryNoticeFrame; rw [hdest]; exact if_pos hquiet)
    · let items := s.mga.notices.take Config.maxNoticeItems
      let built := buildFrame dst.address (some dst.vid)
        (agentHeader 3 s.mga.cabinet 0 items.length 0 s.mga.noticeFlags ++ items.flatMap NoticeItem.octets)
      by_cases hroom : s.hasRoom built.2 = true
      · let v := s.placeFrame .aq built.2 built.1 .notice
        let u : State := { v with mga := { v.mga with notices := v.mga.notices.drop Config.maxNoticeItems } }
        have htry : s.tryNoticeFrame = u.uplinkChoice := by
          unfold tryNoticeFrame
          rw [hdest]
          exact (if_neg hquiet).trans (if_pos hroom)
        have hne : ¬(s.mga.notices = [] ∨ s.mga.destination = none) := by
          rintro (h | h)
          · simp [h] at hquiet
          · exact Option.some_ne_none _ (hdest.symm.trans h)
        refine ⟨u, by rw [htry, u.uplinkChoice_again], by simp [u, v, placeFrame], fun q hq => ?_, .inr ⟨_, rfl, queue_setQueue_self .aq _ _⟩,
          fun h => absurd h hne, fun part hp => by cases part <;> simp_all [Part.Same, u, v, placeFrame]⟩
        exact (queue_setQueue_ne _ _ hq).trans (takeCells_queue _ _ _ _)
      · refine hstay ?_
        unfold tryNoticeFrame
        rw [hdest]
        exact (if_neg hquiet).trans (if_neg hroom)

/-! ## What leaves (R92, R95) -/

theorem Descriptor.sent_marked {d : Descriptor} {res : Result} (h : d.result = some res) (mark : res.insertTag = true) :
    d.sent = ⟨d, d.image.insertTag res.egressVid, d.length + 4⟩ := by
  simp [sent, h, mark]

theorem Descriptor.sent_forwarded {d : Descriptor} {res : Result} (h : d.result = some res) (mark : res.insertTag = false) :
    d.sent = ⟨d, d.image.forwarded res, d.length⟩ := by
  simp [sent, h, mark]

theorem FrameImage.forwarded_tagged {f : FrameImage} {res : Result} {tag : Tag} (h : f.header.tag = some tag) :
    (res.action = .retag ∨ tag.vid = 0#12 → f.forwarded res =
        { f with header := { f.header with tag := some { tag with vid := BitVec.ofNat 12 res.egressVid } }, newFcs := true }) ∧
      (res.action ≠ .retag → tag.vid ≠ 0#12 → f.forwarded res = f) := by
  constructor
  · intro hnew
    have hvid : f.withVid res.egressVid = { f with
        header := { f.header with tag := some { tag with vid := BitVec.ofNat 12 res.egressVid } }, newFcs := true } := by
      simp [withVid, h]
    rw [← hvid]
    exact if_pos (hnew.imp id fun hzero => by simp [h, hzero])
  · intro hretag hzero
    exact if_neg (by simp [h, hretag, hzero])

/-- Settles O37. -/
theorem theArbiterChooses : Obligations.TheArbiterChooses := by
  refine ⟨fun s => ⟨?_, { s with txs := { s.txs with paused := true } }, ?_, rfl, fun part hp => ?_⟩, fun d hnone => ?_, ?_,
    fun s hpaused => ⟨_, ?_, State.uplinkChoice_chosen _⟩, fun s hdown => ?_⟩
  · simp [exec, execPauseChange]
  · simp only [exec, execPauseChange]
    exact if_neg (by simp)
  · cases part <;> simp_all [Part.Same]
  · simp [Descriptor.sent, hnone]
  · intro d res hres vid
    refine ⟨by simp, fun hmark => ?_, fun tag hmark htag => ?_⟩
    · rw [Descriptor.sent_marked hres hmark]
      exact ⟨rfl, rfl, ⟨0#3, Config.insertedTagDropEligible, vid⟩, rfl, rfl, rfl⟩
    · rw [Descriptor.sent_forwarded hres hmark]
      exact ⟨rfl, FrameImage.forwarded_tagged htag⟩
  · simp [exec, execPauseChange, hpaused]
  · let v := (State.trigger { s with scu := { s.scu with linkUp := true } }).clearFault .uplink .uplinkDown
    obtain ⟨u, hchoice, htxs, hqueues, haq, hcalm, honly⟩ := v.tryNoticeFrame_placed
    have hv : v.cbm = s.cbm ∧ v.txs = s.txs ∧ v.mga.notices = s.mga.notices ∧ v.mga.destination = s.mga.destination ∧ v.scu.linkUp = true := by
      simp [v]
    obtain ⟨hcbm, hvtxs, hnotices, hdest, hlink⟩ := hv
    have honlyV : OnlyIn [.scu, .mga, .cbm] s v := fun part hp => by cases part <;> simp_all [Part.Same, v]
    have hexec : exec (.uplinkLinkStateChange true) s = .next v.tryNoticeFrame.uplinkChoice := by
      simp [exec, execUplinkLinkStateChange, hdown, State.linkComesUp, v]
    refine ⟨u, u.uplinkChoice, hexec.trans (congrArg _ hchoice), u.uplinkChoice_chosen, ?_, htxs.trans hvtxs,
      fun q hq => (hqueues q hq).trans (State.queue_of_cbm hcbm q), ?_, fun h => ?_, honlyV.trans (honly.mono (by decide))⟩
    · rw [show u.scu = v.scu from honly .scu (by simp)]
      exact hlink
    · rwa [hcbm] at haq
    · rw [hcalm (by rwa [hnotices, hdest]), hcbm]

end Sys2Proof.Machine
end

section
/-! O38: completions and the craft link (05). -/

namespace Sys2Proof.Machine

variable {s t u : State} {p : Port}

/-! ## What a choice leaves of the scheduler's counters and of the other transmitters -/

theorem State.uplinkChoice_txs (s : State) : s.uplinkChoice.txs =
    { s.txs with
      upBuckets := s.uplinkChoice.txs.upBuckets, expressPtr := s.uplinkChoice.txs.expressPtr, bulkPtr := s.uplinkChoice.txs.bulkPtr
      uplinkTx := s.uplinkChoice.txs.uplinkTx } := by
  have hstart (k : Port) (n : Nat) (q : QueueId) : ((s.chargeUp k n).startUplink q).txs =
      { s.txs with upBuckets := ((s.chargeUp k n).startUplink q).txs.upBuckets, uplinkTx := ((s.chargeUp k n).startUplink q).txs.uplinkTx } := by
    rw [startUplink_txs]
    rfl
  have haq : (s.startUplink .aq).txs = { s.txs with uplinkTx := (s.startUplink .aq).txs.uplinkTx } := s.startUplink_txs .aq
  unfold uplinkChoice startExpress startBulk
  dsimp only
  split
  · split
    · split
      · next p _ => rw [hstart p _ _]
      · split
        · next p _ => rw [hstart p _ _]
        · rfl
    · rw [haq]
  · rfl

/-- A choice of a line transmitter leaves the other transmitters. -/
theorem State.lineChoice_others (p : Port) (s : State) : ∀ q, q ≠ p → (s.lineChoice p).txs.lineTx.get q = s.txs.lineTx.get q := by
  have hstart (k : QueueId) (q : Port) (hq : q ≠ p) : (s.startLine p k).txs.lineTx.get q = s.txs.lineTx.get q := by
    unfold startLine
    split
    · rfl
    · simp [Row.get_set_ne _ _ hq]
  intro q hq
  unfold lineChoice
  dsimp only
  split
  · rfl
  · split <;> split <;> [exact hstart _ q hq; rfl; exact hstart _ q hq; rfl]

theorem State.lineChoice_empty (hdx : s.queue (.dx p) = []) (hdb : s.queue (.db p) = []) : s.lineChoice p = s := by
  unfold lineChoice
  simp [hdx, hdb, headFits]

/-! ## What freed reserved cells set off (R180, R186, R191) -/

/-- A directed reset's wait ended and a waiting report offered again. -/
def State.offeredAgain (ds : List Descriptor) (s : State) : State :=
  let s := if ds.any Descriptor.answersReset then s.endResetWait else s
  match s.mga.exec with
  | .reporting r => if r.offeredAt.isSome then s.post .reportPlacement else s
  | _ => s

theorem State.afterAgentFrames_eq (ds : List Descriptor) (s : State) : s.afterAgentFrames ds = (s.offeredAgain ds).tryNoticeFrame := rfl

theorem State.offeredAgain_spec (ds : List Descriptor) (s : State) :
    OnlyIn [.mga, .mail] s (s.offeredAgain ds) ∧ (s.offeredAgain ds).mga.notices = s.mga.notices ∧
      (s.offeredAgain ds).mga.destination = s.mga.destination ∧
      (∀ r, s.mga.exec = .reporting r → r.offeredAt ≠ none → Instr.reportPlacement ∈ (s.offeredAgain ds).mail) ∧
      ((∃ d ∈ ds, d.agentKind = some (.report true)) →
        (s.offeredAgain ds).mga.resetWait = .over ∧ Instr.directedReset ∈ (s.offeredAgain ds).mail) := by
  let v := if ds.any Descriptor.answersReset then s.endResetWait else s
  have hv : OnlyIn [.mga, .mail] s v ∧ v.mga.notices = s.mga.notices ∧ v.mga.destination = s.mga.destination ∧ v.mga.exec = s.mga.exec ∧
      ((∃ d ∈ ds, d.agentKind = some (.report true)) → v.mga.resetWait = .over ∧ Instr.directedReset ∈ v.mail) := by
    by_cases h : ds.any Descriptor.answersReset = true
    · have hv : v = s.endResetWait := if_pos h
      rw [hv]
      exact ⟨fun part hp => by cases part <;> simp_all [Part.Same, endResetWait], rfl, rfl, rfl, fun _ => ⟨rfl, List.mem_append_right _ (.head _)⟩⟩
    · have hv : v = s := if_neg h
      rw [hv]
      refine ⟨.refl _ _, rfl, rfl, rfl, fun ⟨d, hd, hkind⟩ => absurd (List.any_eq_true.mpr ⟨d, hd, ?_⟩) h⟩
      simp [Descriptor.answersReset, hkind]
  obtain ⟨honly, hnotices, hdest, hexec, hreset⟩ := hv
  have hpost : OnlyIn [.mga, .mail] s (v.post .reportPlacement) := fun part hp => by
    have hsame := honly part hp
    cases part <;> simp_all [Part.Same]
  have hmatch : s.offeredAgain ds = v ∧ (∀ r, s.mga.exec = .reporting r → r.offeredAt = none) ∨ s.offeredAgain ds = v.post .reportPlacement := by
    unfold offeredAgain
    dsimp only
    split
    · next r hr =>
      split
      · exact .inr rfl
      · next hno =>
        refine .inl ⟨rfl, fun r' hr' => ?_⟩
        cases (hr'.symm.trans (hexec.symm.trans hr))
        simpa using hno
    · next hno => exact .inl ⟨rfl, fun r hr => absurd (hexec.trans hr) (hno r)⟩
  rcases hmatch with ⟨h, hnone⟩ | h <;> rw [h]
  · exact ⟨honly, hnotices, hdest, fun r hr hne => absurd (hnone r hr) hne, hreset⟩
  · refine ⟨hpost, hnotices, hdest, fun _ _ _ => List.mem_append_right _ (.head _), fun hd => ?_⟩
    obtain ⟨hover, hmem⟩ := hreset hd
    exact ⟨hover, List.mem_append_left _ hmem⟩

/-- What the attempt of a notice frame keeps when there is none to send. -/
theorem State.tryNoticeFrame_calm (h : s.mga.notices = [] ∨ s.mga.destination = none) : s.tryNoticeFrame = s := by
  unfold tryNoticeFrame
  rcases h with h | h
  · split
    · rfl
    · exact if_pos (by simp [h])
  · rw [h]

/-- The completion or discard of frames of the agent sets off what R180 and R191 say. -/
theorem State.afterAgentFrames_spec (ds : List Descriptor) (s : State) :
    OnlyIn [.txs, .cbm, .mga, .mail] s (s.afterAgentFrames ds) ∧
      (s.mga.notices = [] ∨ s.mga.destination = none → (s.afterAgentFrames ds).cbm = s.cbm ∧ (s.afterAgentFrames ds).txs = s.txs) ∧
      (∀ r, s.mga.exec = .reporting r → r.offeredAt ≠ none → Instr.reportPlacement ∈ (s.afterAgentFrames ds).mail) ∧
      ((∃ d ∈ ds, d.agentKind = some (.report true)) →
        (s.afterAgentFrames ds).mga.resetWait = .over ∧ Instr.directedReset ∈ (s.afterAgentFrames ds).mail) := by
  obtain ⟨honly, hnotices, hdest, hreport, hreset⟩ := s.offeredAgain_spec ds
  rw [afterAgentFrames_eq]
  refine ⟨fun part hp => ?_, fun hcalm => ?_, fun r hr hne => ?_, fun hd => ?_⟩
  · have hsame := honly part
    cases part <;> simp_all [Part.Same]
  · rw [tryNoticeFrame_calm (by rwa [hnotices, hdest])]
    exact ⟨honly .cbm (by simp), honly .txs (by simp)⟩
  · simpa using hreport r hr hne
  · simpa using hreset hd

/-! ## Completions -/

/-- The state in which the uplink's transmitter is free again and its frame counted. -/
def State.uplinkFreed (x : Transmission) (s : State) : State :=
  let s := s.freeCells x.desc.queue.area x.desc.cells.length
  { s with txs := Scheduler.countUplink x { s.txs with uplinkTx := none } }

/-- The uplink's completion leaves a choice, after what the freed cells of a frame of the agent set off. -/
theorem execUplinkCompletion_sent {x : Transmission} (h : s.txs.uplinkTx = some x) : exec .uplinkCompletion s = .next
    (State.uplinkChoice (if x.desc.queue = .aq then (s.uplinkFreed x).afterAgentFrames [x.desc] else s.uplinkFreed x)) := by
  simp only [exec, execUplinkCompletion, h]
  rfl

/-- The state from which the uplink's choice is made when its frame has completed. -/
theorem execUplinkCompletion_chosen {x : Transmission} (h : s.txs.uplinkTx = some x) : ∃ u : State, exec .uplinkCompletion s = .next u.uplinkChoice ∧
    u.txs = (s.uplinkFreed x).txs ∧ (∀ q, q ≠ .aq → u.queue q = s.queue q) ∧
    (u.cbm.aq = s.cbm.aq ∨ ∃ d, d.agentKind = some .notice ∧ u.cbm.aq = s.cbm.aq ++ [d]) ∧
    (s.mga.notices = [] ∨ s.mga.destination = none ∨ x.desc.queue ≠ .aq → u.cbm = (s.uplinkFreed x).cbm) ∧
    (x.desc.queue ≠ .aq → u.mga = s.mga ∧ u.mail = s.mail) ∧ OnlyIn [.txs, .cbm, .mga, .mail] s u := by
  have hfreed : (s.uplinkFreed x).cbm.queues = s.cbm.queues ∧ (s.uplinkFreed x).cbm.aq = s.cbm.aq ∧ (s.uplinkFreed x).cbm.cq = s.cbm.cq := by
    unfold State.uplinkFreed State.freeCells
    cases x.desc.queue.area <;> exact ⟨rfl, rfl, rfl⟩
  have hqueue (q : QueueId) : (s.uplinkFreed x).queue q = s.queue q := by
    unfold State.queue
    rw [hfreed.1, hfreed.2.1, hfreed.2.2]
  have honly : OnlyIn [.txs, .cbm, .mga, .mail] s (s.uplinkFreed x) := fun part hp => by cases part <;> simp_all [Part.Same, State.uplinkFreed]
  by_cases haq : x.desc.queue = .aq
  · obtain ⟨hagain, hnotices, hdest, -, -⟩ := (s.uplinkFreed x).offeredAgain_spec [x.desc]
    obtain ⟨u, hchoice, htxs, hqueues, hplaced, hcalm, hu⟩ := ((s.uplinkFreed x).offeredAgain [x.desc]).tryNoticeFrame_placed
    have hcbm : ((s.uplinkFreed x).offeredAgain [x.desc]).cbm = (s.uplinkFreed x).cbm := hagain .cbm (by simp)
    refine ⟨u, ?_, htxs.trans (hagain .txs (by simp)), fun q hq => (hqueues q hq).trans ((State.queue_of_cbm hcbm q).trans (hqueue q)), ?_, fun hc => ?_,
      fun hno => absurd haq hno, honly.trans ((hagain.mono (by decide)).trans (hu.mono (by decide)))⟩
    · rw [execUplinkCompletion_sent h, if_pos haq, State.afterAgentFrames_eq, hchoice]
    · rwa [hcbm, hfreed.2.1] at hplaced
    · have hc : s.mga.notices = [] ∨ s.mga.destination = none := hc.imp id fun h => h.resolve_right fun hno => hno haq
      rw [hcalm (by rw [hnotices, hdest]; exact hc), hcbm]
  · refine ⟨s.uplinkFreed x, ?_, rfl, fun q _ => hqueue q, .inl hfreed.2.1, fun _ => rfl, fun _ => ⟨rfl, rfl⟩, honly⟩
    rw [execUplinkCompletion_sent h, if_neg haq]

/-- What a completed or discarded frame of the agent has set off in `t`. -/
def SetsOff (d : Descriptor) (s t : State) : Prop :=
  (∀ r, s.mga.exec = .reporting r → r.offeredAt ≠ none → Instr.reportPlacement ∈ t.mail) ∧
    (d.agentKind = some (.report true) → t.mga.resetWait = .over ∧ Instr.directedReset ∈ t.mail)

theorem State.afterAgentFrames_setsOff (d : Descriptor) (s : State) : SetsOff d s (s.afterAgentFrames [d]) := by
  obtain ⟨-, -, hreport, hreset⟩ := s.afterAgentFrames_spec [d]
  exact ⟨hreport, fun hkind => hreset ⟨d, .head _, hkind⟩⟩

/-- The uplink's completion (R57, R90, R97). -/
theorem uplinkCompletion_spec {x : Transmission} (h : s.txs.uplinkTx = some x) :
    let calm : Prop := s.mga.notices = [] ∨ s.mga.destination = none
    ∃ t, exec .uplinkCompletion s = .next t ∧
      t.txs.uplinkFrames = s.txs.uplinkFrames + 1#32 ∧ t.txs.uplinkOctets = s.txs.uplinkOctets + BitVec.ofNat 32 x.octets ∧
      t.txs.uplinkAgentFrames = (if x.desc.queue = .aq then s.txs.uplinkAgentFrames + 1#32 else s.txs.uplinkAgentFrames) ∧
      (x.desc.queue.area = .upstream → t.cbm.upHeld = s.cbm.upHeld - x.desc.cells.length ∧ t.mga = s.mga ∧ t.mail = s.mail) ∧
      (x.desc.queue = .aq → SetsOff x.desc s t ∧ (calm → t.cbm.reservedHeld = s.cbm.reservedHeld - x.desc.cells.length)) ∧
      (s.txs.paused = true ∨ s.scu.linkUp = false → t.txs.uplinkTx = none) ∧ t.txs.lineTx = s.txs.lineTx ∧
      OnlyIn [.txs, .cbm, .mga, .mail] s t ∧
      ∃ u : State, u.UplinkChosen t ∧
        u.txs =
          { s.txs with
            uplinkTx := none, uplinkFrames := t.txs.uplinkFrames, uplinkOctets := t.txs.uplinkOctets
            uplinkAgentFrames := t.txs.uplinkAgentFrames } ∧
        (∀ q, q ≠ .aq → u.queue q = s.queue q) ∧
        (u.cbm.aq = s.cbm.aq ∨ ∃ d, d.agentKind = some .notice ∧ u.cbm.aq = s.cbm.aq ++ [d]) ∧
        (calm ∨ x.desc.queue ≠ .aq → u.cbm.aq = s.cbm.aq) ∧ OnlyIn [.txs, .cbm, .mga, .mail] s u := by
  intro calm
  obtain ⟨u, hexec, htxs, hqueues, hplaced, hcalm, hother, honly⟩ := execUplinkCompletion_chosen h
  have hkeeps := u.uplinkChoice_txs
  have hcells : SameCells u u.uplinkChoice := u.uplinkChoice_sameCells
  have hu : u.txs =
      { s.txs with
        uplinkTx := none, uplinkFrames := u.txs.uplinkFrames, uplinkOctets := u.txs.uplinkOctets, uplinkAgentFrames := u.txs.uplinkAgentFrames } := by
    rw [htxs]
    rfl
  have hframes : u.uplinkChoice.txs.uplinkFrames = u.txs.uplinkFrames ∧ u.uplinkChoice.txs.uplinkOctets = u.txs.uplinkOctets ∧
      u.uplinkChoice.txs.uplinkAgentFrames = u.txs.uplinkAgentFrames ∧ u.uplinkChoice.txs.lineTx = u.txs.lineTx := by
    rw [hkeeps]
    exact ⟨rfl, rfl, rfl, rfl⟩
  obtain ⟨hf, ho, ha, hl⟩ := hframes
  refine ⟨_, hexec, ?_, ?_, ?_, fun harea => ?_, fun haq => ⟨?_, fun hc => ?_⟩, fun hstop => ?_, ?_, honly.trans (u.uplinkChoice_chosen.1.mono (by decide)), u, u.uplinkChoice_chosen, ?_,
    hqueues, hplaced, fun hc => ?_, honly⟩
  · rw [hf, htxs]
    rfl
  · rw [ho, htxs]
    rfl
  · rw [ha, htxs]
    rfl
  · have hne : x.desc.queue ≠ .aq := by
      intro h
      rw [h] at harea
      exact absurd harea (by simp [QueueId.area])
    obtain ⟨hmga, hmail⟩ := hother hne
    refine ⟨?_, by simpa using hmga, by simpa using hmail⟩
    rw [hcells.held.1, hcalm (.inr (.inr hne))]
    simp [State.uplinkFreed, State.freeCells, harea, Buffer.setHeld]
  · have hsent := execUplinkCompletion_sent h
    rw [hexec, if_pos haq] at hsent
    have ht : u.uplinkChoice = ((s.uplinkFreed x).afterAgentFrames [x.desc]).uplinkChoice := Host.Outcome.next.inj hsent
    obtain ⟨hreport, hreset⟩ := (s.uplinkFreed x).afterAgentFrames_setsOff x.desc
    rw [ht]
    exact ⟨fun r hr hne => by simpa using hreport r hr hne, fun hkind => by simpa using hreset hkind⟩
  · rw [hcells, hcalm (by rcases hc with h | h <;> simp [h])]
    simp [State.uplinkFreed, State.freeCells, haq, QueueId.area, Buffer.setHeld]
  · have hlink : u.scu.linkUp = s.scu.linkUp := by rw [honly .scu (by simp)]
    have hstays : u.uplinkChoice = u := by
      refine if_neg ?_
      unfold State.uplinkMayStart
      rw [hlink, hu]
      rcases hstop with h | h <;> simp [h]
    rw [hstays, hu]
  · rw [hl, hu]
  · rw [hf, ho, ha]
    exact hu
  · rw [hcalm (by rcases hc with (h | h) | h <;> simp [h])]
    unfold State.uplinkFreed State.freeCells
    cases x.desc.queue.area <;> rfl

/-! ## The craft port (R96) -/

/-- The craft transmitter's choice, whether a frame waits and whether the port is alive. -/
theorem State.craftChoice_spec (s : State) :
    OnlyIn [.txs, .cbm] s s.craftChoice ∧ s.craftChoice.cbm.reservedHeld = s.cbm.reservedHeld ∧
      s.craftChoice.txs.craftFrames = s.txs.craftFrames ∧
      (s.txs.craftTx ≠ none ∨ s.cbm.cq = [] → s.craftChoice = s) ∧
      ∀ d rest, s.txs.craftTx = none → s.cbm.cq = d :: rest → s.craftAlive = true →
        s.craftChoice.txs.craftTx = some d.sent ∧ s.craftChoice.cbm.cq = rest := by
  refine ⟨fun part hp => by cases part <;> simp_all [Part.Same], ?_, ?_, fun h => ?_, fun d rest hfree hcq halive => ?_⟩
  · unfold craftChoice
    split
    · split
      · rfl
      · simp
    · rfl
  · unfold craftChoice
    split
    · split
      · rfl
      · simp
    · rfl
  · unfold craftChoice
    split
    · next hmay =>
      rcases h with h | h
      · simp [h] at hmay
      · rw [h]
    · rfl
  · unfold craftChoice
    simp [hfree, halive, hcq, setQueue]

/-- The discard of what waits in CQ (R96). -/
theorem State.discardCraft_spec (s : State) :
    let t := s.discardCraft
    t.cbm.cq = [] ∧ t.cbm.queues = s.cbm.queues ∧ t.txs.craftLinkUp = s.txs.craftLinkUp ∧
      t.txs.craftDiscards = (if s.cbm.cq = [] then s.txs.craftDiscards else min 65535 (s.txs.craftDiscards + s.cbm.cq.length)) ∧
      (s.mga.notices = [] ∨ s.mga.destination = none → t.cbm.reservedHeld = s.cbm.reservedHeld - cellsOf s.cbm.cq) ∧
      (∀ r, s.cbm.cq ≠ [] → s.mga.exec = .reporting r → r.offeredAt ≠ none → Instr.reportPlacement ∈ t.mail) ∧
      ((∃ d ∈ s.cbm.cq, d.agentKind = some (.report true)) → t.mga.resetWait = .over ∧ Instr.directedReset ∈ t.mail) ∧
      (s.cbm.cq = [] → t.mga = s.mga ∧ t.mail = s.mail) ∧ OnlyIn [.txs, .cbm, .mga, .mail] s t := by
  intro t
  by_cases hempty : s.cbm.cq = []
  · have ht : t = s := if_pos (by simp [hempty])
    rw [ht, hempty]
    exact ⟨rfl, rfl, rfl, rfl, fun _ => rfl, fun _ h => absurd rfl h, fun ⟨d, hd, _⟩ => absurd hd (by simp), fun _ => ⟨rfl, rfl⟩, .refl _ _⟩
  · let v : State := (s.freeCells .reserved (cellsOf s.cbm.cq)).setQueue .cq []
    let u : State := { v with txs := { v.txs with craftDiscards := bump v.txs.craftDiscards s.cbm.cq.length } }
    have ht : t = u.afterAgentFrames s.cbm.cq := if_neg (by simp [hempty])
    obtain ⟨honly, hcalm, hreport, hreset⟩ := u.afterAgentFrames_spec s.cbm.cq
    rw [ht]
    refine ⟨by simp [u, v, setQueue], by simp [u, v, setQueue, freeCells, Buffer.setHeld], by simp [u, v], ?_, fun hc => ?_, fun r _ hr hne => hreport r hr hne,
      hreset, fun h => absurd h hempty, fun part hp => by cases part <;> simp_all [Part.Same, u, v]⟩
    · simp [hempty, u, v, bump, eventMax]
    · rw [(hcalm hc).1]
      rfl

/-- Settles O38. -/
theorem completionsAndTheCraftLink : Obligations.CompletionsAndTheCraftLink := by
  refine ⟨?_, ?_⟩
  · intro p x s calm setsOff
    refine ⟨fun hnone => by simp [exec, execUplinkCompletion, hnone], fun hnone => by simp [exec, execLineCompletion, hnone],
      fun hnone => by simp [exec, execCraftCompletion, hnone], uplinkCompletion_spec, fun hx harea => ?_, fun hx => ?_⟩
    · let f (r : PortRecord) : PortRecord := { r with
        counters := { r.counters with txFrames := count32 r.counters.txFrames, txOctets := count32 r.counters.txOctets x.octets } }
      let u : State := { s with
        ports := s.ports.modify p f, cbm := { s.cbm with downHeld := s.cbm.downHeld - x.desc.cells.length }
        txs := { s.txs with lineTx := s.txs.lineTx.set p none } }
      have hexec : exec (.lineCompletion p) s = .next (u.lineChoice p) := by
        simp only [exec, execLineCompletion, hx, harea]
        rfl
      have hports : (u.lineChoice p).ports = s.ports.modify p f := by simp [u]
      have hport (q : Port) : (u.lineChoice p).port q = (s.ports.modify p f).get q := congrArg (·.get q) hports
      have hchosen : u.LineChosen p (u.lineChoice p) := State.lineChoice_chosen p u
      have honly : OnlyIn [.txs, .cbm, .ports] s u := fun part hp => by cases part <;> simp_all [Part.Same, u]
      refine ⟨_, hexec, (u.lineChoice_sameCells p).held.2, (hport p).trans (Row.get_modify_self _ _ _), by rw [hports]; exact hchosen, fun hdx hdb => ?_,
        fun q hq => (u.lineChoice_others p q hq).trans (Row.get_set_ne _ _ hq), fun q hq => (hport q).trans (Row.get_modify_ne _ _ hq),
        honly.trans (hchosen.1.mono (by decide))⟩
      rw [State.lineChoice_empty (s := u) hdx hdb]
      exact Row.get_set_self _ _ _
    · let v : State := s.freeCells .reserved x.desc.cells.length
      let u : State := { v with txs := { v.txs with craftTx := none, craftFrames := count32 v.txs.craftFrames } }
      have hexec : exec .craftCompletion s = .next (u.afterAgentFrames [x.desc]).craftChoice := by
        simp only [exec, execCraftCompletion, hx]
        rfl
      obtain ⟨honly, hcalm, -, -⟩ := u.afterAgentFrames_spec [x.desc]
      obtain ⟨hreport, hreset⟩ := u.afterAgentFrames_setsOff x.desc
      obtain ⟨hchoice, hheld, hframes, hnone, hstarts⟩ := (u.afterAgentFrames [x.desc]).craftChoice_spec
      have hu : OnlyIn [.txs, .cbm, .mga, .mail] s u := fun part hp => by cases part <;> simp_all [Part.Same, u, v]
      have hcq : (u.afterAgentFrames [x.desc]).cbm.cq = s.cbm.cq ∧ (u.afterAgentFrames [x.desc]).txs.craftTx = none ∧
          (u.afterAgentFrames [x.desc]).craftAlive = s.craftAlive ∧ (u.afterAgentFrames [x.desc]).txs.craftFrames = s.txs.craftFrames + 1#32 := by
        simp [u, v, State.freeCells, Buffer.setHeld, State.craftAlive, count32]
      obtain ⟨hcq, hfree, halive, hcount⟩ := hcq
      refine ⟨_, hexec, hframes.trans hcount, ⟨fun r hr hne => by simpa using hreport r hr hne, fun hkind => by simpa using hreset hkind⟩,
        fun hc => ?_, fun hempty => ?_, fun d rest hd ha => hstarts d rest hfree (hcq.trans hd) (halive.trans ha),
        hu.trans (honly.trans (hchoice.mono (by decide)))⟩
      · rw [hheld, (hcalm hc).1]
        rfl
      · rw [hnone (.inr (hcq.trans hempty)), hfree]
  · intro s discarded
    have hset (b : Bool) : OnlyIn [.txs, .cbm, .mga, .mail] s { s with txs := { s.txs with craftLinkUp := b } } :=
      fun part hp => by cases part <;> simp_all [Part.Same]
    have hdiscards (b : Bool) (dead : State.craftAlive { s with txs := { s.txs with craftLinkUp := b } } = false) :
        ∃ t, exec (.craftLinkChange b) s = .next t ∧ t.txs.craftLinkUp = b ∧ discarded t := by
      obtain ⟨hcq, hqueues, hlink, hcount, hcalm, hreport, hreset, hnone, honly⟩ :=
        State.discardCraft_spec { s with txs := { s.txs with craftLinkUp := b } }
      exact ⟨_, if_neg (by simp [dead]), hlink, hcq, hqueues, hcount, hcalm, hreport, hreset, hnone, (hset b).trans honly⟩
    refine ⟨hdiscards false (by simp [State.craftAlive]), fun hoff => hdiscards true (by simp [State.craftAlive, hoff]), fun hon => ?_⟩
    let u : State := { s with txs := { s.txs with craftLinkUp := true } }
    obtain ⟨hchoice, -, -, hnone, hstarts⟩ := u.craftChoice_spec
    have halive : u.craftAlive = true := by simp [u, State.craftAlive, hon]
    have hlink : u.craftChoice.txs.craftLinkUp = true := by
      unfold State.craftChoice
      split
      · split
        · rfl
        · simp [u]
      · rfl
    have hu : OnlyIn [.txs, .cbm] s u := fun part hp => by cases part <;> simp_all [Part.Same, u]
    exact ⟨_, if_pos halive, hlink, fun d rest hfree hd => hstarts d rest hfree hd halive, fun h => by rw [hnone h]; exact ⟨rfl, rfl⟩, hu.trans hchoice⟩

end Sys2Proof.Machine
end

section
/-! The obligations on the flow table's directives: O39, O40, O41 (02). -/

namespace Sys2Proof.Machine

variable {s t u : State} {p : Port} {o : Origin} {code : Octet} {params : List Octet} {demands : Demands} {body : State → Answer} {good : Bool}

/-! ## Directives that may change and are well formed (R178, R181) -/

/-- A directive that its owner refuses, with the lock clear and the length good. -/
theorem direct_refuses {why : DirectiveOutcome} (may : s.mayChange o) (length : good = true) (comes : s.comesUp o code params)
    (refuses : ∀ ml : List Instr, body { s with mail := ml } = refuse why { s with mail := ml }) :
    Answered code why [] s (s.direct o code params good demands body) ∧
      (s.direct o code params good demands body).besideDirective = s.besideDirective :=
  State.direct_refused comes (fun ml => length ▸ State.passes_of_mayChange may demands body ml) refuses

/-- A directive that is carried out, with the lock clear and the length good. -/
theorem direct_does {f : State → State} (may : s.mayChange o) (length : good = true) (comes : s.comesUp o code params)
    (does : ∀ ml : List Instr, body { s with mail := ml } = done (f { s with mail := ml })) :
    Answered code .done [] s (s.direct o code params good demands body) ∧
      ∃ ml : List Instr, (s.direct o code params good demands body).besideDirective = (f { s with mail := ml }).besideDirective ∧
        ∃ more, (s.direct o code params good demands body).mail = (f { s with mail := ml }).mail ++ more :=
  State.direct_done comes (fun ml => length ▸ State.passes_of_mayChange may demands body ml) does

/-- A directive that leaves another classifier, and nothing else. -/
theorem direct_setsFcl {c : Classifier} (may : s.mayChange o) (length : good = true) (comes : s.comesUp o code params)
    (does : ∀ ml : List Instr, body { s with mail := ml } = done { s with mail := ml, fcl := c }) :
    Answered code .done [] s (s.direct o code params good demands body) ∧ (s.direct o code params good demands body).fcl = c ∧
      (s.direct o code params good demands body).mga.notices = s.mga.notices ∧
      OnlyIn [.fcl, .mga, .mail] s (s.direct o code params good demands body) := by
  obtain ⟨hanswered, ml, hbeside, -⟩ := direct_does (demands := demands) (f := fun u => { u with fcl := c }) may length comes does
  exact ⟨hanswered, congrArg State.fcl hbeside, congrArg (fun u => u.mga.notices) hbeside,
    onlyIn_of_beside hbeside fun part hp => by cases part <;> simp_all [Part.Same]⟩

/-! ## Banks (R37 to R40) -/

theorem Bank.entry_cons (x : Nat × FlowEntry) (b : Bank) (i : Nat) : Bank.entry (x :: b) i = if x.1 = i then some x.2 else Bank.entry b i := by
  unfold Bank.entry
  by_cases h : x.1 = i <;> simp [h]

theorem Bank.entry_insert_self {b : Bank} {i : Nat} {e : FlowEntry} (free : ∀ x ∈ b, x.1 ≠ i) : (Bank.insert i e b).entry i = some e := by
  induction b with
  | nil => simp [Bank.insert, Bank.entry]
  | cons x xs ih =>
    unfold Bank.insert
    split
    · simp [entry_cons]
    · rw [entry_cons, if_neg (free x (.head _)), ih fun y hy => free y (.tail _ hy)]

theorem Bank.entry_insert_ne {b : Bank} {i k : Nat} {e : FlowEntry} (h : k ≠ i) : (Bank.insert i e b).entry k = b.entry k := by
  induction b with
  | nil => simp [Bank.insert, Bank.entry, h.symm]
  | cons x xs ih =>
    unfold Bank.insert
    split
    · rw [entry_cons, if_neg h.symm]
    · rw [entry_cons, entry_cons, ih]

theorem Bank.entry_clear_ne {b : Bank} {i k : Nat} (h : k ≠ i) : (b.clear i).entry k = b.entry k := by
  induction b with
  | nil => rfl
  | cons x xs ih =>
    have hclear : Bank.clear i (x :: xs) = if x.1 = i then Bank.clear i xs else x :: Bank.clear i xs := by
      by_cases hx : x.1 = i <;> simp [Bank.clear, hx]
    rw [hclear, entry_cons]
    split
    · next hx => rw [ih, if_neg (by rw [hx]; exact h.symm)]
    · rw [entry_cons, ih]

theorem Bank.entry_put (b : Bank) (i : Nat) (e : FlowEntry) : (b.put i e).entry i = some e ∧ ∀ k, k ≠ i → (b.put i e).entry k = b.entry k := by
  refine ⟨entry_insert_self fun x hx => ?_, fun k hk => (entry_insert_ne hk).trans (entry_clear_ne hk)⟩
  simpa using (List.mem_filter.mp hx).2

/-- A copied bank holds the entries with their counters at 0, and its check value is the same (R38, R39). -/
theorem Bank.copied_spec (b : Bank) (n : Nat) :
    (Bank.copied n b).map (fun x => (x.1, { x.2 with stamp := 0 })) = b.map (fun x => (x.1, { x.2 with stamp := 0, hits := 0#32 })) ∧
      (Bank.copied n b).check = b.check := by
  have hdigest : (Bank.copied n b).map (fun e => e.2.digest e.1) = b.map fun e => e.2.digest e.1 := by
    induction b generalizing n with
    | nil => rfl
    | cons x xs ih => exact congrArg₂ List.cons rfl (ih (n + 1))
  refine ⟨?_, by unfold Bank.check; rw [hdigest]⟩
  clear hdigest
  induction b generalizing n with
  | nil => rfl
  | cons x xs ih => exact congrArg₂ List.cons rfl (ih (n + 1))

/-- Settles O39. -/
theorem candidateEdits : Obligations.CandidateEdits := by
  intro o params s may hlength edited
  have hgood : octets 11 params = true := by simp [octets, hlength]
  refine ⟨fun htrial => ?_, fun hnone => ?_, fun comes hbad => ?_⟩
  · have hsome : s.fcl.trial.isSome = true := Option.isSome_iff_ne_none.mpr htrial
    refine ⟨fun comes => ⟨_, rfl, direct_refuses may rfl comes fun ml => if_pos hsome⟩,
      fun comes => ⟨_, rfl, direct_refuses may rfl comes fun ml => if_pos hsome⟩,
      fun comes hform => ⟨_, rfl, direct_refuses may hgood comes fun ml => ?_⟩⟩
    unfold State.ftWrite
    cases hf : ftForm params <;> simp_all
  · have hidle : ¬s.fcl.trial.isSome = true := by simp [hnone]
    have hedits {good : Bool} {demands : Demands} {code : Octet} {params : List Octet} {body : State → Answer} (b : Bank) (n : Nat) (hg : good = true)
        (comes : s.comesUp o code params)
        (does : ∀ ml : List Instr, body { s with mail := ml } = done { s with mail := ml, fcl := { s.fcl with candidate := b, mark := .open, nextStamp := n } }) :
        Answered code .done [] s (s.direct o code params good demands body) ∧ edited (s.direct o code params good demands body) ∧
          (s.direct o code params good demands body).fcl.candidate = b := by
      obtain ⟨hanswered, hfcl, -, honly⟩ := direct_setsFcl (demands := demands) may hg comes does
      exact ⟨hanswered, ⟨by rw [hfcl], by rw [hfcl], by rw [hfcl]; exact hnone, honly⟩, by rw [hfcl]⟩
    refine ⟨fun comes => ?_, fun comes => ?_, fun index comes hform => ?_, fun index e comes hform hkey => ?_, fun index e comes hform hkey => ?_⟩
    · obtain ⟨hanswered, hedited, hcandidate⟩ := hedits (good := noParams []) [] s.fcl.nextStamp (demands := .changing) (body := State.ftClear) rfl comes fun ml => if_neg hidle
      exact ⟨_, rfl, hanswered, hedited, hcandidate, by rw [hcandidate]; rfl⟩
    · obtain ⟨hanswered, hedited, hcandidate⟩ := hedits (good := noParams []) (Bank.copied s.fcl.nextStamp s.fcl.active) (s.fcl.nextStamp + s.fcl.active.length)
        (demands := .changing) (body := State.ftCopy) rfl comes fun ml => if_neg hidle
      obtain ⟨hentries, hcheck⟩ := s.fcl.active.copied_spec s.fcl.nextStamp
      exact ⟨_, rfl, hanswered, hedited, by rw [hcandidate]; exact hentries, by rw [hcandidate]; exact hcheck⟩
    · obtain ⟨hanswered, hedited, hcandidate⟩ := hedits (s.fcl.candidate.clear index) s.fcl.nextStamp (demands := .changing)
        (body := State.ftWrite params) hgood comes fun ml => by simp [State.ftWrite, hform, hnone, State.editCandidate]
      exact ⟨_, rfl, hanswered, hedited, hcandidate⟩
    · exact ⟨_, rfl, direct_refuses may hgood comes fun ml => by simp [State.ftWrite, hform, hnone, hkey]⟩
    · obtain ⟨hanswered, hedited, hcandidate⟩ := hedits (s.fcl.candidate.put index { e with stamp := s.fcl.nextStamp }) (s.fcl.nextStamp + 1)
        (demands := .changing) (body := State.ftWrite params) hgood comes fun ml => by simp [State.ftWrite, hform, hnone, hkey, State.editCandidate]
      obtain ⟨hself, hother⟩ := s.fcl.candidate.entry_put index { e with stamp := s.fcl.nextStamp }
      exact ⟨_, rfl, hanswered, hedited, ⟨s.fcl.nextStamp, by rw [hcandidate]; exact hself⟩, by rw [hcandidate]; exact hother⟩
  · exact ⟨_, rfl, direct_refuses may hgood comes fun ml => by simp [State.ftWrite, hbad]⟩

/-! ## Trials (R42 to R45) -/

/-- Settles O41. -/
theorem theEndsOfATrial : Obligations.TheEndsOfATrial := by
  have hconfirms {o : Origin} {s : State} (may : s.mayChange o) (comes : s.comesUp o 0x25#8 []) (tr : Trial) (htrial : s.fcl.trial = some tr)
      (hsoaked : tr.activatedAt + tr.soak * 1000000 ≤ s.now) : ∃ t, exec (.ftConfirm o []) s = .next t ∧ Answered 0x25#8 .done [] s t ∧
        t.fcl = { s.fcl with candidate := [], mark := .open, trial := none } ∧ OnlyIn [.fcl, .mga, .mail] s t := by
    obtain ⟨hanswered, hfcl, -, honly⟩ := direct_setsFcl (good := noParams []) (demands := .changing) (body := State.ftConfirm)
      (c := { s.fcl with candidate := [], mark := .open, trial := none }) may rfl comes fun ml => by
        simp only [State.ftConfirm, htrial]
        exact if_neg (Nat.not_lt.mpr hsoaked)
    exact ⟨_, rfl, hanswered, hfcl, honly⟩
  refine ⟨fun o s may comes => ⟨fun hnone => ⟨_, rfl, direct_refuses may rfl comes fun ml => ?_⟩, fun tr htrial hearly =>
    ⟨_, rfl, direct_refuses may rfl comes fun ml => ?_⟩, hconfirms may comes, fun tr htrial hzero hpast => ?_⟩,
    fun o s may comes => ⟨fun hnone => ⟨_, rfl, direct_refuses may rfl comes fun ml => ?_⟩, fun htrial => ?_⟩, fun s hnone => ?_, fun s tr htrial => ?_⟩
  · simp [State.ftConfirm, hnone]
  · simp only [State.ftConfirm, htrial]
    exact if_pos hearly
  · obtain ⟨t, hexec, hanswered, -⟩ := hconfirms may comes tr htrial (by rw [hzero]; omega)
    exact ⟨t, hexec, hanswered⟩
  · simp [State.ftRevert, hnone]
  · obtain ⟨hanswered, hfcl, hnotices, honly⟩ := direct_setsFcl (good := noParams []) (demands := .changing) (body := State.ftRevert)
      (c := { s.fcl.swap with mark := .rejected, trial := none }) may rfl comes fun ml =>
        if_pos (Option.isSome_iff_ne_none.mpr htrial)
    exact ⟨_, rfl, hanswered, hfcl, hnotices, honly⟩
  · simp [exec, execTrialTimerExpiry, hnone]
  · let u := (s.reach tr.ends).revertTrial
    have hexec : exec .trialTimerExpiry s = .next (u.raiseNotice (.trialReverted s.fcl.active.check)) := by
      simp only [exec, execTrialTimerExpiry, htrial]
      rfl
    have hreported : Reported u (u.raiseNotice (.trialReverted s.fcl.active.check)) := u.reported_raiseNotice _
    refine ⟨_, hexec, by simp [u, State.revertTrial, State.reach], by simp [u, State.revertTrial, Classifier.swap, State.reach],
      fun henabled hdest hroom => ?_, hreported,
      fun part hp => by cases part <;> simp_all [Part.Same, u, State.revertTrial, State.reach]⟩
    rw [State.raiseNotice_mga u _ hdest, if_pos (show u.noticeEnabled (Notice.trialReverted s.fcl.active.check).kind = true from henabled),
      Agent.queueNotice_notices _ u.mga hroom]
    simp [State.uptime, u, State.revertTrial]

/-- The tables stand as they stood: the trial, the candidate's mark and both check values. -/
def TablesKept (c k : Classifier) : Prop :=
  k.trial = c.trial ∧ k.mark = c.mark ∧ k.active.check = c.active.check ∧ k.candidate.check = c.candidate.check

theorem TablesKept.refl (c : Classifier) : TablesKept c c := ⟨rfl, rfl, rfl, rfl⟩

theorem TablesKept.trans {c k l : Classifier} (h : TablesKept c k) (g : TablesKept k l) : TablesKept c l := by
  obtain ⟨h₁, h₂, h₃, h₄⟩ := h
  obtain ⟨g₁, g₂, g₃, g₄⟩ := g
  exact ⟨g₁.trans h₁, g₂.trans h₂, g₃.trans h₃, g₄.trans h₄⟩

/-- A hit counted leaves a bank's check value (R38). -/
theorem countHit_check (n : Nat) (b : Bank) : (countHit n b).check = b.check := by
  have hdigest : (countHit n b).map (fun e => e.2.digest e.1) = b.map fun e => e.2.digest e.1 := by
    unfold countHit
    rw [List.map_map]
    refine List.map_congr_left fun e _ => ?_
    simp only [Function.comp_apply]
    split <;> rfl
  unfold Bank.check
  rw [hdigest]

theorem State.countHits_tables (r : Reception) (s : State) : TablesKept s.fcl (s.countHits r).fcl := by
  unfold countHits
  split
  · exact .refl _
  · exact ⟨rfl, rfl, countHit_check _ _, countHit_check _ _⟩

theorem State.countDrop_tables (src : Source) (why : DropReason) (r : Reception) (s : State) : TablesKept s.fcl (s.countDrop src why r).fcl := by
  unfold countDrop
  split
  · unfold countPoolFull
    cases src with
    | line p => exact .refl _
    | craft => exact .refl _
    | uplink =>
      dsimp only
      split <;> exact .refl _
  · cases src <;> exact .refl _

/-- The end of a frame's reception leaves the tables. -/
theorem State.endFrame_tables (src : Source) (length : Nat) (good : Bool) (payload : List Octet) (s : State) :
    TablesKept s.fcl (s.endFrame src length good payload).fcl := by
  cases hr : s.reception src with
  | none =>
    rw [show s.endFrame src length good payload = s by unfold endFrame; rw [hr]]
    exact .refl _
  | some r =>
    have hset : TablesKept s.fcl (s.setReception src none).fcl := by cases src <;> exact .refl _
    have hreturn : ((s.setReception src none).returnCells src r.cells.length).fcl = (s.setReception src none).fcl := by simp
    have hbad : TablesKept s.fcl (((s.setReception src none).returnCells src r.cells.length).countLength src).fcl ∧
        TablesKept s.fcl (((s.setReception src none).returnCells src r.cells.length).countFcs src).fcl := by
      rw [← hreturn] at hset
      cases src <;> exact ⟨hset, hset⟩
    rw [endFrame_eq hr]
    split
    · exact hbad.1
    · split
      · have hgood : ((s.setReception src none).receivedGood src length).fcl = (s.setReception src none).fcl := by simp
        have hhits := hset.trans (hgood ▸ ((s.setReception src none).receivedGood src length).countHits_tables r)
        unfold endGood
        dsimp only
        split
        · exact hhits.trans (countDrop_tables _ _ _ _)
        · simpa using hhits
      · exact hbad.2

theorem State.judgeCraftPower_tables (s : State) : TablesKept s.fcl s.judgeCraftPower.fcl := by
  have hcut (u : State) : TablesKept u.fcl u.cutCraftFrame.fcl := by
    unfold cutCraftFrame
    split
    · exact State.endFrame_tables .craft _ _ _ { u with fcl := { u.fcl with staleHeader := u.fcl.headerOwed, cuts := u.fcl.cuts + 1 } }
    · exact .refl _
  unfold judgeCraftPower
  dsimp only
  split
  · exact .refl _
  · split
    · simpa using TablesKept.refl s.fcl
    · refine TablesKept.trans ?_ (hcut _)
      simpa using TablesKept.refl s.fcl

/-- A SET_WRITE leaves the tables. -/
theorem State.settingsWritten_tables (numbers : List Nat) (g : Settings) (s : State) : TablesKept s.fcl (s.settingsWritten numbers g).fcl := by
  have hexpire (u : State) : u.expireOverdue.fcl = u.fcl := by
    have hfold (rs : List Request) (v : State) : (rs.foldl (fun s r => s.endQueued r .expired none) v).fcl = v.fcl := by
      induction rs generalizing v with
      | nil => rfl
      | cons r rest ih => exact (ih _).trans (by simp)
    exact hfold _ u
  have htrigger (b : Prop) [Decidable b] (u : State) : (if b then u.trigger else u).fcl = u.fcl := by split <;> simp
  have hoverdue (b : Prop) [Decidable b] (u : State) : (if b then u.expireOverdue else u).fcl = u.fcl := by split <;> simp [hexpire]
  have hcounts (b : Prop) [Decidable b] (u : State) : (if b then u.cutCounts else u).fcl = u.fcl := by split <;> rfl
  have hjudge (b : Prop) [Decidable b] (u : State) : TablesKept u.fcl (if b then u.judgeCraftPower else u).fcl := by
    split
    · exact u.judgeCraftPower_tables
    · exact .refl _
  have hpost (b : Prop) [Decidable b] (u : State) : (if b then u.post .evaluation else u).fcl = u.fcl := by split <;> rfl
  unfold settingsWritten
  dsimp only
  rw [hpost]
  refine TablesKept.trans ?_ (hjudge _ _)
  rw [hcounts, hoverdue, htrigger]
  exact .refl _

theorem besideDirective_fcl (h : t.besideDirective = u.besideDirective) : t.fcl = u.fcl :=
  show t.besideDirective.fcl = u.besideDirective.fcl by rw [h]

/-- What a directive leaves of the classifier is what its answer leaves of it, unless it changes nothing. -/
theorem State.direct_fcl (o : Origin) (code : Octet) (params : List Octet) (good : Bool) (demands : Demands) (body : State → Answer) (s : State)
    (P : Classifier → Prop) (hs : P s.fcl) (hbody : ∀ ml : List Instr, P (body { s with mail := ml }).state.fcl ∧ P (body { s with mail := ml }).ifCut.fcl) :
    P (s.direct o code params good demands body).fcl := by
  by_cases comes : s.comesUp o code params
  · obtain ⟨s₀, v, hs₀, hv, -, hbeside, -⟩ := s.direct_spec o code params good demands body comes
    have hml : ∃ ml, s₀ = { s with mail := ml } := by
      rcases hs₀ with rfl | rfl
      · exact ⟨s₀.mail, rfl⟩
      · exact ⟨_, rfl⟩
    obtain ⟨ml, rfl⟩ := hml
    have hanswer : P (({ s with mail := ml } : State).answer o good demands body).state.fcl ∧
        P (({ s with mail := ml } : State).answer o good demands body).ifCut.fcl := by
      unfold answer
      cases State.gate o good demands { s with mail := ml } with
      | some why => exact ⟨hs, hs⟩
      | none => exact hbody ml
    rw [besideDirective_fcl hbeside, hv]
    split
    · exact hanswer.1
    · exact hanswer.2
  · rw [show s.direct o code params good demands body = s by unfold direct; dsimp only; rw [not_not.mp comes]]
    exact hs

theorem num2_read {n : Nat} (h : n < 65536) : ∃ a b : Octet, num2 n = [a, b] ∧ read2 a b = n := by
  refine ⟨octet (n / 256), octet n, rfl, ?_⟩
  simp only [read2, octet, BitVec.toNat_ofNat]
  omega

/-- Settles O40. -/
theorem activationStartsATrial : Obligations.ActivationStartsATrial := by
  intro o params check window s may comes hparams carried bad refused
  obtain ⟨hform, hgood, hcarried⟩ : activateForm params = some (check, if carried then some window else none) ∧
      (octets 2 params || octets 4 params) = true ∧ (¬carried → window = s.settings.trialWindow) := by
    rcases hparams with ⟨rfl, hcheck, hwindow⟩ | ⟨rfl, hcheck, hlimit⟩
    · obtain ⟨a, b, hab, hread⟩ := num2_read hcheck
      simp [carried, hab, activateForm, hread, octets, hwindow]
    · obtain ⟨a, b, hab, hread⟩ := num2_read hcheck
      obtain ⟨c, d, hcd, hread'⟩ := num2_read hlimit
      simp [carried, hab, hcd, activateForm, hread, hread', octets]
  have hbody (ml : List Instr) : State.ftActivate params { s with mail := ml } =
      if bad then refuse .badParam { s with mail := ml }
      else if s.fcl.trial.isSome then refuse .busy { s with mail := ml }
      else if s.fcl.candidate.check ≠ check then refuse .badCheck { s with mail := ml }
      else if !s.fcl.candidate.hasAgent then refuse .noAgentPath { s with mail := ml }
      else done (State.startTrial window { s with mail := ml }) := by
    have hwindow : (if carried then some window else none).getD s.settings.trialWindow = window := by
      by_cases hc : carried <;> simp [hc]
      exact (hcarried hc).symm
    unfold State.ftActivate
    rw [hform]
    dsimp only
    rw [hwindow]
    have hsome : (if carried then some window else none).isSome = true ↔ carried := by by_cases hc : carried <;> simp [hc]
    simp only [hsome]
    rfl
  have hrefused {why : DirectiveOutcome} (h : ∀ ml : List Instr, State.ftActivate params { s with mail := ml } = refuse why { s with mail := ml }) :
      refused why := ⟨_, rfl, direct_refuses may hgood comes h⟩
  refine ⟨fun hbad => hrefused fun ml => ?_, fun hok htrial => hrefused fun ml => ?_, fun hok hnone hcheck => hrefused fun ml => ?_,
    fun hok hnone hcheck hpath => hrefused fun ml => ?_, fun hok hnone hcheck hpath => ?_, fun other items t hexec => ?_⟩
  · rw [hbody, if_pos hbad]
  · rw [hbody, if_neg hok, if_pos (Option.isSome_iff_ne_none.mpr htrial)]
  · rw [hbody, if_neg hok, if_neg (by simp [hnone]), if_pos hcheck]
  · rw [hbody, if_neg hok, if_neg (by simp [hnone]), if_neg (not_not.mpr hcheck), if_pos (by simp [hpath])]
  · obtain ⟨hanswered, hfcl, -, honly⟩ := direct_setsFcl (demands := .changing) (body := State.ftActivate params)
      (c := { s.fcl with
        active := s.fcl.candidate, candidate := s.fcl.active, mark := .fallback
        trial := some ⟨s.now + window * 1000000, s.settings.soakTime, s.now⟩ }) may hgood comes fun ml => by
        rw [hbody, if_neg hok, if_neg (by simp [hnone]), if_neg (not_not.mpr hcheck), if_neg (by simp [hpath])]
        rfl
    exact ⟨_, rfl, hanswered, hfcl, honly⟩
  · have hnext := Host.Outcome.next.inj hexec
    rw [← hnext]
    refine State.direct_fcl _ _ _ _ _ _ s (TablesKept s.fcl) (.refl _) fun ml => ?_
    unfold State.setWrite
    split
    · exact ⟨.refl _, .refl _⟩
    · split
      · exact ⟨State.settingsWritten_tables _ _ { s with mail := ml }, State.settingsWritten_tables _ _ { s with mail := ml }⟩
      · exact ⟨.refl _, .refl _⟩

end Sys2Proof.Machine
end

section
/-! SUPPORT for the obligations on pair tests: what the Pair Test Controller's operations leave, and O47 and O48 (06). -/

namespace Sys2Proof.Machine

variable {s t u : State} {r : Request} {k : Course} {o : TestOutcome} {c : Option TestCause} {p : Port}

/-! ## Frames of the operations -/

theorem State.post_only (m : Instr) (s : State) : OnlyIn [.mail] s (s.post m) := fun part hp => by cases part <;> simp_all [Part.Same]

theorem State.setPtc_only (x : PairTest) (s : State) : OnlyIn [.ptc] s { s with ptc := x } := fun part hp => by cases part <;> simp_all [Part.Same]

theorem State.workDemand_only (s : State) : OnlyIn [.ptc, .mail] s s.workDemand := fun part hp => by cases part <;> simp_all [Part.Same]

/-- The demand worked out again sends at most one message more (R103). -/
theorem State.workDemand_mail (s : State) : ∃ more, s.workDemand.mail = s.mail ++ more := by
  unfold workDemand
  dsimp only
  split
  · exact ⟨[], (List.append_nil _).symm⟩
  · exact ⟨[.evaluation], rfl⟩

/-- The result of a request, as it enters the log (R119). -/
def State.resultOf (r : Request) (o : TestOutcome) (c : Option TestCause) (items : List Item) (s : State) : ResultRecord :=
  { request := r, outcome := o, cause := c, items := items, ended := s.sinceReset }

/-- A request that ends: its result is logged, it leaves the list, and TEST_DONE is raised (R110). -/
theorem State.concludeRequest_spec (r : Request) (o : TestOutcome) (c : Option TestCause) (items : List Item) (s : State) :
    (s.concludeRequest r o c items).ptc =
        { s.ptc with
          requests := s.ptc.requests.filter (fun q => q.id != r.id), log := pushResult (s.resultOf r o c items) s.ptc.log } ∧
      Reported s (s.concludeRequest r o c items) ∧ (s.concludeRequest r o c items).mga.faults = s.mga.faults ∧
      OnlyIn [.ptc, .mga, .cbm, .txs] s (s.concludeRequest r o c items) := by
  let u : State := { s with ptc := { s.ptc with log := pushResult (s.resultOf r o c items) s.ptc.log } }
  let v : State := u.raiseNotice (.testDone r.id r.port r.kind o c items.length)
  have hv : s.concludeRequest r o c items = { v with ptc := { v.ptc with requests := v.ptc.requests.filter fun q => q.id != r.id } } := rfl
  have hptc : v.ptc = u.ptc := by simp [v]
  have hreported : Reported u v := u.reported_raiseNotice _
  have hfaults : v.mga.faults = s.mga.faults := by simp [v, u]
  rw [hv, hptc]
  refine ⟨rfl, hreported, hfaults, ?_⟩
  intro part hp
  cases part <;> simp_all [Part.Same, v, u]

/-- What selection may change of the controller and the agent: the list, the log, the course, the state and the demand; and notices are raised. -/
structure Selects (s t : State) : Prop where
  ptc : t.ptc = { s.ptc with requests := t.ptc.requests, log := t.ptc.log, course := t.ptc.course, state := t.ptc.state, demand := t.ptc.demand }
  reported : Reported s t
  faults : t.mga.faults = s.mga.faults
  within : OnlyIn [.ptc, .mga, .mail, .cbm, .txs] s t

theorem Selects.refl (s : State) : Selects s s := ⟨rfl, .refl s, rfl, .refl _ s⟩

theorem Selects.trans (h : Selects s t) (g : Selects t u) : Selects s u where
  ptc := by rw [g.ptc, h.ptc]
  reported := h.reported.trans g.reported
  faults := g.faults.trans h.faults
  within := h.within.trans g.within

theorem Reported.of_mga (h : t.mga = s.mga) : Reported s t := by rw [Reported, h]

theorem State.workDemand_selects (s : State) : Selects s s.workDemand where
  ptc := by rw [workDemand_ptc]
  reported := .of_mga (by simp)
  faults := by simp
  within := s.workDemand_only.mono (by decide)

theorem State.endQueued_selects (r : Request) (o : TestOutcome) (c : Option TestCause) (s : State) : Selects s (s.endQueued r o c) := by
  obtain ⟨hptc, hreported, hfaults, honly⟩ := s.concludeRequest_spec r o c []
  exact .trans ⟨by rw [hptc], hreported, hfaults, honly.mono (by decide)⟩ (s.concludeRequest r o c []).workDemand_selects

theorem State.startRequest_selects (r : Request) (s : State) : Selects s (s.startRequest r) :=
  ⟨rfl, rfl, rfl, ((s.setPtc_only _).mono (by decide)).trans ((State.post_only _ _).mono (by decide))⟩

theorem walkRequests_selects (rs : List Request) (s : State) : Selects s (walkRequests rs s) := by
  induction rs generalizing s with
  | nil => exact .refl s
  | cons r rs ih =>
    unfold walkRequests
    split
    · exact ih s
    · split
      · split
        · exact s.startRequest_selects r
        · exact ih s
      · exact (s.endQueued_selects r _ _).trans (ih _)

theorem State.select_selects (s : State) : Selects s s.select := by
  unfold select
  split
  · exact (walkRequests_selects _ s).trans (workDemand_selects _)
  · exact s.workDemand_selects

/-- Outside IDLE, with the bus blocked or shed, and with an empty list, no request is selected (R104). -/
theorem State.select_none (h : s.ptc.state ≠ .idle ∨ s.ptc.blocked = true ∨ s.ptc.shedMark = true ∨ s.ptc.requests = []) :
    s.select = s.workDemand := by
  unfold select
  split
  · next hmay =>
    obtain ⟨hidle, hblocked, hshed⟩ := hmay
    have hempty : s.ptc.requests = [] := by simp_all
    rw [hempty]
    rfl
  · rfl

/-- An early ending changes the course and the state alone, and sends messages (R111). -/
theorem State.earlyEnding_only (o : TestOutcome) (c : Option TestCause) (s : State) : OnlyIn [.ptc, .mail] s (s.earlyEnding o c) :=
  fun part hp => by cases part <;> simp_all [Part.Same]

/-! ## Directives of the Pair Test Controller -/

/-- A directive that is free to change in every state, carried out. -/
theorem direct_freely {o : Origin} {code : Octet} {params : List Octet} {data : List Octet} {good : Bool} {body : State → Answer} {f : State → State}
    (length : good = true) (comes : s.comesUp o code params)
    (does : ∀ ml : List Instr, body { s with mail := ml } = doneWith data (f { s with mail := ml })) :
    Answered code .done data s (s.direct o code params good .free body) ∧
      ∃ ml : List Instr, (s.direct o code params good .free body).besideDirective = (f { s with mail := ml }).besideDirective ∧
        ∃ more, (s.direct o code params good .free body).mail = (f { s with mail := ml }).mail ++ more :=
  State.direct_done comes (fun ml => length ▸ (State.answer_free _ o body).1) does

/-- A directive that is free to change in every state, refused. -/
theorem direct_freely_refused {o : Origin} {code : Octet} {params : List Octet} {why : DirectiveOutcome} {good : Bool} {body : State → Answer}
    (length : good = true) (comes : s.comesUp o code params)
    (refuses : ∀ ml, body { s with mail := ml } = refuse why { s with mail := ml }) :
    Answered code why [] s (s.direct o code params good .free body) ∧
      (s.direct o code params good .free body).besideDirective = s.besideDirective :=
  State.direct_refused comes (fun ml => length ▸ (State.answer_free _ o body).1) refuses

theorem State.setMail_only (ml : List Instr) (s : State) : OnlyIn [.mail] s { s with mail := ml } := fun part hp => by cases part <;> simp_all [Part.Same]

theorem besideDirective_clock (h : t.besideDirective = u.besideDirective) : t.now = u.now ∧ t.resetAt = u.resetAt :=
  have part {β : Type} (f : State → β) : f t.besideDirective = f u.besideDirective := congrArg f h
  ⟨part State.now, part State.resetAt⟩

/-! ## O47 -/

/-- A queued request that ends (R104, R105, R110, R112). -/
theorem State.endQueued_ptc (r : Request) (o : TestOutcome) (c : Option TestCause) (s : State) :
    (s.endQueued r o c).ptc.log = pushResult (s.resultOf r o c []) s.ptc.log ∧
      (s.endQueued r o c).ptc.requests = s.ptc.requests.filter (fun q => q.id != r.id) ∧
      (s.endQueued r o c).ptc.course = s.ptc.course ∧ (s.endQueued r o c).ptc.state = s.ptc.state := by
  obtain ⟨hptc, -⟩ := s.concludeRequest_spec r o c []
  unfold endQueued
  rw [workDemand_ptc, hptc]
  exact ⟨rfl, rfl, rfl, rfl⟩

theorem namedId_num2 {n : Nat} (h : n ≤ 65535) : namedId (num2 n) = n ∧ octets 2 (num2 n) = true := by
  obtain ⟨a, b, hab, hread⟩ := num2_read (Nat.lt_succ_of_le h)
  rw [hab]
  exact ⟨hread, rfl⟩

/-- Settles O47. -/
theorem waitingRequestsEnd : Obligations.WaitingRequestsEnd := by
  intro r id o s ended
  refine ⟨fun hrecord hwaiting => ?_, fun hnone => ?_, fun hid comes => ⟨fun hzero hrecord hwaiting => ?_, fun hzero hrecord => ?_, fun hzero => ?_⟩⟩
  · let u : State := s.reach (s.deadline r)
    obtain ⟨hlog, hrequests, hcourse, hstate⟩ := u.endQueued_ptc r .expired none
    have hnow : (u.endQueued r .expired none).now = u.now := by simp
    have hreset : (u.endQueued r .expired none).resetAt = u.resetAt := by simp
    have hsince : (u.endQueued r .expired none).sinceReset = u.sinceReset := by unfold State.sinceReset; rw [hnow, hreset]
    have hreach : OnlyIn [.now] s u := fun part hp => by cases part <;> simp_all [Part.Same, u]
    refine ⟨u.endQueued r .expired none, by simp [exec, execWaitDeadlineExpiry, hrecord, hwaiting, u],
      ⟨?_, hrequests, hcourse, hstate, (hreach.mono (by decide)).trans ((u.endQueued_selects r _ _).within.mono (by decide))⟩, hnow⟩
    rw [hlog, hsince]
    rfl
  · rcases hnone with h | h <;> simp [exec, execWaitDeadlineExpiry, h]
  · obtain ⟨hnamed, hlength⟩ := namedId_num2 hid
    obtain ⟨hanswered, ml, hbeside, -⟩ := direct_freely (body := State.testAbort (num2 id)) (f := fun u => u.endQueued r .aborted (some .directive))
      (data := num1 0) hlength comes fun ml => by
        simp only [State.testAbort, hnamed, hzero, if_false, hrecord, State.abort, hwaiting]
        rfl
    let v : State := { s with mail := ml }
    obtain ⟨hlog, hrequests, hcourse, hstate⟩ := v.endQueued_ptc r .aborted (some .directive)
    obtain ⟨hptc, -⟩ := besideDirective_blocks hbeside
    obtain ⟨hnow, hreset⟩ := besideDirective_clock hbeside
    have hnow : _ = s.now := hnow.trans (by simp)
    have hreset : _ = s.resetAt := hreset.trans (by simp)
    have honly : OnlyIn [.ptc, .mga, .mail, .cbm, .txs] s (v.endQueued r .aborted (some .directive)) :=
      ((s.setMail_only ml).mono (by decide)).trans (v.endQueued_selects r _ _).within
    refine ⟨_, rfl, ⟨?_, hptc ▸ hrequests, hptc ▸ hcourse, hptc ▸ hstate, (onlyIn_of_beside hbeside honly).mono (by decide)⟩, hanswered, hnow⟩
    rw [hptc, hlog]
    unfold State.sinceReset
    rw [hnow, hreset]
    rfl
  · obtain ⟨hnamed, hlength⟩ := namedId_num2 hid
    exact ⟨_, rfl, direct_freely_refused hlength comes fun ml => by simp only [State.testAbort, hnamed, hzero, if_false, hrecord]⟩
  · obtain ⟨hnamed, hlength⟩ := namedId_num2 hid
    exact ⟨_, rfl, direct_freely_refused hlength comes fun ml => if_pos (hnamed.trans hzero)⟩

/-! ## O48 -/

/-- TEST_SUSPEND by the controller state (R118). -/
theorem State.testSuspend_spec (s : State) :
    (∃ d, s.testSuspend.ptc =
      { s.ptc with
        state := if s.ptc.state = .idle then .suspended else s.ptc.state
        suspendPending := if s.ptc.state.busy = true then true else s.ptc.suspendPending, demand := d }) ∧ OnlyIn [.ptc, .mail] s s.testSuspend := by
  have hworks (x : PairTest) : OnlyIn [.ptc, .mail] s (State.workDemand { s with ptc := x }) :=
    ((s.setPtc_only x).mono (by decide)).trans (workDemand_only _)
  cases hst : s.ptc.state <;> simp only [testSuspend, hst, enterPtc, workDemand_ptc]
  case idle => exact ⟨⟨_, rfl⟩, hworks _⟩
  case suspended =>
    have hsame : ({ s.ptc with state := .suspended } : PairTest) = s.ptc := by rw [← hst]
    exact ⟨⟨s.ptc.demand, by simp only [ControllerState.busy, reduceCtorEq, if_false, Bool.false_eq_true]; exact hsame.symm⟩, .refl _ s⟩
  all_goals exact ⟨⟨PairTest.demandNow { s.ptc with suspendPending := true }, by simp [hst, ControllerState.busy]⟩, hworks _⟩

/-- TEST_RESUME by the controller state, where it brings no selection (R118). -/
theorem State.testResume_spec (h : s.ptc.state = .suspended → s.ptc.requests = [] ∨ s.ptc.blocked = true ∨ s.ptc.shedMark = true) :
    (s.ptc.state = .suspended → ∃ d, s.testResume.ptc = { s.ptc with state := .idle, demand := d }) ∧
      (s.ptc.state ≠ .suspended → ∃ d, s.testResume.ptc = { s.ptc with suspendPending := false, demand := d }) ∧
      OnlyIn [.ptc, .mail] s s.testResume := by
  have hworks (x : PairTest) : OnlyIn [.ptc, .mail] s (State.workDemand { s with ptc := x }) :=
    ((s.setPtc_only x).mono (by decide)).trans (workDemand_only _)
  by_cases hst : s.ptc.state = .suspended
  · have hresume : s.testResume = (s.enterPtc .idle).workDemand := by
      unfold testResume
      rw [hst]
      refine select_none ?_
      rcases h hst with h | h | h
      · exact .inr (.inr (.inr h))
      · exact .inr (.inl h)
      · exact .inr (.inr (.inl h))
    rw [hresume, workDemand_ptc]
    exact ⟨fun _ => ⟨_, rfl⟩, fun h => absurd hst h, hworks _⟩
  · have hresume : s.testResume = State.workDemand { s with ptc := { s.ptc with suspendPending := false } } := by
      unfold testResume
      split
      · next h => exact absurd h hst
      all_goals rfl
    rw [hresume, workDemand_ptc]
    exact ⟨fun h => absurd h hst, fun _ => ⟨_, rfl⟩, hworks _⟩

/-- Settles O48. -/
theorem suspendResumeAndClear : Obligations.SuspendResumeAndClear := by
  intro o s may quiet
  have hresumes (comes : s.comesUp o 0x45#8 [])
      (h : s.ptc.state = .suspended → s.ptc.requests = [] ∨ s.ptc.blocked = true ∨ s.ptc.shedMark = true) :
      ∃ t, exec (.testResume o []) s = .next t ∧ Answered 0x45#8 .done [] s t ∧ OnlyIn [.ptc, .mail, .mga] s t ∧
        (s.ptc.state = .suspended → ∃ d, t.ptc = { s.ptc with state := .idle, demand := d }) ∧
        (s.ptc.state ≠ .suspended → ∃ d, t.ptc = { s.ptc with suspendPending := false, demand := d }) := by
    obtain ⟨hanswered, ml, hbeside, -⟩ := direct_does (good := noParams []) (demands := .changing) (body := fun s => done s.testResume)
      (f := State.testResume) may rfl comes fun ml => rfl
    obtain ⟨hfrom, helse, honly⟩ := State.testResume_spec (s := { s with mail := ml }) h
    refine ⟨_, rfl, hanswered, onlyIn_of_beside hbeside (((s.setMail_only ml).mono (by decide)).trans (honly.mono (by decide))), ?_⟩
    rw [(besideDirective_blocks hbeside).1]
    exact ⟨hfrom, helse⟩
  refine ⟨fun comes => ?_, fun comes hst => ?_, fun comes hst h => ?_, fun comes => ⟨fun hfree => ?_, fun hblocked hclosed => ?_, fun hblocked hopen => ?_⟩⟩
  · obtain ⟨hanswered, ml, hbeside, -⟩ := direct_does (good := noParams []) (demands := .changing) (body := fun s => done s.testSuspend)
      (f := State.testSuspend) may rfl comes fun ml => rfl
    obtain ⟨⟨d, hptc⟩, honly⟩ := State.testSuspend_spec { s with mail := ml }
    have hptc := (besideDirective_blocks hbeside).1.trans hptc
    refine ⟨_, rfl, hanswered, ?_, onlyIn_of_beside hbeside (((s.setMail_only ml).mono (by decide)).trans (honly.mono (by decide))), ?_, ?_⟩
    · simp only [quiet, hptc, and_self]
    all_goals rw [hptc]
  · obtain ⟨t, hexec, hanswered, honly, -, helse⟩ := hresumes comes fun h => absurd h hst
    obtain ⟨d, hptc⟩ := helse hst
    exact ⟨t, hexec, hanswered, ⟨by rw [hptc], by rw [hptc], by rw [hptc]⟩, by rw [hptc], by rw [hptc], honly⟩
  · obtain ⟨t, hexec, hanswered, honly, hfrom, -⟩ := hresumes comes fun _ => h
    obtain ⟨d, hptc⟩ := hfrom hst
    exact ⟨t, hexec, hanswered, ⟨by rw [hptc], by rw [hptc], by rw [hptc]⟩, by rw [hptc], honly⟩
  · exact ⟨_, rfl, direct_refuses may rfl comes fun ml => if_pos (by simp [hfree])⟩
  · refine ⟨_, rfl, direct_refuses may rfl comes fun ml => ?_⟩
    obtain ⟨p, hp⟩ := hclosed
    have hany : (allPorts.any fun p => (s.port p).testClosedSense) = true := List.any_eq_true.mpr ⟨p, by simp [allPorts], hp⟩
    exact (if_neg (by simp [hblocked])).trans (if_pos hany)
  · let f (u : State) : State :=
      ({ u with ptc := { u.ptc with blocked := false, blocking := Row.all false } } : State).clearFault .testbus .relayMismatch
    have hnone : ¬(allPorts.any fun p => (s.port p).testClosedSense) = true := by simp [hopen]
    obtain ⟨hanswered, ml, hbeside, -⟩ := direct_does (good := noParams []) (demands := .changing) (body := State.testbusClear)
      (f := fun u => (f u).select) may rfl comes fun ml => (if_neg (by simp [hblocked])).trans (if_neg hnone)
    have hselects := (f { s with mail := ml }).select_selects
    obtain ⟨hptc, -⟩ := besideDirective_blocks hbeside
    refine ⟨_, rfl, hanswered, ?_, fun p => ?_, fun x hx hsource hkind => ?_, ?_⟩
    · rw [hptc, hselects.ptc]
      rfl
    · rw [hptc, hselects.ptc]
      exact Row.get_all _ _
    · rw [besideDirective_faults hbeside, hselects.faults] at hx
      obtain ⟨y, -, rfl⟩ := List.mem_map.mp hx
      by_cases hkey : y.hasKey .testbus .relayMismatch = true
      · simp [hkey]
      · rw [if_neg hkey] at hsource hkind
        exact absurd (y.hasKey_iff.mpr ⟨hsource, hkind⟩) hkey
    · exact (besideDirective_ports hbeside).trans (hselects.within .ports (by decide))

end Sys2Proof.Machine
end

section
/-! The obligations on the course of a running request and its early endings: O44 and O46 (06). -/

namespace Sys2Proof.Machine

variable {s t u : State} {r : Request} {k : Course} {o : TestOutcome} {c : Option TestCause} {p : Port}

/-! ## Reports of a running request (R102) -/

theorem State.runningAs_self (hr : s.ptc.running = some r) (hk : s.ptc.course = some k) : s.runningAs r.id = some (r, k) := by
  simp [runningAs, hr, hk]

theorem State.runningAs_none {id : Nat} (h : s.ptc.course = none ∨ ∀ r, s.ptc.running = some r → r.id ≠ id) : s.runningAs id = none := by
  unfold runningAs
  rcases h with h | h
  · rw [h]
    cases s.ptc.running <;> rfl
  · split
    · next r k hr hk => exact if_neg (h r hr)
    · rfl

/-- The controller and the messages alone change. -/
theorem State.setPtcMail_only (x : PairTest) (ml : List Instr) (s : State) : OnlyIn [.ptc, .mail] s { s with ptc := x, mail := ml } :=
  fun part hp => by cases part <;> simp_all [Part.Same]

/-- A report whose effect is none leaves, in its turn or not, everything but the messages. -/
theorem State.takeReport_idle {b : Reporter} {m : Instr} {effect : State → Host.Outcome State Fault Refusal}
    (h : effect (s.taken m) = .next (s.taken m)) : ∃ t, s.takeReport b m effect = .next t ∧ OnlyIn [.mail] s t := by
  by_cases hnext : s.IsNext b m
  · exact ⟨_, (s.takeReport_next b m effect hnext).trans h, s.taken_only m⟩
  · exact ⟨_, s.takeReport_early b m effect hnext, .refl _ s⟩

theorem judge_eq (items : List Item) : judge items = if ∀ x ∈ items, x.verdict = .ok then .pass else .fail := by
  simp [judge, List.all_eq_true]

/-- Settles O44. -/
theorem theCourseOfARequest : Obligations.TheCourseOfARequest := by
  refine ⟨?_, fun r k i s hr hk => ⟨fun hnext => ?_, fun hstate hpending hnext => ?_, fun hidle => ?_⟩,
    fun id i s => ⟨fun hidle => ?_, fun hidle => ?_⟩⟩
  · intro r k s hr hk hsent released frame
    refine ⟨fun hstate hnext => ?_, fun hstate => ⟨fun hnext => ?_, fun hnext => ?_⟩, fun hstate hnext => ?_⟩
    · have has : (s.taken (.granted r.id)).runningAs r.id = some (r, k) := State.runningAs_self hr hk
      by_cases hpending : k.pending = none
      · refine ⟨((({ s.taken (.granted r.id) with ptc := { s.ptc with owner := some r.port } } : State).post (.transferOut r.port)).enterPtc .transferOut),
          by simp [exec, execGranted, s.takeReport_next _ _ _ hnext, has, hstate, hsent, hpending], rfl, ⟨rfl, rfl, s.setPtcMail_only _ _⟩,
          fun _ => ⟨rfl, hk, rfl⟩, fun h => absurd hpending h⟩
      · refine ⟨({ s.taken (.granted r.id) with ptc := { s.ptc with owner := some r.port } } : State).sendRelease k r.port,
          by simp [exec, execGranted, s.takeReport_next _ _ _ hnext, has, hstate, hsent, hpending], rfl, ⟨rfl, rfl, s.setPtcMail_only _ _⟩,
          fun h => absurd h hpending, fun _ => ⟨rfl, rfl, rfl⟩⟩
    · by_cases hpending : k.pending = none
      · exact ⟨(s.taken .outDone).startMeasure r, by simp [exec, execOutDone, s.takeReport_next _ _ _ hnext, hr, hk, hstate, hsent, hpending], hk,
          ⟨rfl, rfl, s.setPtcMail_only _ _⟩, fun _ => ⟨rfl, rfl⟩, fun h => absurd hpending h⟩
      · exact ⟨((s.taken .outDone).post (.transferBack r.port)).enterPtc .transferBack,
          by simp [exec, execOutDone, s.takeReport_next _ _ _ hnext, hr, hk, hstate, hsent, hpending], hk, ⟨rfl, rfl, s.setPtcMail_only _ _⟩,
          fun h => absurd h hpending, fun _ => ⟨rfl, rfl⟩⟩
    · exact ⟨(s.taken .outFailed).sendRelease { k with pending := some .relayFault, cause := some .busOccupied } r.port,
        by simp [exec, execOutFailed, s.takeReport_next _ _ _ hnext, hr, hk, hstate, hsent], ⟨rfl, rfl, s.setPtcMail_only _ _⟩, rfl, rfl, rfl⟩
    · exact ⟨(s.taken .backDone).sendRelease k r.port, by simp [exec, execBackDone, s.takeReport_next _ _ _ hnext, hr, hk, hstate, hsent],
        ⟨rfl, rfl, s.setPtcMail_only _ _⟩, rfl, rfl, rfl⟩
  · have has : (s.taken (.measurementItem ⟨r.id, i⟩)).runningAs r.id = some (r, k) := State.runningAs_self hr hk
    let j : Course := { k with items := if k.items.length < 11 then k.items ++ [i] else k.items }
    refine ⟨(s.taken (.measurementItem ⟨r.id, i⟩)).setCourse j, ?_, s.setPtcMail_only _ _, rfl⟩
    simp only [exec, execMeasurementItem, s.takeReport_next _ _ _ hnext]
    by_cases hroom : k.items.length < 11
    · simp [has, Config.maxItems, hroom, j]
    · have hj : j = k := by simp [j, hroom]
      have hsame : (s.taken (.measurementItem ⟨r.id, i⟩)).setCourse j = s.taken (.measurementItem ⟨r.id, i⟩) := by
        rw [hj]
        unfold State.setCourse
        rw [← hk]
        rfl
      simp [has, Config.maxItems, hroom, hsame]
  · refine ⟨(((s.taken .measureDone).setCourse { k with pending := some (judge k.items) }).post (.transferBack r.port)).enterPtc .transferBack,
      by simp [exec, execMeasureDone, s.takeReport_next _ _ _ hnext, hr, hk, hstate, hpending], ?_, rfl, s.setPtcMail_only _ _⟩
    rw [← judge_eq]
    rfl
  · show ∃ t, execMeasureDone s = .next t ∧ _
    refine State.takeReport_idle ?_
    have hno : ¬((s.taken .measureDone).ptc.state = .measure ∧ k.pending.isNone = true) := fun ⟨h, h'⟩ =>
      hidle.elim (fun hs => hs h) fun hp => hp (Option.isNone_iff_eq_none.mp h')
    simp only [State.taken_ptc, hr, hk]
    exact if_neg hno
  · show ∃ t, execMeasurementItem ⟨id, i⟩ s = .next t ∧ _
    exact State.takeReport_idle (by simp [State.runningAs_none (s := s.taken (.measurementItem ⟨id, i⟩)) hidle])
  · show ∃ t, execMeasureDone s = .next t ∧ _
    refine State.takeReport_idle ?_
    rcases hidle with h | h <;> simp [h]

/-! ## Early endings (R111) -/

/-- An early ending of the running request: its course gains the outcome where that may replace the pending one, and in MEASURE the steps are stopped
and the relays sent back. -/
theorem State.earlyEnding_spec (hr : s.ptc.running = some r) (hk : s.ptc.course = some k) (o : TestOutcome) (c : Option TestCause) :
    ∃ more, s.earlyEnding o c =
      { s with
        ptc := { s.ptc with course := some (k.ended o c), state := if s.ptc.state = .measure then .transferBack else s.ptc.state }
        mail := s.mail ++ more } ∧
      (s.ptc.state = .measure → more = [.measureStop, .transferBack r.port]) := by
  by_cases hstate : s.ptc.state = .measure
  · exact ⟨[.measureStop, .transferBack r.port], by simp [earlyEnding, hr, hk, hstate, setCourse, post, enterPtc], fun _ => rfl⟩
  · refine ⟨[], ?_, fun h => absurd h hstate⟩
    simp [earlyEnding, hr, hk, hstate, setCourse]

theorem Course.ended_spec (o : TestOutcome) (c : Option TestCause) (k : Course) (hfault : o ≠ .relayFault) :
    (k.pending = none ∨ k.pending = some .pass ∨ k.pending = some .fail → k.ended o c = { k with pending := some o, cause := c }) ∧
      (¬(k.pending = none ∨ k.pending = some .pass ∨ k.pending = some .fail) → k.ended o c = k) := by
  have hreplaces : replaces o k.pending = true ↔ (k.pending = none ∨ k.pending = some .pass ∨ k.pending = some .fail) := by
    simp [replaces, hfault, or_assoc]
  unfold ended
  exact ⟨fun h => if_pos (hreplaces.mpr h), fun h => if_neg fun hre => h (hreplaces.mp hre)⟩

/-- What every early ending of the running request leaves (R111 to R116): its outcome and the state by the controller state; the list and the log stand. -/
structure EndsEarly (r : Request) (k : Course) (o : TestOutcome) (c : Option TestCause) (s t : State) : Prop where
  course : t.ptc.course = some (k.ended o c)
  measuring : s.ptc.state = .measure → t.ptc.state = .transferBack ∧ Instr.measureStop ∈ t.mail ∧ Instr.transferBack r.port ∈ t.mail
  elsewhere : s.ptc.state ≠ .measure → t.ptc.state = s.ptc.state
  requests : t.ptc.requests = s.ptc.requests
  log : t.ptc.log = s.ptc.log

theorem State.earlyEnding_endsEarly (hr : s.ptc.running = some r) (hk : s.ptc.course = some k) (o : TestOutcome) (c : Option TestCause) :
    EndsEarly r k o c s (s.earlyEnding o c) := by
  obtain ⟨more, heq, hmore⟩ := earlyEnding_spec hr hk o c
  rw [heq]
  exact ⟨rfl, fun h => by simp [h, hmore h], fun h => by simp [h], rfl, rfl⟩

/-- The request that runs and its course, and the state, list and log around it, are what an early ending goes by. -/
theorem EndsEarly.of_same (h : EndsEarly r k o c u t) (state : u.ptc.state = s.ptc.state) (requests : u.ptc.requests = s.ptc.requests)
    (log : u.ptc.log = s.ptc.log) : EndsEarly r k o c s t where
  course := h.course
  measuring := fun hs => h.measuring (state.trans hs)
  elsewhere := fun hs => (h.elsewhere fun hu => hs (state.symm.trans hu)).trans state
  requests := h.requests.trans requests
  log := h.log.trans log

/-- A test relay sensed closed blocks the bus (R116). -/
theorem State.block_spec (p : Port) (s : State) :
    (∃ d, (s.block p).ptc = { s.ptc with blocked := true, blocking := s.ptc.blocking.set p true, demand := d }) ∧ Reported s (s.block p) ∧
      OnlyIn [.ptc, .mail, .mga, .cbm, .txs] s (s.block p) := by
  let u : State := { s with ptc := { s.ptc with blocked := true, blocking := s.ptc.blocking.set p true } }
  have hblock : s.block p = (u.raiseFault .testbus .relayMismatch).workDemand := rfl
  have hreported : Reported u (u.raiseFault .testbus .relayMismatch) := u.reported_raiseFault _ _ _
  have hworked : Reported (u.raiseFault .testbus .relayMismatch) (s.block p) := .of_mga (by rw [hblock]; simp)
  refine ⟨⟨(u.raiseFault .testbus .relayMismatch).ptc.demandNow, ?_⟩, (show Reported s u from rfl).trans (hreported.trans hworked), ?_⟩
  · rw [hblock, workDemand_ptc]
    simp [u]
  · rw [hblock]
    intro part hp
    cases part <;> simp_all [Part.Same, u]

/-- Settles O46. -/
theorem earlyEndings : Obligations.EarlyEndings := by
  intro r k p s hr hk hport replaceable acted marked
  have hacted {t : State} {o : TestOutcome} {c : Option TestCause} (h : EndsEarly r k o c s t) : acted t :=
    ⟨h.measuring, h.elsewhere, h.requests, h.log⟩
  have hmarked {t : State} {o : TestOutcome} {c : Option TestCause} (h : EndsEarly r k o c s t) (hfault : o ≠ .relayFault) : marked o c t :=
    ⟨fun hre => h.course.trans (congrArg some ((k.ended_spec o c hfault).1 hre)),
      fun hre => h.course.trans (congrArg some ((k.ended_spec o c hfault).2 hre))⟩
  refine ⟨fun hnext => ?_, ?_, fun hnext => ?_, ?_, fun o id hid hlow hhigh hrecord comes => ?_⟩
  · have hends := (s.taken (.portDisabledReport r.id)).earlyEnding_endsEarly hr hk .aborted (some .portDisabled)
    have has : (s.taken (.portDisabledReport r.id)).runningAs r.id = some (r, k) := State.runningAs_self hr hk
    have hends : EndsEarly r k _ _ s _ := hends.of_same rfl rfl rfl
    exact ⟨_, by simp [exec, execPortDisabledReport, s.takeReport_next _ _ _ hnext, has], hmarked hends nofun, hacted hends,
      ((s.taken_only _).mono (by decide)).trans (State.earlyEnding_only _ _ _)⟩
  · let u : State := { s.taken .busShed with ptc := { s.ptc with shedMark := true } }
    have hends : EndsEarly r k _ _ s _ := (u.earlyEnding_endsEarly hr hk .powerShed none).of_same rfl rfl rfl
    obtain ⟨more, heq, -⟩ := u.earlyEnding_spec hr hk .powerShed none
    exact ⟨u.earlyEnding .powerShed none, rfl, hmarked hends nofun, hacted hends, by rw [heq], (s.setPtcMail_only _ _).trans (u.earlyEnding_only _ _)⟩
  · let u : State := s.taken (.mismatchReport p true)
    obtain ⟨⟨d, hptc⟩, hreported, honly⟩ := u.block_spec p
    have hr' : (u.block p).ptc.running = some r := by rw [hptc]; exact hr
    have hk' : (u.block p).ptc.course = some k := by rw [hptc]; exact hk
    have hends : EndsEarly r k .relayFault (some .busBlocked) s _ :=
      ((u.block p).earlyEnding_endsEarly hr' hk' _ _).of_same (by rw [hptc]; rfl) (by rw [hptc]; rfl) (by rw [hptc]; rfl)
    obtain ⟨more, heq, -⟩ := (u.block p).earlyEnding_spec hr' hk' .relayFault (some .busBlocked)
    refine ⟨(u.block p).earlyEnding .relayFault (some .busBlocked), ?_, hends.course.trans ?_, hacted hends, ?_,
      ?_, ?_, ?_⟩
    · simp only [exec, execMismatchReport, s.takeReport_next _ _ _ hnext, if_true]
      rw [show ((s.taken (.mismatchReport p true)).block p).ptc.running = some r from hr']
      exact if_neg hport
    · simp [Course.ended, replaces]
    · rw [heq, hptc]
    · rw [heq, hptc]
      rfl
    · exact (show Reported s u from rfl).trans (hreported.trans (by rw [heq]; rfl))
    · exact ((s.taken_only _).mono (by decide)).trans (honly.trans ((State.earlyEnding_only _ _ _).mono (by decide)))
  · show ∃ t, execMismatchReport p false s = .next t ∧ _
    exact State.takeReport_idle (by simp)
  · obtain ⟨hnamed, hlength⟩ := namedId_num2 hhigh
    have hrunning : r.status = .running := by simpa using List.find?_some hr
    have hends (ml : List Instr) := ({ s with mail := ml } : State).earlyEnding_endsEarly hr hk .aborted (some .directive)
    let state : ControllerState := if s.ptc.state = .measure then .transferBack else s.ptc.state
    have hstate (ml : List Instr) : (({ s with mail := ml } : State).earlyEnding .aborted (some .directive)).ptc.state = state := by
      obtain ⟨more, heq, -⟩ := ({ s with mail := ml } : State).earlyEnding_spec hr hk .aborted (some .directive)
      rw [heq]
    obtain ⟨hanswered, ml, hbeside, more, hmail⟩ := direct_freely (body := State.testAbort (num2 id)) (f := fun u => u.earlyEnding .aborted (some .directive))
      (data := num1 1 ++ num1 state.code ++ pendingOctet (some (k.ended .aborted (some .directive)))) hlength comes fun ml => by
        rw [← hstate ml, ← (hends ml).course]
        have hne : id ≠ 0 := by omega
        simp only [State.testAbort, hnamed, hne, if_false, hrecord, State.abort, hrunning]
        rfl
    obtain ⟨hptc, -⟩ := besideDirective_blocks hbeside
    have hall : EndsEarly r k .aborted (some .directive) s (s.direct o 0x41#8 (num2 id) (octets 2 (num2 id)) .free (State.testAbort (num2 id))) :=
      { course := by rw [hptc]; exact (hends ml).course
        measuring := fun hs => by
          obtain ⟨h₁, h₂, h₃⟩ := (hends ml).measuring hs
          rw [hptc, hmail]
          exact ⟨h₁, List.mem_append_left _ h₂, List.mem_append_left _ h₃⟩
        elsewhere := fun hs => by rw [hptc]; exact (hends ml).elsewhere hs
        requests := by rw [hptc]; exact (hends ml).requests
        log := by rw [hptc]; exact (hends ml).log }
    refine ⟨_, rfl, hmarked hall nofun, hacted hall, ?_, onlyIn_of_beside hbeside (((s.setMail_only ml).mono (by decide)).trans
      ((State.earlyEnding_only _ _ _).mono (by decide)))⟩
    rw [hall.course, show _ = state from (congrArg PairTest.state hptc).trans (hstate ml)]
    exact hanswered

end Sys2Proof.Machine
end

section
/-! The obligation on the ends of a running request: O45 (06). -/

namespace Sys2Proof.Machine

variable {s t u : State} {r : Request} {k : Course} {o : TestOutcome} {c : Option TestCause} {p : Port}

/-! ## What may be selected (R104) -/

theorem TestPolicy.permits_iff (y : TestPolicy) (m : TestMode) : y.permits m = true ↔ y = .any ∨ (y = .idleOnly ∧ m = .waitIdle) := by
  cases y <;> cases m <;> simp [permits]

theorem PairTest.isTakeable_iff (x : PairTest) (r : Request) :
    x.isTakeable r = true ↔ r.status = .waiting ∧ (x.view.get r.port).state ≠ .held ∧
      ¬((x.view.get r.port).state = .disabled ∧ (x.view.get r.port).held = true) ∧ (x.view.get r.port).phase = .none ∧
        ¬((x.view.get r.port).state = .up ∧ r.mode = .waitIdle) := by
  simp only [isTakeable, PortView.takeable, Bool.and_eq_true, Bool.not_eq_true', beq_iff_eq, bne_iff_ne, ne_eq, Bool.and_eq_false_iff,
    beq_eq_false_iff_ne, not_and_or, Bool.not_eq_true, and_assoc]

/-- A walk that finds one request alone, permitted but not free, selects none (R104). -/
theorem walkRequests_single (hst : r.status = .waiting) (permitted : (s.sub r.port).policy.permits r.mode = true)
    (away : s.ptc.isTakeable r = false) : walkRequests [r] s = s := by
  simp [walkRequests, hst, permitted, away]

/-- The first record is selected when it waits, is permitted and its port is free (R104). -/
theorem walkRequests_first {rest : List Request} (hst : r.status = .waiting) (permitted : (s.sub r.port).policy.permits r.mode = true)
    (free : s.ptc.isTakeable r = true) : walkRequests (r :: rest) s = s.startRequest r := by
  simp [walkRequests, hst, permitted, free]

/-! ## The controller moves on (R110) -/

/-- The controller that moves on to where no request can be selected. -/
theorem State.moveOn_spec (s : State) (h : s.ptc.suspendPending = false → (s.enterPtc .idle).select = (s.enterPtc .idle).workDemand) :
    (∃ d, s.moveOn.ptc =
      { s.ptc with suspendPending := false, state := if s.ptc.suspendPending = true then .suspended else .idle, demand := d }) ∧
      OnlyIn [.ptc, .mail] s s.moveOn ∧ ∃ more, s.moveOn.mail = s.mail ++ more := by
  have hworks (x : PairTest) : OnlyIn [.ptc, .mail] s (State.workDemand { s with ptc := x }) ∧
      ∃ more, (State.workDemand { s with ptc := x }).mail = s.mail ++ more :=
    ⟨((s.setPtc_only x).mono (by decide)).trans (workDemand_only _), workDemand_mail { s with ptc := x }⟩
  by_cases hsuspend : s.ptc.suspendPending = true
  · have hmove : s.moveOn = State.workDemand { s with ptc := { s.ptc with suspendPending := false, state := .suspended } } := if_pos hsuspend
    rw [hmove]
    refine ⟨⟨PairTest.demandNow { s.ptc with suspendPending := false, state := .suspended }, ?_⟩, hworks _⟩
    rw [workDemand_ptc, if_pos hsuspend]
  · have hfalse : s.ptc.suspendPending = false := by simpa using hsuspend
    have hmove : s.moveOn = (s.enterPtc .idle).workDemand := (if_neg hsuspend).trans (h hfalse)
    rw [hmove]
    refine ⟨⟨(s.enterPtc .idle).ptc.demandNow, ?_⟩, hworks _⟩
    rw [workDemand_ptc, if_neg hsuspend, ← hfalse]
    rfl

/-- The end of a running request, where no other can be selected next (R110). -/
theorem State.endRunning_spec (r : Request) (o : TestOutcome) (c : Option TestCause) (hk : s.ptc.course = some k)
    (h : (s.ptc.suspendPending = true ∨ s.ptc.shedMark = true ∨ s.ptc.blocked = true) ∨ ∀ x ∈ s.ptc.requests, x.id = r.id) :
    (∃ d, (s.endRunning r o c).ptc =
      { s.ptc with
        requests := s.ptc.requests.filter (fun q => q.id != r.id), log := pushResult (s.resultOf r o c k.items) s.ptc.log
        owner := none, course := none, suspendPending := false, state := if s.ptc.suspendPending = true then .suspended else .idle, demand := d }) ∧
      Reported s (s.endRunning r o c) ∧ OnlyIn [.ptc, .mga, .mail, .cbm, .txs] s (s.endRunning r o c) ∧
      ∃ more, (s.endRunning r o c).mail = s.mail ++ more := by
  obtain ⟨hptc, hreported, -, honly⟩ := s.concludeRequest_spec r o c k.items
  let x : PairTest := { (s.concludeRequest r o c k.items).ptc with owner := none, course := none }
  let w : State := State.workDemand { s.concludeRequest r o c k.items with ptc := x }
  have hend : s.endRunning r o c = w.moveOn := by
    unfold endRunning
    rw [hk]
  have hw : w.ptc = { x with demand := x.demandNow } := workDemand_ptc _
  have hwonly : OnlyIn [.ptc, .mga, .mail, .cbm, .txs] s w :=
    (honly.mono (by decide)).trans ((((s.concludeRequest r o c k.items).setPtc_only x).mono (by decide)).trans ((workDemand_only _).mono (by decide)))
  have hwmga : w.mga = (s.concludeRequest r o c k.items).mga := (workDemand_only { s.concludeRequest r o c k.items with ptc := x }) .mga (by decide)
  have hwmail : ∃ more, w.mail = s.mail ++ more := by
    obtain ⟨more, hmore⟩ := workDemand_mail { s.concludeRequest r o c k.items with ptc := x }
    exact ⟨more, hmore.trans (congrArg (· ++ more) (by simp))⟩
  obtain ⟨⟨d, hmove⟩, hmoveOnly, more', hmoveMail⟩ := w.moveOn_spec fun hsuspend => by
    refine select_none (.inr ?_)
    have hx : w.ptc.suspendPending = s.ptc.suspendPending ∧ w.ptc.blocked = s.ptc.blocked ∧ w.ptc.shedMark = s.ptc.shedMark ∧
        w.ptc.requests = s.ptc.requests.filter (fun q => q.id != r.id) := by simp [hw, x]
    obtain ⟨hxsuspend, hxblocked, hxshed, hxrequests⟩ := hx
    show w.ptc.blocked = true ∨ w.ptc.shedMark = true ∨ w.ptc.requests = []
    rcases h with (h | h | h) | h
    · rw [← hxsuspend, hsuspend] at h
      cases h
    · exact .inr (.inl (hxshed.trans h))
    · exact .inl (hxblocked.trans h)
    · exact .inr (.inr (hxrequests.trans (List.filter_eq_nil_iff.mpr fun q hq => by simp [h q hq])))
  obtain ⟨more, hmail⟩ := hwmail
  rw [hend]
  refine ⟨⟨d, ?_⟩, hreported.trans (.of_mga ((hmoveOnly .mga (by decide)).trans hwmga)), hwonly.trans (hmoveOnly.mono (by decide)),
    more ++ more', by rw [hmoveMail, hmail, List.append_assoc]⟩
  rw [hmove, hw]
  simp only [x, hptc]

/-- Settles O45. -/
theorem runningRequestsEnd : Obligations.RunningRequestsEnd := by
  intro r k reason s hr hk halted alone policy permitted away after ended
  have hends (u : State) (o : TestOutcome) (c : Option TestCause) (h : halted ∨ alone) (hptc : u.ptc = s.ptc) (hmga : u.mga = s.mga)
      (hnow : u.now = s.now) (hreset : u.resetAt = s.resetAt) (honly : OnlyIn [.mail] s u) : ended o c (u.endRunning r o c) := by
    obtain ⟨⟨d, heq⟩, hreported, hendOnly, -⟩ := u.endRunning_spec r o c (k := k) (by rw [hptc]; exact hk) (by rw [hptc]; exact h)
    have hresult : u.resultOf r o c k.items = ⟨r, o, c, k.items, s.sinceReset⟩ := by
      unfold State.resultOf State.sinceReset
      rw [hnow, hreset]
    rw [hresult, hptc] at heq
    exact ⟨(congrArg PairTest.log heq :), (congrArg PairTest.requests heq :), (congrArg PairTest.course heq :), (congrArg PairTest.owner heq :),
      (congrArg PairTest.state heq :), (congrArg PairTest.suspendPending heq :), (congrArg PairTest.view heq :), (Reported.of_mga hmga).trans hreported,
      (honly.mono (by decide)).trans hendOnly⟩
  refine ⟨fun o h hpending hnext => ?_, fun o h hstate hsent hpending hnext => ?_, fun h hstate hsent hpending hnext => ?_, fun h hnext => ?_⟩
  · have has : (s.taken (.released r.id)).runningAs r.id = some (r, k) := State.runningAs_self hr hk
    exact ⟨(s.taken (.released r.id)).endRunning r o k.cause, by simp [exec, execReleased, s.takeReport_next _ _ _ hnext, has, hpending], hends _ o k.cause h rfl rfl rfl rfl (s.taken_only _)⟩
  · have has : (s.taken (.denied r.id)).runningAs r.id = some (r, k) := State.runningAs_self hr hk
    exact ⟨(s.taken (.denied r.id)).endRunning r o k.cause,
      by simp [exec, execDenied, s.takeReport_next _ _ _ hnext, has, hstate, hsent, hpending],
      hends _ o k.cause h rfl rfl rfl rfl (s.taken_only _)⟩
  · have has : (s.taken (.denied r.id)).runningAs r.id = some (r, k) := State.runningAs_self hr hk
    let x : PairTest := { s.ptc with requests := setStatus r.id .waiting s.ptc.requests, course := none }
    let w : State := { s.taken (.denied r.id) with ptc := x }
    have hselect (hsuspend : w.ptc.suspendPending = false) : (w.enterPtc .idle).select = (w.enterPtc .idle).workDemand := by
      rcases h with (h | h | h) | ⟨hlist, hpermitted, haway⟩
      · exact absurd (h.symm.trans hsuspend) nofun
      · exact State.select_none (.inr (.inr (.inl h)))
      · exact State.select_none (.inr (.inl h))
      · let q : Request := { r with status := .waiting }
        have hrequests : x.requests = [q] := by simp [x, hlist, setStatus, q]
        have hpermits : ((w.enterPtc .idle).sub q.port).policy.permits q.mode = true := (TestPolicy.permits_iff _ _).mpr hpermitted
        have hnot : (w.enterPtc .idle).ptc.isTakeable q = false := by
          rw [← Bool.not_eq_true, PairTest.isTakeable_iff]
          rintro ⟨-, hheld, -, hphase, -⟩
          exact haway.elim (fun h => hheld h) fun h => h hphase
        have hwalk : walkRequests (w.enterPtc .idle).ptc.requests (w.enterPtc .idle) = w.enterPtc .idle := by
          rw [show (w.enterPtc .idle).ptc.requests = [q] from hrequests]
          exact walkRequests_single rfl hpermits hnot
        unfold State.select
        rw [hwalk, ite_self]
    obtain ⟨⟨d, heq⟩, honly, -⟩ := w.moveOn_spec hselect
    exact ⟨w.moveOn, by simp [exec, execDenied, s.takeReport_next _ _ _ hnext, has, hstate, hsent, hpending, State.putBack, w, x],
      (congrArg PairTest.requests heq :), (congrArg PairTest.log heq :), (congrArg PairTest.course heq :), (congrArg PairTest.state heq :),
      (congrArg PairTest.suspendPending heq :), (s.setPtcMail_only _ _).trans honly⟩
  · let v (b : State) : State := if b.ptc.state = .measure then b.post .measureStop else b
    let u : State := v (s.taken (.portHeldReport r.id reason))
    have has : (s.taken (.portHeldReport r.id reason)).runningAs r.id = some (r, k) := State.runningAs_self hr hk
    have hu : u.ptc = s.ptc ∧ u.mga = s.mga ∧ u.now = s.now ∧ u.resetAt = s.resetAt ∧ OnlyIn [.mail] s u := by
      by_cases hmeasure : s.ptc.state = .measure
      · rw [show u = (s.taken (.portHeldReport r.id reason)).post .measureStop from if_pos hmeasure]
        exact ⟨rfl, rfl, rfl, rfl, (s.taken_only _).trans (State.post_only _ _)⟩
      · rw [show u = s.taken (.portHeldReport r.id reason) from if_neg hmeasure]
        exact ⟨rfl, rfl, rfl, rfl, s.taken_only _⟩
    obtain ⟨hptc, hmga, hnow, hreset, honly⟩ := hu
    have hmail (o : TestOutcome) (c : Option TestCause) (hmeasure : s.ptc.state = .measure) : Instr.measureStop ∈ (u.endRunning r o c).mail := by
      obtain ⟨-, -, -, more, hmore⟩ := u.endRunning_spec r o c (k := k) (by rw [hptc]; exact hk) (by rw [hptc]; exact h)
      have hin : Instr.measureStop ∈ u.mail := by
        rw [show u = (s.taken (.portHeldReport r.id reason)).post .measureStop from if_pos hmeasure]
        simp [State.post]
      rw [hmore]
      exact List.mem_append_left _ hin
    cases reason with
    | hazard =>
      exact ⟨u.endRunning r .hazard none, by simp only [exec, execPortHeldReport, s.takeReport_next _ _ _ hnext, has]; rfl,
        hends u _ _ h hptc hmga hnow hreset honly, hmail _ _⟩
    | relayMismatch =>
      exact ⟨u.endRunning r .relayFault (some .mismatch), by simp only [exec, execPortHeldReport, s.takeReport_next _ _ _ hnext, has]; rfl,
        hends u _ _ h hptc hmga hnow hreset honly, hmail _ _⟩

end Sys2Proof.Machine
end

section
/-! The obligations on selection: O43 and O42 (06). -/

namespace Sys2Proof.Machine

variable {s t u : State} {r : Request} {k : Course} {o : TestOutcome} {c : Option TestCause} {p : Port} {id : Nat}

/-! ## What is sent while a report is taken (R102) -/

/-- The messages that were on their way still are, and those sent after them are no reports. -/
def Sends (s t : State) : Prop := ∃ more, t.mail = s.mail ++ more ∧ ∀ m ∈ more, reporter m = none

theorem Sends.refl (s : State) : Sends s s := ⟨[], (List.append_nil _).symm, fun _ hm => absurd hm List.not_mem_nil⟩

theorem Sends.of_mail (h : t.mail = s.mail) : Sends s t := ⟨[], h.trans (List.append_nil _).symm, fun _ hm => absurd hm List.not_mem_nil⟩

theorem Sends.trans (h : Sends s t) (g : Sends t u) : Sends s u := by
  obtain ⟨more, ht, hmore⟩ := h
  obtain ⟨more', hu, hmore'⟩ := g
  exact ⟨more ++ more', by rw [hu, ht, List.append_assoc], fun m hm => (List.mem_append.mp hm).elim (hmore m) (hmore' m)⟩

/-- Every line of reports stands as it stood. -/
theorem Sends.reportsOf (h : Sends s t) (b : Reporter) : t.reportsOf b = s.reportsOf b := by
  obtain ⟨more, hmail, hmore⟩ := h
  have hnone : (more.filter fun m => reporter m == some b) = [] := List.filter_eq_nil_iff.mpr fun m hm => by simp [hmore m hm]
  unfold State.reportsOf
  rw [hmail, List.filter_append, hnone, List.append_nil]

theorem State.post_sends {m : Instr} (h : reporter m = none) (s : State) : Sends s (s.post m) := ⟨[m], rfl, fun _ hm => List.mem_singleton.mp hm ▸ h⟩

theorem State.workDemand_sends (s : State) : Sends s s.workDemand := by
  unfold workDemand
  dsimp only
  split
  · exact .refl s
  · exact post_sends (m := .evaluation) rfl { s with ptc := { s.ptc with demand := s.ptc.demandNow } }

theorem State.concludeRequest_sends (r : Request) (o : TestOutcome) (c : Option TestCause) (items : List Item) (s : State) :
    Sends s (s.concludeRequest r o c items) := .of_mail (by simp)

theorem walkRequests_sends (rs : List Request) (s : State) : Sends s (walkRequests rs s) := by
  induction rs generalizing s with
  | nil => exact .refl s
  | cons r rs ih =>
    unfold walkRequests
    split
    · exact ih s
    · split
      · split
        · exact State.post_sends rfl _
        · exact ih s
      · exact ((s.concludeRequest_sends r _ _ _).trans (State.workDemand_sends _)).trans (ih _)

theorem State.select_sends (s : State) : Sends s s.select := by
  unfold select
  split
  · exact (walkRequests_sends _ s).trans (workDemand_sends _)
  · exact s.workDemand_sends

theorem State.moveOn_sends (s : State) : Sends s s.moveOn := by
  unfold moveOn
  split
  · exact workDemand_sends _
  · exact select_sends _

theorem State.endRunning_sends (r : Request) (o : TestOutcome) (c : Option TestCause) (s : State) : Sends s (s.endRunning r o c) := by
  have hmoves (v : State) (x : PairTest) : Sends v (State.workDemand { v with ptc := x }).moveOn :=
    (Sends.of_mail (s := v) (t := { v with ptc := x }) rfl).trans ((workDemand_sends _).trans (moveOn_sends _))
  exact (concludeRequest_sends r o c _ s).trans (hmoves _ _)

theorem State.earlyEnding_sends (o : TestOutcome) (c : Option TestCause) (s : State) : Sends s (s.earlyEnding o c) := by
  unfold earlyEnding
  split
  · dsimp only
    split
    · exact (post_sends (m := .measureStop) rfl (s.setCourse _)).trans (post_sends rfl _)
    · exact .of_mail rfl
  · exact .refl s

theorem State.block_sends (p : Port) (s : State) : Sends s (s.block p) :=
  .trans (.of_mail (by simp)) (workDemand_sends _)

/-- An effect is a next state, and leaves the lines of reports. -/
def Outcomes (s : State) (e : Host.Outcome State Fault Refusal) : Prop := ∃ t, e = .next t ∧ Sends s t

theorem Outcomes.next (h : Sends s t) : Outcomes s (.next t) := ⟨t, rfl, h⟩

/-- A report taken in its turn leaves its line, when its effect sends no report. -/
theorem State.takeReport_line {e : Host.Outcome State Fault Refusal} {b : Reporter} {m : Instr} {effect : State → Host.Outcome State Fault Refusal}
    (he : e = s.takeReport b m effect) (hm : reporter m = some b) (heffect : ∀ u, Outcomes u (effect u)) :
    (s.IsNext b m → ∃ t, e = .next t ∧ t.reportsOf b = (s.reportsOf b).drop 1 ∧ ∀ other, other ≠ b → t.reportsOf other = s.reportsOf other) ∧
      (¬s.IsNext b m → e = .next s) := by
  subst he
  refine ⟨fun hnext => ?_, s.takeReport_early b m effect⟩
  obtain ⟨t, ht, hsends⟩ := heffect (s.taken m)
  refine ⟨t, (s.takeReport_next b m effect hnext).trans ht, (hsends.reportsOf b).trans (s.reportsOf_taken b m hnext), fun other hother => ?_⟩
  exact (hsends.reportsOf other).trans (s.reportsOf_taken_other other m fun h => hother (Option.some.inj (h.symm.trans hm)))

/-- OUT_DONE drops what is left of MEASURE_DONE, so that it leaves the line of the LPC's reports alone as it stood (R115). -/
theorem execOutDone_line (s : State) :
    (s.IsNext .linePorts .outDone → ∃ t, execOutDone s = .next t ∧ t.reportsOf .linePorts = (s.reportsOf .linePorts).drop 1) ∧
      (¬s.IsNext .linePorts .outDone → execOutDone s = .next s) := by
  refine ⟨fun hnext => ?_, s.takeReport_early _ _ _⟩
  unfold execOutDone
  have htaken := s.reportsOf_taken .linePorts .outDone hnext
  have hdropped : (s.taken .outDone).dropStaleDone.reportsOf .linePorts = (s.taken .outDone).reportsOf .linePorts := by
    simp only [State.reportsOf, State.dropStaleDone, List.filter_filter]
    refine List.filter_congr fun m _ => ?_
    cases m <;> rfl
  have hback (q : Port) : Sends (s.taken .outDone) (((s.taken .outDone).post (.transferBack q)).enterPtc .transferBack) :=
    (State.post_sends (m := .transferBack q) rfl (s.taken .outDone)).trans (.of_mail rfl)
  have hstart (r : Request) : ((s.taken .outDone).startMeasure r).reportsOf .linePorts = (s.taken .outDone).reportsOf .linePorts := by
    have hsends : Sends (s.taken .outDone).dropStaleDone ((s.taken .outDone).startMeasure r) :=
      (State.post_sends (m := .measureStart ⟨r.id, r.port⟩ r.kind ((s.taken .outDone).sub r.port).expected) rfl _).trans (.of_mail rfl)
    exact (hsends.reportsOf _).trans hdropped
  rw [s.takeReport_next _ _ _ hnext]
  split
  · next r k hr hk =>
    split
    · split
      · exact ⟨_, rfl, (hstart r).trans htaken⟩
      · exact ⟨_, rfl, ((hback r.port).reportsOf _).trans htaken⟩
    · exact ⟨_, rfl, htaken⟩
  · exact ⟨_, rfl, htaken⟩

/-- Every report but OUT_DONE leaves every other line of reports. -/
theorem report_line {b : Reporter} {m : Instr} (hm : reporter m = some b) (hout : m ≠ .outDone) (s : State) :
    (s.IsNext b m → ∃ t, exec m s = .next t ∧ t.reportsOf b = (s.reportsOf b).drop 1 ∧
      ∀ other, other ≠ b → t.reportsOf other = s.reportsOf other) ∧ (¬s.IsNext b m → exec m s = .next s) := by
  have hrelease (k : Course) (q : Port) (u : State) : Sends u (u.sendRelease k q) := State.post_sends (m := .release q) rfl (u.setCourse _)
  cases m with
  | portReport q st held phase =>
    cases hm
    exact State.takeReport_line (show execPortReport q st held phase s = _ from rfl) rfl fun u => .next (State.select_sends { u with ptc := { u.ptc with view := u.ptc.view.set q ⟨st, held, phase⟩ } })
  | granted id =>
    cases hm
    refine State.takeReport_line (show execGranted id s = _ from rfl) rfl fun u => ?_
    split
    · split
      · dsimp only
        split
        · next r _ _ _ _ => exact .next (State.post_sends (m := .transferOut r.port) rfl { u with ptc := { u.ptc with owner := some r.port } })
        · exact .next (hrelease _ _ _)
      · exact .next (.refl u)
    · exact .next (.refl u)
  | denied id =>
    cases hm
    refine State.takeReport_line (show execDenied id s = _ from rfl) rfl fun u => ?_
    split
    · split
      · split
        · next r _ _ _ _ _ =>
          exact .next (State.moveOn_sends { u with ptc := { u.ptc with requests := setStatus r.id .waiting u.ptc.requests, course := none } })
        · exact .next (u.endRunning_sends _ _ _)
      · exact .next (.refl u)
    · exact .next (.refl u)
  | outDone => exact absurd rfl hout
  | outFailed =>
    cases hm
    refine State.takeReport_line (show execOutFailed s = _ from rfl) rfl fun u => ?_
    split
    · split
      · exact .next (hrelease _ _ _)
      · exact .next (.refl u)
    · exact .next (.refl u)
  | backDone =>
    cases hm
    refine State.takeReport_line (show execBackDone s = _ from rfl) rfl fun u => ?_
    split
    · split
      · exact .next (hrelease _ _ _)
      · exact .next (.refl u)
    · exact .next (.refl u)
  | released id =>
    cases hm
    refine State.takeReport_line (show execReleased id s = _ from rfl) rfl fun u => ?_
    split
    · split
      · exact .next (u.endRunning_sends _ _ _)
      · exact .next (.refl u)
    · exact .next (.refl u)
  | portDisabledReport id =>
    cases hm
    refine State.takeReport_line (show execPortDisabledReport id s = _ from rfl) rfl fun u => ?_
    split
    · exact .next (u.earlyEnding_sends _ _)
    · exact .next (.refl u)
  | portHeldReport id reason =>
    cases hm
    refine State.takeReport_line (show execPortHeldReport id reason s = _ from rfl) rfl fun u => ?_
    have hstop : Sends u (if u.ptc.state = .measure then u.post .measureStop else u) := by
      split
      · exact State.post_sends rfl u
      · exact .refl u
    split
    · dsimp only
      split
      · exact .next (hstop.trans (State.endRunning_sends _ _ _ _))
      · exact .next (hstop.trans (State.endRunning_sends _ _ _ _))
    · exact .next (.refl u)
  | mismatchReport q closed =>
    cases hm
    refine State.takeReport_line (show execMismatchReport q closed s = _ from rfl) rfl fun u => ?_
    split
    · dsimp only
      split
      · split
        · exact .next (u.block_sends q)
        · exact .next ((u.block_sends q).trans (State.earlyEnding_sends _ _ _))
      · exact .next (u.block_sends q)
    · exact .next (.refl u)
  | measurementItem item =>
    cases hm
    refine State.takeReport_line (show execMeasurementItem item s = _ from rfl) rfl fun u => ?_
    split
    · split
      · exact .next (.of_mail rfl)
      · exact .next (.refl u)
    · exact .next (.refl u)
  | measureDone =>
    cases hm
    refine State.takeReport_line (show execMeasureDone s = _ from rfl) rfl fun u => ?_
    split
    · next r k _ _ =>
      split
      · exact .next (State.post_sends (m := .transferBack r.port) rfl (u.setCourse { k with pending := some (judge k.items) }))
      · exact .next (.refl u)
    · exact .next (.refl u)
  | _ => cases hm

/-! ## O43 -/

/-- What a selection leaves that finds the first record permitted and its port free (R104, R106). -/
theorem State.select_first {rest : List Request} (idle : s.ptc.state = .idle) (blocked : s.ptc.blocked = false) (shed : s.ptc.shedMark = false)
    (list : s.ptc.requests = r :: rest) (waits : r.status = .waiting) (permitted : (s.sub r.port).policy.permits r.mode = true)
    (free : s.ptc.isTakeable r = true) :
    s.select.ptc.state = .claim ∧ s.select.ptc.course = some ⟨none, none, [], false⟩ ∧ s.select.ptc.log = s.ptc.log ∧
      Instr.take r.id r.port (r.mode == .intrude) ∈ s.select.mail ∧
      s.select.ptc.requests = s.ptc.requests.map (fun x => if x.id = r.id then { x with status := .running } else x) := by
  have hselect : s.select = (s.startRequest r).workDemand := by
    unfold select
    rw [if_pos (by simp [idle, blocked, shed]), list, walkRequests_first waits permitted free]
  obtain ⟨more, hmore⟩ := (s.startRequest r).workDemand_mail
  rw [hselect, workDemand_ptc, hmore]
  exact ⟨rfl, rfl, rfl, by simp [startRequest, post], rfl⟩

/-- Settles O43. -/
theorem reportsBringASelection : Obligations.ReportsBringASelection := by
  refine ⟨fun b m q st held phase id reason item s hm => ?_, ?_⟩
  · have hreporter : reporter m = some b := by
      rcases hm with ⟨rfl, hm⟩ | ⟨rfl, hm⟩
      · simp only [List.mem_cons, List.not_mem_nil, or_false] at hm
        rcases hm with rfl | rfl | rfl | rfl | rfl | rfl | rfl | rfl | rfl | rfl <;> rfl
      · simp only [List.mem_cons, List.not_mem_nil, or_false] at hm
        rcases hm with rfl | rfl <;> rfl
    by_cases hout : m = .outDone
    · subst hout
      cases hreporter
      obtain ⟨htakes, hearly⟩ := execOutDone_line s
      refine ⟨fun hnext => ?_, hearly⟩
      obtain ⟨t, ht, hline⟩ := htakes hnext
      exact ⟨t, ht, hline, fun h => absurd rfl h⟩
    · obtain ⟨htakes, hearly⟩ := report_line hreporter hout s
      refine ⟨fun hnext => ?_, hearly⟩
      obtain ⟨t, ht, hline, hothers⟩ := htakes hnext
      exact ⟨t, ht, hline, fun _ => hothers⟩
  · intro q st held phase s view' takeable started
    have hstarts (u : State) (hptc : u.ptc.requests = s.ptc.requests ∧ u.ptc.log = s.ptc.log ∧ u.ptc.state = s.ptc.state) (hsub : u.mga = s.mga) (r : Request)
        (rest : List Request) (idle : s.ptc.state = .idle) (blocked : u.ptc.blocked = false) (shed : u.ptc.shedMark = false)
        (list : s.ptc.requests = r :: rest) (htakeable : takeable u.ptc.view r) : started r u.select := by
      obtain ⟨hrequests, hlog, hstate⟩ := hptc
      obtain ⟨hwaits, hpolicy, hfree⟩ := htakeable
      have hsubs : u.sub = s.sub := funext fun p => by rw [State.sub, State.sub, hsub]
      obtain ⟨h₁, h₂, h₃, h₄, h₅⟩ := State.select_first (s := u) (hstate.trans idle) blocked shed (hrequests.trans list) hwaits
        (by rw [hsubs]; exact (TestPolicy.permits_iff _ _).mpr hpolicy) ((PairTest.isTakeable_iff _ _).mpr ⟨hwaits, hfree⟩)
      exact ⟨h₁, h₂, h₃.trans hlog, h₄, by rw [h₅, hrequests]⟩
    have hstays (u : State) (h : u.ptc.state ≠ .idle ∨ u.ptc.blocked = true ∨ u.ptc.shedMark = true) :
        u.select.ptc.state = u.ptc.state ∧ u.select.ptc.requests = u.ptc.requests ∧ u.select.ptc.course = u.ptc.course ∧ u.select.mga = u.mga := by
      rw [State.select_none (h.imp_right (Or.imp_right .inl))]
      simp
    refine ⟨fun hnext => ?_, ?_⟩
    · let u : State := { s.taken (.portReport q st held phase) with ptc := { s.ptc with view := view' } }
      have hselects := u.select_selects
      exact ⟨u.select, by simp only [exec, execPortReport, s.takeReport_next _ _ _ hnext]; rfl, by rw [hselects.ptc], ((s.setPtcMail_only _ _).mono (by decide)).trans hselects.within, hstays u,
        fun r rest idle blocked shed => hstarts u ⟨rfl, rfl, rfl⟩ rfl r rest idle blocked shed⟩
    · let u : State := { s.taken .busAdmit with ptc := { s.ptc with shedMark := false } }
      have hselects := u.select_selects
      exact ⟨u.select, rfl, by rw [hselects.ptc], by rw [hselects.ptc], ((s.setPtcMail_only _ _).mono (by decide)).trans hselects.within,
        fun h => hstays u (h.imp_right .inl), fun r rest idle blocked => hstarts u ⟨rfl, rfl, rfl⟩ rfl r rest idle blocked rfl⟩

/-! ## O42 -/

/-- What is permitted and in the list stays there, waiting or running, through a walk in which its id names no other record. -/
theorem walkRequests_keeps (rs : List Request) (s : State) (hin : ∃ st, { r with status := st } ∈ s.ptc.requests)
    (permitted : (s.sub r.port).policy.permits r.mode = true) (ids : ∀ q ∈ rs, q.id = r.id → q.port = r.port ∧ q.mode = r.mode) :
    ∃ st, { r with status := st } ∈ (walkRequests rs s).ptc.requests := by
  induction rs generalizing s with
  | nil => exact hin
  | cons q rest ih =>
    obtain ⟨hq, hrest⟩ := List.forall_mem_cons.mp ids
    obtain ⟨st, hmem⟩ := hin
    unfold walkRequests
    split
    · exact ih s ⟨st, hmem⟩ permitted hrest
    · split
      · split
        · by_cases hid : r.id = q.id
          · exact ⟨.running, List.mem_map.mpr ⟨_, hmem, if_pos hid⟩⟩
          · exact ⟨st, List.mem_map.mpr ⟨_, hmem, if_neg hid⟩⟩
        · exact ih s ⟨st, hmem⟩ permitted hrest
      · next hpolicy =>
        have hne : r.id ≠ q.id := fun hid => by
          obtain ⟨hport, hmode⟩ := hq hid.symm
          exact hpolicy (by rw [hport, hmode]; exact permitted)
        refine ih _ ⟨st, ?_⟩ (by unfold State.sub at permitted ⊢; simpa using permitted) hrest
        rw [(s.endQueued_ptc q _ _).2.1]
        exact List.mem_filter.mpr ⟨hmem, by simpa using hne⟩

/-- A record with its own id stands at its place, counted from 1 (R100). -/
theorem placeOf_spec {rs : List Request} (hr : r ∈ rs) (ids : ∀ q ∈ rs, q.id = r.id → q = r) :
    rs[placeOf r.id rs - 1]? = some r ∧ 1 ≤ placeOf r.id rs := by
  refine ⟨?_, Nat.le_add_left 1 _⟩
  have hplace : placeOf r.id rs - 1 = (rs.takeWhile fun q => q.id != r.id).length := rfl
  rw [hplace]
  induction rs with
  | nil => cases hr
  | cons q rest ih =>
    by_cases hid : q.id = r.id
    · simp [ids q (.head _) hid]
    · have hin : r ∈ rest := (List.mem_cons.mp hr).resolve_left fun h => hid (congrArg Request.id h.symm)
      simpa [hid] using ih hin (fun q hq => ids q (.tail _ hq)) rfl

theorem requestForm_codes (p : Port) (kind : TestKind) (mode : TestMode) (urgency : Urgency) :
    requestForm [portOctet p, octet kind.code, octet mode.code, octet urgency.code] = some ⟨p, kind, mode, urgency⟩ := by
  have hport : portOf (portOctet p).toNat = some p := by rw [portOctet_toNat, portOf, dif_pos p.isLt]
  have hkind : testKindOf (octet kind.code).toNat = some kind := by cases kind <;> rfl
  have hmode : testModeOf (octet mode.code).toNat = some mode := by cases mode <;> rfl
  have hurgency : urgencyOf (octet urgency.code).toNat = some urgency := by cases urgency <;> rfl
  simp only [requestForm, hport, hkind, hmode, hurgency]

theorem requestForm_bad {a b c d : Octet} (h : 16 ≤ a.toNat ∨ 4 ≤ b.toNat ∨ 2 ≤ c.toNat ∨ 2 ≤ d.toNat) : requestForm [a, b, c, d] = none := by
  have hkind {n : Nat} (hn : 4 ≤ n) : testKindOf n = none := by
    obtain ⟨m, rfl⟩ := Nat.exists_eq_add_of_le' hn
    rfl
  have hmode {n : Nat} (hn : 2 ≤ n) : testModeOf n = none := by
    obtain ⟨m, rfl⟩ := Nat.exists_eq_add_of_le' hn
    rfl
  have hurgency {n : Nat} (hn : 2 ≤ n) : urgencyOf n = none := by
    obtain ⟨m, rfl⟩ := Nat.exists_eq_add_of_le' hn
    rfl
  unfold requestForm
  dsimp only
  rcases h with h | h | h | h
  · rw [show portOf a.toNat = none from dif_neg (Nat.not_lt.mpr h)]
  · rw [hkind h]
    cases portOf a.toNat <;> rfl
  · rw [hmode h]
    cases portOf a.toNat <;> cases testKindOf b.toNat <;> rfl
  · rw [hurgency h]
    cases portOf a.toNat <;> cases testKindOf b.toNat <;> cases testModeOf c.toNat <;> rfl

/-- The record of an accepted request (R99). -/
def State.newRequest (o : Origin) (f : RequestForm) (s : State) : Request :=
  { id := freshId (s.ptc.requests.map (·.id)) Config.maxRequests s.ptc.nextId, port := f.port, kind := f.kind, mode := f.mode, origin := o,
    urgency := f.urgency, accepted := s.sinceReset, status := .waiting }

/-- The list with the accepted request in its place, and the next id (R100). -/
def State.enlist (r : Request) (s : State) : State :=
  { s with ptc := { s.ptc with requests := insertRequest r s.ptc.requests, nextId := idAfter r.id } }

theorem State.acceptRequest_eq (o : Origin) (f : RequestForm) (s : State) :
    s.acceptRequest o f =
      doneWith (num4 (s.newRequest o f).id ++ num4 (placeOf (s.newRequest o f).id (insertRequest (s.newRequest o f) s.ptc.requests)))
        (s.enlist (s.newRequest o f)).select := rfl

/-- The fresh id of a new request (R100). -/
theorem State.newRequest_id (o : Origin) (f : RequestForm) (h : s.ptc.Sound) :
    (1 ≤ (s.newRequest o f).id ∧ (s.newRequest o f).id ≤ 65535) ∧ (∀ r ∈ s.ptc.requests, r.id ≠ (s.newRequest o f).id) ∧
      ((∀ r ∈ s.ptc.requests, r.id ≠ s.ptc.nextId) → (s.newRequest o f).id = s.ptc.nextId) := by
  have hfresh : (s.newRequest o f).id ∉ s.ptc.requests.map (·.id) :=
    freshId_fresh h.next (by simpa [Config.maxRequests] using h.room) (by simp [Config.maxRequests])
  refine ⟨freshId_range _ _ h.next, fun r hr hid => hfresh (List.mem_map.mpr ⟨r, hr, hid⟩), fun hfree => ?_⟩
  have hno : (s.ptc.requests.map (·.id)).contains s.ptc.nextId = false := by simpa using fun r hr hid => hfree r hr hid
  exact if_neg (by rw [hno]; exact Bool.false_ne_true)

/-- Settles O42. -/
theorem testRequestsAreAccepted : Obligations.TestRequestsAreAccepted := by
  refine ⟨fun o port kind mode urgency s hbad comes => ⟨_, rfl, direct_freely_refused rfl comes fun ml => ?_⟩, ?_⟩
  · unfold State.testRequest
    rw [requestForm_bad hbad]
  intro o p kind mode urgency s params comes hsound permitted twin refused record v free
  have hform : requestForm params = some ⟨p, kind, mode, urgency⟩ := requestForm_codes p kind mode urgency
  have hpermits : (s.sub p).policy.permits mode = true ↔ permitted := TestPolicy.permits_iff _ _
  have htwin : (s.ptc.requests.any fun r => r.port == p && r.kind == kind) = true ↔ twin := by simp [twin, List.any_eq_true]
  have hbody (ml : List Instr) : State.testRequest o params { s with mail := ml } =
      if !(s.sub p).policy.permits mode then refuse .notPermitted { s with mail := ml }
      else if 8 ≤ s.ptc.requests.length then refuse .queueFull { s with mail := ml }
      else if s.ptc.requests.any fun r => r.port == p && r.kind == kind then refuse .duplicate { s with mail := ml }
      else ({ s with mail := ml } : State).acceptRequest o ⟨p, kind, mode, urgency⟩ := by
    unfold State.testRequest
    rw [hform]
    rfl
  refine ⟨fun hno => ⟨_, rfl, direct_freely_refused rfl comes fun ml => (hbody ml).trans ?_⟩, fun hyes hfull =>
    ⟨_, rfl, direct_freely_refused rfl comes fun ml => (hbody ml).trans ?_⟩, fun hyes hroom hdup =>
    ⟨_, rfl, direct_freely_refused rfl comes fun ml => (hbody ml).trans ?_⟩, fun hyes hroom hdup => ?_⟩
  · rw [if_pos (by simpa using fun h => hno (hpermits.mp h))]
  · rw [if_neg (by simp [hpermits.mpr hyes]), if_pos (by omega)]
  · rw [if_neg (by simp [hpermits.mpr hyes]), if_neg (by omega), if_pos (htwin.mpr hdup)]
  · let f : RequestForm := ⟨p, kind, mode, urgency⟩
    let r : Request := s.newRequest o f
    let place : Nat := placeOf r.id (insertRequest r s.ptc.requests)
    obtain ⟨hanswered, ml, hbeside, more, hmail⟩ := direct_freely (good := octets 4 params) (body := State.testRequest o params) (data := num4 r.id ++ num4 place)
      (f := fun u => (u.enlist r).select) rfl comes fun ml => by
        rw [hbody ml, if_neg (by simp [hpermits.mpr hyes]), if_neg (by omega), if_neg fun h => hdup (htwin.mp h)]
        rfl
    obtain ⟨hptc, -⟩ := besideDirective_blocks hbeside
    obtain ⟨⟨hlow, hhigh⟩, hfresh, hnext⟩ := State.newRequest_id o f hsound
    let u : State := ({ s with mail := ml } : State).enlist r
    have hselects : Selects u u.select := u.select_selects
    have hin : r ∈ u.ptc.requests := (insertRequest_perm r s.ptc.requests).mem_iff.mpr (.head _)
    have hown : ∀ q ∈ u.ptc.requests, q.id = r.id → q = r := fun q hq hid =>
      (List.mem_cons.mp ((insertRequest_perm r s.ptc.requests).mem_iff.mp hq)).resolve_right fun h => hfresh q h hid
    have hpolicy : (u.sub r.port).policy.permits r.mode = true := hpermits.mpr hyes
    refine ⟨_, r.id, place, rfl, hanswered, hlow, hhigh, hfresh, hnext, ?_, ?_, fun hbusy => ?_, fun hidle hempty hblocked hshed hfree => ?_, ?_⟩
    · rw [hptc, hselects.ptc]
      show idAfter r.id = _
      have hlast : r.id ≤ 65535 := hhigh
      unfold idAfter
      split <;> split <;> omega
    · rw [hptc]
      show ∃ st, { r with status := st } ∈ u.select.ptc.requests
      unfold State.select
      split
      · simpa using walkRequests_keeps u.ptc.requests u ⟨.waiting, hin⟩ hpolicy fun q hq hid => by rw [hown q hq hid]; exact ⟨rfl, rfl⟩
      · exact ⟨.waiting, by rw [State.workDemand_ptc]; exact hin⟩
    · have hselect : u.select = u.workDemand := State.select_none (.inl hbusy)
      obtain ⟨hplace, hone⟩ := placeOf_spec hin hown
      rw [hptc, show (({ s with mail := ml } : State).enlist r).select = u.workDemand from hselect, State.workDemand_ptc]
      refine ⟨rfl, ?_, hplace, hone⟩
      show insertRequest r s.ptc.requests = _
      cases urgency <;> rfl
    · have hlist : u.ptc.requests = [r] := by
        show insertRequest r s.ptc.requests = [r]
        rw [hempty]
        cases urgency <;> rfl
      obtain ⟨hstate, -, -, htake, hrequests⟩ := State.select_first (s := u) hidle hblocked hshed hlist rfl hpolicy
        ((PairTest.isTakeable_iff _ _).mpr ⟨rfl, hfree⟩)
      refine ⟨by rw [hptc]; exact hstate, ?_, by rw [hmail]; exact List.mem_append_left _ htake⟩
      rw [hptc, hrequests, hlist]
      simp [record, r, State.newRequest, f]
    · exact onlyIn_of_beside hbeside (((s.setMail_only ml).mono (by decide)).trans
        (((State.setPtc_only _ _).mono (by decide)).trans hselects.within))

end Sys2Proof.Machine
end

section
/-! SUPPORT for the obligations on the cabinet: faults and notices where there is room, and the craft port's power; and O55 (09). -/

namespace Sys2Proof.Machine

variable {s t u : State} {r : Reception} {length : Nat} {good : Bool} {payload : List Octet} {src : FaultSource} {kind : FaultKind}

/-! ## Fault records and notices with room (R183, R185) -/

/-- A raise with room in the log leaves its active record (R183). -/
theorem State.raiseFault_records (src : FaultSource) (kind : FaultKind) (s : State) (room : s.mga.faults.length < 24) (hkind : kind ≠ .restart) :
    Stands (s.raiseFault src kind).mga.faults src kind := by
  rw [raiseFault_faults]
  unfold Agent.raise
  split
  · next r hfind =>
    obtain ⟨hsource, hsame⟩ := r.hasKey_iff.mp (List.find?_some hfind)
    refine ⟨r.again none s.uptime, List.mem_map.mpr ⟨r, List.mem_of_find?_eq_some hfind, if_pos (List.find?_some hfind)⟩, hsource, hsame, ?_⟩
    simp [FaultRecord.again, hsame, hkind]
  · have hplace : faultPlace s.mga.faults kind = some (s.mga.faults, 0) := if_pos room
    rw [hplace]
    exact ⟨_, List.mem_append_right _ (.head _), rfl, rfl, by simp [FaultRecord.fresh, hkind]⟩

/-- A raise enters at most one record more. -/
theorem State.raiseFault_length (src : FaultSource) (kind : FaultKind) (s : State) (room : s.mga.faults.length < 24) :
    (s.raiseFault src kind).mga.faults.length ≤ s.mga.faults.length + 1 := by
  rw [raiseFault_faults]
  unfold Agent.raise
  split
  · simp [updateFault]
  · have hplace : faultPlace s.mga.faults kind = some (s.mga.faults, 0) := if_pos room
    rw [hplace]
    simp

/-- A record that stands still stands after a raise with room. -/
theorem Stands.raiseFault {k : FaultSource} {j : FaultKind} (h : Stands s.mga.faults k j) (room : s.mga.faults.length < 24) (hkind : kind ≠ .restart) :
    Stands (s.raiseFault src kind).mga.faults k j := by
  obtain ⟨f, hf, hsource, hsame, hactive⟩ := h
  rw [State.raiseFault_faults]
  unfold Agent.raise
  split
  · by_cases hkey : f.hasKey src kind = true
    · refine ⟨f.again none s.uptime, List.mem_map.mpr ⟨f, hf, if_pos hkey⟩, hsource, hsame, ?_⟩
      simp [FaultRecord.again, (f.hasKey_iff.mp hkey).2, hkind]
    · exact ⟨f, List.mem_map.mpr ⟨f, hf, if_neg hkey⟩, hsource, hsame, hactive⟩
  · have hplace : faultPlace s.mga.faults kind = some (s.mga.faults, 0) := if_pos room
    rw [hplace]
    exact ⟨f, List.mem_append_left _ hf, hsource, hsame, hactive⟩

/-- What is cleared is inactive (R184). -/
theorem State.clearFault_inactive (src : FaultSource) (kind : FaultKind) (s : State) :
    ∀ f ∈ (s.clearFault src kind).mga.faults, f.source = src → f.kind = kind → f.active = false := by
  intro x hx hsource hkind
  obtain ⟨y, -, rfl⟩ := List.mem_map.mp hx
  by_cases hkey : y.hasKey src kind = true
  · simp [hkey]
  · rw [if_neg hkey] at hsource hkind
    exact absurd (y.hasKey_iff.mpr ⟨hsource, hkind⟩) hkey

/-- With no destination known and room in the queue, what is raised stands behind what was. -/
theorem State.raiseNotice_notices (n : Notice) (s : State) (dest : s.mga.destination = none) (room : s.mga.notices.length < 32) :
    ∃ more, (s.raiseNotice n).mga.notices = s.mga.notices ++ more ∧ more.length ≤ 1 := by
  rw [raiseNotice_mga s n dest]
  split
  · exact ⟨_, Agent.queueNotice_notices _ _ room, le_refl _⟩
  · exact ⟨[], (List.append_nil _).symm, Nat.zero_le _⟩

theorem State.raiseFault_notices (src : FaultSource) (kind : FaultKind) (s : State) (dest : s.mga.destination = none) (room : s.mga.notices.length < 32) :
    ∃ more, (s.raiseFault src kind).mga.notices = s.mga.notices ++ more ∧ more.length ≤ 1 := by
  have hraise : (s.mga.raise src kind none s.uptime).1.notices = s.mga.notices := by simp
  rcases s.raiseFault_eq src kind none with h | ⟨n, h⟩ <;> rw [h]
  · exact ⟨[], hraise.trans (List.append_nil _).symm, Nat.zero_le _⟩
  · obtain ⟨more, hmore, hlen⟩ := State.raiseNotice_notices n { s with mga := (s.mga.raise src kind none s.uptime).1 } (by simpa using dest)
      (by simpa using room)
    exact ⟨more, hmore.trans (congrArg (· ++ more) hraise), hlen⟩

/-! ## The craft frame that is cut off (R25, R168) -/

/-- A craft frame that ends: nothing is in reception any more, and it is counted for its link, or handed over to the agent (R25). -/
structure CraftFrameEnds (r : Reception) (length : Nat) (good : Bool) (payload : List Octet) (s t : State) : Prop where
  reception : t.reception .craft = none
  awaited : t.fcl.cuts = s.fcl.cuts ∧ t.fcl.staleHeader = s.fcl.staleHeader
  bad : length < 64 ∨ 1664 < length → t.fcl.craftDrops = { s.fcl.craftDrops with length := plusOne s.fcl.craftDrops.length }
  badFcs : ¬(length < 64 ∨ 1664 < length) → good = false → t.fcl.craftDrops = { s.fcl.craftDrops with fcs := plusOne s.fcl.craftDrops.fcs }
  failed : (length < 64 ∨ 1664 < length) ∨ good = false → t.mga = s.mga
  stored : ∀ h, ¬(length < 64 ∨ 1664 < length) → good = true → r.dropped = none → r.header = some h →
    t.mga.craftStore = some ⟨.craft, h.source, 0, h.ethertype, payload⟩ ∧ t.fcl.craftDrops = s.fcl.craftDrops
  agent : ∃ store, t.mga = { s.mga with craftStore := store }
  sends : ∃ more, t.mail = s.mail ++ more

theorem State.callTakeIn_sends (s : State) : ∃ more, s.callTakeIn.mail = s.mail ++ more := by
  unfold callTakeIn
  split
  · exact ⟨_, rfl⟩
  · exact ⟨[], (List.append_nil _).symm⟩

/-- The hit of a craft frame is counted in the banks, and nowhere else (R31). -/
theorem State.countHits_fcl (r : Reception) (s : State) :
    (s.countHits r).fcl.cuts = s.fcl.cuts ∧ (s.countHits r).fcl.staleHeader = s.fcl.staleHeader ∧ (s.countHits r).fcl.craftDrops = s.fcl.craftDrops := by
  unfold countHits
  split <;> exact ⟨rfl, rfl, rfl⟩

theorem State.endFrame_craft (hr : s.reception .craft = some r) (length : Nat) (good : Bool) (payload : List Octet) :
    CraftFrameEnds r length good payload s (s.endFrame .craft length good payload) := by
  rw [endFrame_eq hr]
  by_cases hlength : length < 64 ∨ 1664 < length
  · rw [if_pos hlength]
    exact ⟨rfl, ⟨rfl, rfl⟩, fun _ => rfl, fun h => absurd hlength h, fun _ => rfl, fun _ h => absurd hlength h, ⟨_, rfl⟩, [], (List.append_nil _).symm⟩
  · rw [if_neg hlength]
    cases good with
    | false =>
      exact ⟨rfl, ⟨rfl, rfl⟩, fun h => absurd h hlength, fun _ _ => rfl, fun _ => rfl, fun _ _ h => absurd h Bool.false_ne_true, ⟨_, rfl⟩, [],
        (List.append_nil _).symm⟩
    | true =>
      rw [if_pos rfl]
      let v : State := (s.setReception .craft none).countHits r
      obtain ⟨hcuts, hstale, hdrops⟩ := (s.setReception .craft none).countHits_fcl r
      have hreception : v.reception .craft = none :=
        (((s.setReception .craft none).countHits_only r).2 .craft).trans (reception_setReception_self _ _ _)
      have hmga : v.mga = s.mga := ((s.setReception .craft none).countHits_only r).1 .mga (by decide)
      have hmail : v.mail = s.mail := ((s.setReception .craft none).countHits_only r).1 .mail (by decide)
      have hnot : (length < 64 ∨ 1664 < length) ∨ true = false → False := fun h => h.elim hlength nofun
      have hends (t : State) (hfcl : t.fcl.cuts = v.fcl.cuts ∧ t.fcl.staleHeader = v.fcl.staleHeader ∧ t.reception .craft = v.reception .craft)
          (hstored : ∀ h, r.dropped = none → r.header = some h →
            t.mga.craftStore = some ⟨.craft, h.source, 0, h.ethertype, payload⟩ ∧ t.fcl.craftDrops = v.fcl.craftDrops)
          (hagent : ∃ store, t.mga = { v.mga with craftStore := store }) (hsends : ∃ more, t.mail = v.mail ++ more) :
          CraftFrameEnds r length true payload s t := by
        obtain ⟨hc, hst, hrec⟩ := hfcl
        refine ⟨hrec.trans hreception, ⟨hc.trans hcuts, hst.trans hstale⟩, fun h => absurd h hlength, fun _ h => absurd h.symm Bool.false_ne_true,
          fun h => (hnot h).elim, fun h _ _ hd hh => ?_, hmga ▸ hagent, hmail ▸ hsends⟩
        obtain ⟨hstore, hsame⟩ := hstored h hd hh
        exact ⟨hstore, hsame.trans hdrops⟩
      cases hd : r.dropped with
      | some why =>
        have hend : (s.setReception .craft none).endGood .craft length payload r = v.countDrop .craft why r := by simp [endGood, receivedGood, hd, v]
        have hdrop : ∃ d, v.countDrop .craft why r = { v with fcl := { v.fcl with craftDrops := d } } := by cases why <;> exact ⟨_, rfl⟩
        obtain ⟨d, hdrop⟩ := hdrop
        rw [hend, hdrop]
        exact hends _ ⟨rfl, rfl, rfl⟩ (fun h hno => absurd (hd.symm.trans hno) nofun) ⟨_, rfl⟩ ⟨[], (List.append_nil _).symm⟩
      | none =>
        cases hh : r.header with
        | none =>
          have hend : (s.setReception .craft none).endGood .craft length payload r = v := by
            simp [endGood, receivedGood, hd, handOnFrame, hh, returnCells, sourceArea, v]
          rw [hend]
          exact hends v ⟨rfl, rfl, rfl⟩ (fun h _ hsome => absurd (hh.symm.trans hsome) nofun) ⟨_, rfl⟩ ⟨[], (List.append_nil _).symm⟩
        | some h =>
          have hend : (s.setReception .craft none).endGood .craft length payload r = v.handOver (agentFrameOf .craft 0 h payload) := by
            simp [endGood, receivedGood, hd, handOnFrame, hh, v]
          obtain ⟨honly, -, -, hstored⟩ := v.handOver_spec (agentFrameOf .craft 0 h payload)
          have hfcl : (v.handOver (agentFrameOf .craft 0 h payload)).fcl = v.fcl := honly .fcl (by decide)
          rw [hend]
          refine hends _ ⟨by rw [hfcl], by rw [hfcl], congrArg Classifier.rxCraft hfcl⟩ (fun k _ hk => ?_) ⟨_, (hstored rfl).1⟩ (callTakeIn_sends _)
          obtain rfl : h = k := Option.some.inj (hh.symm.trans hk)
          exact ⟨by rw [(hstored rfl).1]; rfl, by rw [hfcl]⟩

/-- A craft frame in reception that is cut off ends by what had arrived of it, a free value (R168, log 47). -/
theorem State.cutCraftFrame_spec (hr : s.reception .craft = some r) :
    CraftFrameEnds r (Config.cutLength s.fcl.cuts) (Config.cutFcsGood s.fcl.cuts) (Config.cutPayload s.fcl.cuts)
      { s with fcl := { s.fcl with staleHeader := r.header == none, cuts := s.fcl.cuts + 1 } } s.cutCraftFrame := by
  have howed : s.fcl.headerOwed = (r.header == none) := by
    unfold Classifier.headerOwed
    rw [show s.fcl.rxCraft = some r from hr]
    cases hh : r.header <;> simp [hh]
  have hcut : s.cutCraftFrame = ({ s with fcl := { s.fcl with staleHeader := r.header == none, cuts := s.fcl.cuts + 1 } } : State).endFrame .craft
      (Config.cutLength s.fcl.cuts) (Config.cutFcsGood s.fcl.cuts) (Config.cutPayload s.fcl.cuts) := by
    rw [← howed]
    exact if_pos (by rw [hr]; rfl)
  rw [hcut]
  exact State.endFrame_craft (s := { s with fcl := { s.fcl with staleHeader := r.header == none, cuts := s.fcl.cuts + 1 } }) hr _ _ _

theorem State.cutCraftFrame_none (h : s.reception .craft = none) : s.cutCraftFrame = s := if_neg (by simp [h])

/-! ## The craft port's power (R168) -/

/-- The craft port's power as R168 judges it. -/
def State.craftPower (s : State) : Bool := s.csu.stage != some .conserve || s.doorOpen || s.csu.craftHold.isSome

/-- The craft port's power switched. -/
def State.switchCraft (on : Bool) (s : State) : State := { s with csu := { s.csu with craftPowered := on } }

theorem State.judgeCraftPower_stays (h : s.craftPower = s.csu.craftPowered) : s.judgeCraftPower = s := if_pos h

theorem State.judgeCraftPower_on (h : s.csu.craftPowered = false) (on : s.craftPower = true) : s.judgeCraftPower = (s.switchCraft true).craftChoice := by
  have hne : ¬s.craftPower = s.csu.craftPowered := by simp [h, on]
  refine (if_neg hne).trans ((if_pos on).trans ?_)
  rw [switchCraft, ← on]
  rfl

theorem State.judgeCraftPower_off (h : s.csu.craftPowered = true) (off : s.craftPower = false) :
    s.judgeCraftPower = (s.switchCraft false).discardCraft.cutCraftFrame := by
  have hne : ¬s.craftPower = s.csu.craftPowered := by simp [h, off]
  refine (if_neg hne).trans ((if_neg (ne_true_of_eq_false off)).trans ?_)
  rw [switchCraft, ← off]
  rfl

theorem State.offeredAgain_sends (ds : List Descriptor) (s : State) :
    (s.offeredAgain ds).mga.craftStore = s.mga.craftStore ∧ ∃ more, (s.offeredAgain ds).mail = s.mail ++ more := by
  let v := if ds.any Descriptor.answersReset then s.endResetWait else s
  have hv : v.mga.craftStore = s.mga.craftStore ∧ ∃ more, v.mail = s.mail ++ more := by
    by_cases h : ds.any Descriptor.answersReset = true
    · rw [show v = s.endResetWait from if_pos h]
      exact ⟨rfl, _, rfl⟩
    · rw [show v = s from if_neg h]
      exact ⟨rfl, [], (List.append_nil _).symm⟩
  obtain ⟨hstore, more, hmail⟩ := hv
  show (match v.mga.exec with | .reporting r => if r.offeredAt.isSome then v.post .reportPlacement else v | _ => v).mga.craftStore = _ ∧
    ∃ more, (match v.mga.exec with | .reporting r => if r.offeredAt.isSome then v.post .reportPlacement else v | _ => v).mail = _ ++ more
  split
  · split
    · exact ⟨hstore, more ++ [.reportPlacement], by rw [post_mail, hmail, List.append_assoc]⟩
    · exact ⟨hstore, more, hmail⟩
  · exact ⟨hstore, more, hmail⟩

/-- The discard of CQ leaves the agent's frames, and with no destination known its notices. -/
theorem State.discardCraft_mga (s : State) : s.discardCraft.mga.craftStore = s.mga.craftStore ∧ (∃ more, s.discardCraft.mail = s.mail ++ more) ∧
    s.discardCraft.mga.destination = s.mga.destination ∧ (s.mga.destination = none → s.discardCraft.mga.notices = s.mga.notices) := by
  have hafter (ds : List Descriptor) (v : State) : (v.afterAgentFrames ds).mga.craftStore = v.mga.craftStore ∧
      (∃ more, (v.afterAgentFrames ds).mail = v.mail ++ more) ∧ (v.afterAgentFrames ds).mga.destination = v.mga.destination ∧ (v.mga.destination = none → (v.afterAgentFrames ds).mga.notices = v.mga.notices) := by
    have hquiet (w : State) (h : w.mga.destination = none) : w.tryNoticeFrame = w := by
      unfold tryNoticeFrame
      rw [h]
    obtain ⟨-, hnotices, hdest, -⟩ := v.offeredAgain_spec ds
    obtain ⟨hstore, hsends⟩ := v.offeredAgain_sends ds
    rw [afterAgentFrames_eq]
    exact ⟨by simpa using hstore, by simpa using hsends, by simpa using hdest, fun hd => by rw [hquiet _ (hdest.trans hd), hnotices]⟩
  unfold discardCraft
  dsimp only
  split
  · exact ⟨rfl, ⟨[], (List.append_nil _).symm⟩, rfl, fun _ => rfl⟩
  · exact hafter _ _

/-- What judging the craft port's power leaves (R168). -/
theorem State.judgeCraftPower_spec (s : State) :
    s.judgeCraftPower.csu = { s.csu with craftPowered := s.craftPower } ∧
      (s.csu.craftPowered = true → s.craftPower = false → s.judgeCraftPower.cbm.cq = [] ∧ s.judgeCraftPower.reception .craft = none) ∧
      (s.craftPower = true ∨ s.reception .craft = none → s.judgeCraftPower.fcl = s.fcl) ∧
      s.judgeCraftPower.mga.faults = s.mga.faults ∧ (∃ more, s.judgeCraftPower.mail = s.mail ++ more) ∧
      (s.mga.destination = none → s.judgeCraftPower.mga.notices = s.mga.notices ∧ s.judgeCraftPower.mga.destination = none) ∧
      OnlyIn [.csu, .cbm, .txs, .mga, .mail, .fcl] s s.judgeCraftPower := by
  have honly : OnlyIn [.csu, .cbm, .txs, .mga, .mail, .fcl] s s.judgeCraftPower := fun part hp => by cases part <;> simp_all [Part.Same]
  by_cases hsame : s.craftPower = s.csu.craftPowered
  · rw [judgeCraftPower_stays hsame, hsame] at *
    exact ⟨rfl, fun h h' => absurd (h.symm.trans h') nofun, fun _ => rfl, rfl, ⟨[], (List.append_nil _).symm⟩, fun hd => ⟨rfl, hd⟩, honly⟩
  · cases hpower : s.craftPower with
    | true =>
      have hwas : s.csu.craftPowered = false := by simpa [hpower] using hsame
      obtain ⟨hchoice, -⟩ := (s.switchCraft true).craftChoice_spec
      rw [judgeCraftPower_on hwas hpower] at *
      have hmga : (s.switchCraft true).craftChoice.mga = s.mga := hchoice .mga (by decide)
      exact ⟨hchoice .csu (by decide), fun _ h => absurd h.symm Bool.false_ne_true, fun _ => hchoice .fcl (by decide), by rw [hmga],
        ⟨[], (hchoice .mail (by decide)).trans (List.append_nil _).symm⟩, fun hd => by rw [hmga]; exact ⟨rfl, hd⟩, honly⟩
    | false =>
      have hwas : s.csu.craftPowered = true := by simpa [hpower] using hsame
      let v : State := (s.switchCraft false).discardCraft
      obtain ⟨hcq, -, -, -, -, -, -, -, hv⟩ := (s.switchCraft false).discardCraft_spec
      obtain ⟨-, ⟨more, hmail⟩, hdest, hnotices⟩ := (s.switchCraft false).discardCraft_mga
      have hfcl : v.fcl = s.fcl := hv .fcl (by decide)
      have hcsu : v.csu = { s.csu with craftPowered := false } := hv .csu (by decide)
      have hfaults : v.mga.faults = s.mga.faults := by simp [v, switchCraft]
      rw [judgeCraftPower_off hwas hpower] at *
      cases hr : s.reception .craft with
      | none =>
        have hno : v.reception .craft = none := (congrArg Classifier.rxCraft hfcl).trans hr
        rw [show (s.switchCraft false).discardCraft.cutCraftFrame = v from cutCraftFrame_none hno] at *
        exact ⟨hcsu, fun _ _ => ⟨hcq, hno⟩, fun _ => hfcl, hfaults, ⟨more, hmail⟩, fun hd => ⟨hnotices hd, hdest.trans hd⟩, honly⟩
      | some r =>
        have hrv : v.reception .craft = some r := (congrArg Classifier.rxCraft hfcl).trans hr
        obtain ⟨hends, -, -, -, -, -, ⟨store, hmga⟩, more', hmore⟩ := cutCraftFrame_spec hrv
        refine ⟨(show v.cutCraftFrame.csu = v.csu by simp).trans hcsu, fun _ _ => ⟨(congrArg Buffer.cq (show v.cutCraftFrame.cbm = v.cbm by simp)).trans hcq, hends⟩, fun h => absurd h (by simp), ?_, ⟨more ++ more', ?_⟩, fun hd => ?_, honly⟩
        · rw [hmga]
          exact hfaults
        · rw [hmore, ← List.append_assoc]
          exact congrArg (· ++ more') hmail
        · rw [hmga]
          exact ⟨hnotices hd, hdest.trans hd⟩

/-! ## O55 -/

theorem decideStage_eq (before : Option Stage) (mains : Bool) (v e c : Nat) :
    decideStage before mains v e c =
      if mains = true then .mains
      else if (if before = some .economy ∨ before = some .conserve then e + 20 else e) ≤ v then .normal
      else if (if before = some .conserve then c + 20 else c) ≤ v then .economy else .conserve := by
  unfold decideStage
  cases mains with
  | true => rfl
  | false => rcases before with _ | (_ | _ | _ | _) <;> rfl

/-- A change of stage (R167, R168). -/
theorem State.changeStage_spec (st : Stage) (mains : Bool) (v : Nat) (s : State) (hnew : s.csu.stage ≠ some st) :
    let t := s.changeStage st mains v
    let powered : Bool := st != .conserve || s.doorOpen || s.csu.craftHold.isSome
    t.csu = { s.csu with stage := some st, craftPowered := powered } ∧ Instr.evaluation ∈ t.mail ∧
      (s.csu.craftPowered = true → powered = false → t.cbm.cq = [] ∧ t.reception .craft = none) ∧
      (powered = true ∨ s.reception .craft = none → t.fcl = s.fcl) ∧
      (s.noticeEnabled .stageChange = true → s.mga.destination = none → s.mga.notices.length ≤ 30 →
        ∃ n ∈ t.mga.notices, n.notice = .stageChange s.csu.stage st mains v) ∧
      (st = .conserve → s.mga.faults.length < 24 → Stands t.mga.faults .cabinet .supplyConserve) ∧
      (s.csu.stage = some .conserve → ∀ f ∈ t.mga.faults, f.source = .cabinet → f.kind = .supplyConserve → f.active = false) ∧
      OnlyIn [.csu, .mga, .cbm, .txs, .mail, .fcl] s t := by
  intro t powered
  let u : State := { s with csu := { s.csu with stage := some st } }
  let n : Notice := .stageChange s.csu.stage st mains v
  let w : State := u.raiseNotice n
  let x : State :=
    if st = .conserve then w.raiseFault .cabinet .supplyConserve
    else if s.csu.stage = some .conserve then w.clearFault .cabinet .supplyConserve else w
  have ht : t = (x.post .evaluation).judgeCraftPower := rfl
  have hw : OnlyIn [.mga, .cbm, .txs] u w ∧ w.mga.faults = s.mga.faults ∧ w.mga.destination = s.mga.destination := by
    refine ⟨fun part hp => by cases part <;> simp_all [Part.Same, w], by simp [w, u], by simp [w, u]⟩
  obtain ⟨hwonly, hwfaults, hwdest⟩ := hw
  have hx : OnlyIn [.mga, .cbm, .txs] w x ∧ x.mga.destination = w.mga.destination := by
    by_cases hst : st = .conserve
    · rw [show x = w.raiseFault .cabinet .supplyConserve from if_pos hst]
      exact ⟨fun part hp => by cases part <;> simp_all [Part.Same], by simp⟩
    · rw [show x = if s.csu.stage = some .conserve then w.clearFault .cabinet .supplyConserve else w from if_neg hst]
      split
      · exact ⟨fun part hp => by cases part <;> simp_all [Part.Same], rfl⟩
      · exact ⟨.refl _ _, rfl⟩
  obtain ⟨hxonly, hxdest⟩ := hx
  have hux : OnlyIn [.mga, .cbm, .txs] u x := hwonly.trans hxonly
  have hcsu : x.csu = { s.csu with stage := some st } := hux .csu (by decide)
  have hfcl : x.fcl = s.fcl := hux .fcl (by decide)
  have hpower : (x.post .evaluation).craftPower = powered := by
    have hdoor : x.doorOpen = s.doorOpen := by
      unfold doorOpen
      rw [hcsu, hux .settings (by decide)]
    show (x.csu.stage != some .conserve || x.doorOpen || x.csu.craftHold.isSome) = powered
    rw [hdoor, hcsu]
    cases st <;> rfl
  obtain ⟨hjudged, hlost, hkept, hfaults, ⟨more, hmail⟩, hnotices, honly⟩ := (x.post .evaluation).judgeCraftPower_spec
  rw [hpower] at hjudged hlost hkept
  rw [ht]
  refine ⟨hjudged.trans (by rw [post_csu, hcsu]), ?_, fun hwas hoff => hlost (by rw [post_csu, hcsu]; exact hwas) hoff, fun h => ?_, fun henabled hdest hroom => ?_,
    fun hst hroom => ?_, fun hbefore => ?_, ?_⟩
  · rw [hmail]
    simp
  · exact (hkept (h.imp_right fun hr => (congrArg Classifier.rxCraft hfcl).trans hr)).trans hfcl
  · have hin : (⟨n, u.uptime⟩ : NoticeItem) ∈ w.mga.notices := u.mem_raiseNotice n henabled hdest (Nat.lt_succ_of_le (hroom.trans (by decide)))
    have hlen : w.mga.notices.length < 32 :=
      lt_of_le_of_lt (u.length_raiseNotice n hdest (Nat.lt_succ_of_le (hroom.trans (by decide)))) (Nat.lt_of_le_of_lt (Nat.succ_le_succ hroom) (by decide))
    have hinx : (⟨n, u.uptime⟩ : NoticeItem) ∈ x.mga.notices := by
      by_cases hst : st = .conserve
      · obtain ⟨late, hlate, -⟩ := w.raiseFault_notices .cabinet .supplyConserve (hwdest.trans hdest) hlen
        rw [show x = w.raiseFault .cabinet .supplyConserve from if_pos hst, hlate]
        exact List.mem_append_left _ hin
      · rw [show x = if s.csu.stage = some .conserve then w.clearFault .cabinet .supplyConserve else w from if_neg hst]
        split <;> exact hin
    refine ⟨⟨n, u.uptime⟩, ?_, rfl⟩
    rw [(hnotices (hxdest.trans (hwdest.trans hdest))).1]
    exact hinx
  · have hstands := w.raiseFault_records .cabinet .supplyConserve (by rw [hwfaults]; exact hroom) nofun
    rw [hfaults]
    rw [show x = w.raiseFault .cabinet .supplyConserve from if_pos hst]
    exact hstands
  · have hst : st ≠ .conserve := fun h => hnew (by rw [hbefore, h])
    rw [hfaults]
    rw [show x = w.clearFault .cabinet .supplyConserve from (if_neg hst).trans (if_pos hbefore)]
    exact w.clearFault_inactive _ _
  · have hu : OnlyIn [.csu] s u := fun part hp => by cases part <;> simp_all [Part.Same, u]
    exact (hu.mono (by decide)).trans ((hux.mono (by decide)).trans (((post_only _ _).mono (by decide)).trans (honly.mono (by decide))))

/-- Settles O55. -/
theorem supplySamplesDecideTheStage : Obligations.SupplySamplesDecideTheStage := by
  intro mains battery s
  let u : State := { s.reach s.csu.supplyDue with
    csu := { s.csu with mainsPresent := some mains, battery := some (min 9999 battery), supplyDue := max s.now s.csu.supplyDue + 1000000 } }
  let st : Stage := decideStage s.csu.stage mains (min 9999 battery) s.settings.economyThreshold s.settings.conserveThreshold
  have hst := decideStage_eq s.csu.stage mains (min 9999 battery) s.settings.economyThreshold s.settings.conserveThreshold
  have hu : OnlyIn [.now, .csu] s u := fun part hp => by cases part <;> simp_all [Part.Same, u]
  have hexec : exec (.supplySample mains battery) s = if s.csu.stage = some st then .next u else .next (u.changeStage st mains (min 9999 battery)) := rfl
  by_cases hsame : s.csu.stage = some st
  · refine ⟨u, hexec.trans (if_pos hsame), rfl, ?_, hu.mono (by decide)⟩
    intro v e c economyUp conserveUp stage powered read
    have hstage : stage = st := hst.symm
    rw [hstage]
    exact ⟨fun _ => ⟨rfl, hu⟩, fun h => absurd hsame h⟩
  · obtain ⟨hcsu, hmail, hlost, hkept, hnotices, hstands, hclears, honly⟩ := u.changeStage_spec st mains (min 9999 battery) hsame
    have hnow : (u.changeStage st mains (min 9999 battery)).now = max s.now s.csu.supplyDue := honly .now (by decide)
    refine ⟨u.changeStage st mains (min 9999 battery), hexec.trans (if_neg hsame), hnow, ?_, (hu.mono (by decide)).trans (honly.mono (by decide))⟩
    intro v e c economyUp conserveUp stage powered read
    have hstage : stage = st := hst.symm
    rw [hstage]
    refine ⟨fun h => absurd h hsame, fun _ => ⟨?_, hmail, ?_, ?_, hnotices, hstands, hclears⟩⟩
    · rw [hcsu]
      simp only [read, powered, hnow, hstage]
      rfl
    · simp only [powered, hstage]
      exact hlost
    · simp only [powered, hstage]
      exact hkept

end Sys2Proof.Machine
end

section
/-! The obligation on contacts and the craft hold: O53 (09). -/

namespace Sys2Proof.Machine

variable {s t u : State} {k : Contact} {level : Bool} {c : ContactRecord}

/-! ## One contact's sample (R157, R158) -/

/-- A contact that has a level changes it: two equal samples differ from it (R157). -/
def ContactRecord.changes (level : Bool) (c : ContactRecord) : Prop := (∃ d, c.debounced = some d ∧ d ≠ level) ∧ c.lastSample = some level

/-- A contact's record after a sample (R157, R158). -/
def ContactRecord.after (level : Bool) (c : ContactRecord) : ContactRecord :=
  if c.lastSample = some level then
    match c.debounced with
    | none => { c with debounced := some level, lastReported := some level }
    | some d =>
      if d ≠ level then { c with debounced := some level, lastReported := if c.noticeEnable then some level else c.lastReported } else c
  else { c with lastSample := some level }

theorem ContactRecord.after_of_changes (h : c.changes level) :
    c.after level = { c with debounced := some level, lastReported := if c.noticeEnable then some level else c.lastReported } := by
  obtain ⟨⟨d, hd, hne⟩, hlast⟩ := h
  simp [after, hd, hlast, hne]

/-- The same with the sample written in. -/
theorem ContactRecord.after_of_accepted (h : c.changes level) :
    c.after level =
      { c with
        lastSample := some level, debounced := some level, lastReported := if c.noticeEnable then some level else c.lastReported } := by
  obtain ⟨⟨d, hd, hne⟩, hlast⟩ := h
  simp [after, hd, hlast, hne]

theorem ContactRecord.after_of_decided (hlast : c.lastSample = some level) (h : c.debounced = none) :
    c.after level = { c with debounced := some level, lastReported := some level } := by simp [after, hlast, h]

theorem ContactRecord.after_of_quiet (h : c.lastSample ≠ some level ∨ c.debounced = some level) : c.after level = { c with lastSample := some level } := by
  by_cases hlast : c.lastSample = some level
  · have hd := h.resolve_left fun hno => hno hlast
    have hsame : c.after level = c := by simp [after, hlast, hd]
    rw [hsame, ← hlast]
  · simp [after, hlast]

/-- What a sample of one contact leaves. -/
structure Samples (k : Contact) (level : Bool) (s t : State) : Prop where
  record : t.csu.contacts = s.csu.contacts.set k ((s.csu.contacts.get k).after level)
  hold : (s.csu.contacts.get k).changes level → (s.csu.contacts.get k).craftWake = true →
    t.csu.craftHold = some (s.now + sec (60 * s.settings.craftHoldTime))
  noHold : ((s.csu.contacts.get k).changes level → (s.csu.contacts.get k).craftWake = false) → t.csu.craftHold = s.csu.craftHold
  notices : s.mga.destination = none → s.mga.notices.length < 32 → t.mga.destination = none ∧
    ∃ more, t.mga.notices = s.mga.notices ++ more ∧ more.length ≤ 1 ∧
      ((s.csu.contacts.get k).changes level → (s.csu.contacts.get k).noticeEnable = true → s.noticeEnabled .contactChange = true →
        ∃ n ∈ more, n.notice = .contactChange k level (s.csu.contacts.get k).lastReported)
  within : OnlyIn [.csu, .mga, .cbm, .txs, .mail, .fcl] s t

/-- A judgement of the craft port's power after the rest of a sample. -/
theorem Samples.judged (h : Samples k level s t) : Samples k level s t.judgeCraftPower := by
  obtain ⟨hcsu, -, -, -, -, hnotices, honly⟩ := t.judgeCraftPower_spec
  refine ⟨by rw [hcsu]; exact h.record, fun hc hw => by rw [hcsu]; exact h.hold hc hw, fun hn => by rw [hcsu]; exact h.noHold hn, fun hd hroom => ?_,
    h.within.trans (honly.mono (by decide))⟩
  obtain ⟨hdest, hmore⟩ := h.notices hd hroom
  obtain ⟨hsame, hdest'⟩ := hnotices hdest
  exact ⟨hdest', hsame ▸ hmore⟩

theorem State.setContact_only (k : Contact) (c : ContactRecord) (s : State) : OnlyIn [.csu] s (s.setContact k c) := fun part hp => by
  cases part <;> simp_all [Part.Same, setContact]

/-- A sample that changes no level: the record alone. -/
theorem Samples.of_record (h : ¬(s.csu.contacts.get k).changes level) :
    Samples k level s (s.setContact k ((s.csu.contacts.get k).after level)) where
  record := rfl
  hold := fun hc => absurd hc h
  noHold := fun _ => rfl
  notices := fun hd _ => ⟨hd, [], (List.append_nil _).symm, Nat.zero_le _, fun hc => absurd hc h⟩
  within := (s.setContact_only k _).mono (by decide)

/-- An accepted change before the craft port's power is judged (R158). -/
theorem Samples.of_change (h : (s.csu.contacts.get k).changes level) : Samples k level s (s.acceptContact k level { s.csu.contacts.get k with lastSample := some level }) := by
  let c : ContactRecord := { s.csu.contacts.get k with lastSample := some level, debounced := some level }
  have hafter := ContactRecord.after_of_accepted h
  let v : State := if c.noticeEnable then s.reportContact k level c else s.setContact k c
  let w : State := if c.craftWake then v.startCraftHold else v
  have hv : v.csu = { s.csu with contacts := s.csu.contacts.set k ((s.csu.contacts.get k).after level) } ∧
      OnlyIn [.csu, .mga, .cbm, .txs] s v ∧ (s.mga.destination = none → s.mga.notices.length < 32 → v.mga.destination = none ∧
        ∃ more, v.mga.notices = s.mga.notices ++ more ∧ more.length ≤ 1 ∧
          (c.noticeEnable = true → s.noticeEnabled .contactChange = true →
            ∃ n ∈ more, n.notice = .contactChange k level (s.csu.contacts.get k).lastReported)) := by
    by_cases hnotice : c.noticeEnable = true
    · let x : State := s.setContact k { c with lastReported := some level }
      let n : Notice := .contactChange k level (s.csu.contacts.get k).lastReported
      have hveq : v = x.raiseNotice n := if_pos hnotice
      have hx : x.csu = { s.csu with contacts := s.csu.contacts.set k ((s.csu.contacts.get k).after level) } := by
        rw [hafter, if_pos (show (s.csu.contacts.get k).noticeEnable = true from hnotice)]
        rfl
      have hxonly : OnlyIn [.csu, .mga, .cbm, .txs] x (x.raiseNotice n) := fun part hp => by cases part <;> simp_all [Part.Same]
      rw [hveq]
      refine ⟨(show (x.raiseNotice n).csu = x.csu by simp).trans hx, ((s.setContact_only k _).mono (by decide)).trans hxonly, fun hd hroom => ⟨(show (x.raiseNotice n).mga.destination = x.mga.destination by simp).trans hd, ?_⟩⟩
      obtain ⟨more, hmore, hlen⟩ := State.raiseNotice_notices n x hd hroom
      refine ⟨more, hmore, hlen, fun _ henabled => ⟨⟨n, x.uptime⟩, ?_, rfl⟩⟩
      rw [State.raiseNotice_mga x n hd, if_pos (show x.noticeEnabled n.kind = true from henabled), Agent.queueNotice_notices _ x.mga hroom] at hmore
      rw [← List.append_cancel_left hmore]
      exact .head _
    · have hveq : v = s.setContact k c := if_neg hnotice
      have hoff : (s.csu.contacts.get k).noticeEnable = false := by simpa using hnotice
      rw [hveq]
      refine ⟨?_, (s.setContact_only k c).mono (by decide), fun hd _ => ⟨hd, [], (List.append_nil _).symm, Nat.zero_le _, fun h => absurd h hnotice⟩⟩
      rw [hafter, if_neg (by simp [hoff])]
      rfl
  obtain ⟨hcsu, honly, hnotices⟩ := hv
  have hw : OnlyIn [.csu, .mga, .cbm, .txs] s w ∧ w.mga = v.mga ∧ w.csu.contacts = v.csu.contacts ∧
      w.csu.craftHold = if c.craftWake then some (s.now + sec (60 * s.settings.craftHoldTime)) else s.csu.craftHold := by
    by_cases hwake : c.craftWake = true
    · have hweq : w = v.startCraftHold := if_pos hwake
      have hstart : OnlyIn [.csu] v v.startCraftHold := fun part hp => by cases part <;> simp_all [Part.Same, State.startCraftHold]
      rw [hweq, if_pos hwake]
      refine ⟨honly.trans (hstart.mono (by decide)), rfl, rfl, ?_⟩
      rw [← honly .now (by decide), ← honly .settings (by decide)]
      rfl
    · have hweq : w = v := if_neg hwake
      rw [hweq, if_neg hwake]
      exact ⟨honly, rfl, rfl, by rw [hcsu]⟩
  obtain ⟨hwonly, hwmga, hwcontacts, hwhold⟩ := hw
  have hjudge : Samples k level s w :=
    { record := by rw [hwcontacts, hcsu]
      hold := fun _ hwake => hwhold.trans (if_pos hwake)
      noHold := fun hn => hwhold.trans (if_neg (by rw [show c.craftWake = false from hn h]; exact Bool.false_ne_true))
      notices := fun hd hroom => by
        rw [hwmga]
        obtain ⟨hdest, more, hmore, hlen, hin⟩ := hnotices hd hroom
        exact ⟨hdest, more, hmore, hlen, fun _ => hin⟩
      within := hwonly.mono (by decide) }
  exact hjudge.judged

/-- A sample of one contact (R157, R158). -/
theorem State.sampleContact_spec (k : Contact) (conducts : Bool) (s : State) :
    Samples k (conducts != (s.csu.contacts.get k).inverted) s (s.sampleContact k conducts) := by
  let c : ContactRecord := s.csu.contacts.get k
  let level : Bool := conducts != c.inverted
  have hquiet (h : c.lastSample ≠ some level ∨ c.debounced = some level) : Samples k level s (s.setContact k { c with lastSample := some level }) := by
    rw [← ContactRecord.after_of_quiet h]
    exact .of_record fun ⟨⟨d, hd, hne⟩, hlast⟩ => hne (Option.some.inj (hd.symm.trans (h.resolve_left fun hno => hno hlast)))
  unfold sampleContact
  dsimp only
  split
  · next hd =>
    split
    · next hlast =>
      have hrecord := Samples.of_record (s := s) (k := k) (level := level) fun ⟨⟨d, hsome, _⟩, _⟩ => absurd (hd.symm.trans hsome) nofun
      have hafter : (s.csu.contacts.get k).after level =
          { s.csu.contacts.get k with lastSample := some level, debounced := some level, lastReported := some level } := by
        rw [ContactRecord.after_of_decided hlast hd, show (s.csu.contacts.get k).lastSample = some level from hlast]
      rw [hafter] at hrecord
      exact hrecord.judged
    · next hlast => exact hquiet (.inl hlast)
  · next d hd =>
    split
    · next h => exact Samples.of_change ⟨⟨d, hd, h.1⟩, h.2⟩
    · next h =>
      exact hquiet (by_contra fun hno => h ⟨fun hsame => hno (.inr (hd.trans (congrArg some hsame))), by_contra fun hlast => hno (.inl hlast)⟩)

/-! ## The contact poll (R157) -/

/-- What samples of several contacts leave, each of them sampled once. -/
structure Polls (ks : List Contact) (level : Contact → Bool) (s t : State) : Prop where
  others : ∀ k, k ∉ ks → t.csu.contacts.get k = s.csu.contacts.get k
  records : ∀ k ∈ ks, t.csu.contacts.get k = (s.csu.contacts.get k).after (level k)
  hold : (∃ k ∈ ks, (s.csu.contacts.get k).changes (level k) ∧ (s.csu.contacts.get k).craftWake = true) →
    t.csu.craftHold = some (s.now + sec (60 * s.settings.craftHoldTime))
  noHold : (∀ k ∈ ks, (s.csu.contacts.get k).changes (level k) → (s.csu.contacts.get k).craftWake = false) → t.csu.craftHold = s.csu.craftHold
  notices : s.mga.destination = none → s.mga.notices.length + ks.length ≤ 32 →
    ∃ more, t.mga.notices = s.mga.notices ++ more ∧
      ∀ k ∈ ks, (s.csu.contacts.get k).changes (level k) → (s.csu.contacts.get k).noticeEnable = true → s.noticeEnabled .contactChange = true →
        ∃ n ∈ more, n.notice = .contactChange k (level k) (s.csu.contacts.get k).lastReported
  within : OnlyIn [.csu, .mga, .cbm, .txs, .mail, .fcl] s t

/-- One contact more at the front. -/
theorem Polls.cons {k : Contact} {ks : List Contact} {level : Contact → Bool} (h : Samples k (level k) s t) (g : Polls ks level t u) (hk : k ∉ ks) :
    Polls (k :: ks) level s u := by
  have hsame (q : Contact) (hq : q ≠ k) : t.csu.contacts.get q = s.csu.contacts.get q := by
    rw [h.record]
    exact Row.get_set_ne _ _ hq
  have hrest (q : Contact) (hq : q ∈ ks) : t.csu.contacts.get q = s.csu.contacts.get q := hsame q fun heq => hk (heq ▸ hq)
  have hnow : t.now = s.now := h.within .now (by decide)
  have hsettings : t.settings = s.settings := h.within .settings (by decide)
  have hfull : t.now + sec (60 * t.settings.craftHoldTime) = s.now + sec (60 * s.settings.craftHoldTime) := by rw [hnow, hsettings]
  refine ⟨fun q hq => ?_, fun q hq => ?_, fun ⟨q, hq, hc, hw⟩ => ?_, fun hn => ?_, fun hd hroom => ?_, h.within.trans g.within⟩
  · obtain ⟨hne, hout⟩ := not_or.mp (List.mem_cons.not.mp hq)
    exact (g.others q hout).trans (hsame q hne)
  · rcases List.mem_cons.mp hq with rfl | hq
    · rw [g.others q hk, h.record, Row.get_set_self]
    · rw [g.records q hq, hrest q hq]
  · by_cases hlater : ∃ q ∈ ks, (t.csu.contacts.get q).changes (level q) ∧ (t.csu.contacts.get q).craftWake = true
    · exact (g.hold hlater).trans (congrArg some hfull)
    · rcases List.mem_cons.mp hq with rfl | hq
      · refine (g.noHold fun j hj hjc => ?_).trans (h.hold hc hw)
        exact Bool.eq_false_iff.mpr fun hjw => hlater ⟨j, hj, hjc, hjw⟩
      · exact absurd ⟨q, hq, by rw [hrest q hq]; exact hc, by rw [hrest q hq]; exact hw⟩ hlater
  · refine (g.noHold fun q hq hc => ?_).trans (h.noHold (hn k (.head _)))
    rw [hrest q hq] at hc ⊢
    exact hn q (.tail _ hq) hc
  · have hlen : s.mga.notices.length + ks.length + 1 ≤ 32 := by simpa [Nat.add_assoc] using hroom
    obtain ⟨hdest, more, hmore, hone, hin⟩ := h.notices hd (by omega)
    obtain ⟨more', hmore', hin'⟩ := g.notices hdest (by rw [hmore, List.length_append]; omega)
    refine ⟨more ++ more', by rw [hmore', hmore, List.append_assoc], fun q hq hc he henabled => ?_⟩
    rcases List.mem_cons.mp hq with rfl | hq
    · obtain ⟨n, hn, hnotice⟩ := hin hc he henabled
      exact ⟨n, List.mem_append_left _ hn, hnotice⟩
    · have hon : t.noticeEnabled .contactChange = true := by
        unfold State.noticeEnabled
        rw [hsettings]
        exact henabled
      obtain ⟨n, hn, hnotice⟩ := hin' q hq (by rw [hrest q hq]; exact hc) (by rw [hrest q hq]; exact he) hon
      exact ⟨n, List.mem_append_right _ hn, by rw [hnotice, hrest q hq]⟩

/-- The contacts sampled in turn (R157, log 52). -/
theorem sampleContacts_polls (conducts : Contact → Bool) (ks : List Contact) (hks : ks.Nodup) (s : State) :
    Polls ks (fun k => conducts k != (s.csu.contacts.get k).inverted) s (ks.foldl (fun s k => s.sampleContact k (conducts k)) s) := by
  induction ks generalizing s with
  | nil => exact ⟨fun _ _ => rfl, fun _ h => absurd h List.not_mem_nil, fun ⟨_, h, _⟩ => absurd h List.not_mem_nil, fun _ => rfl,
      fun _ _ => ⟨[], (List.append_nil _).symm, fun _ h => absurd h List.not_mem_nil⟩, .refl _ s⟩
  | cons k ks ih =>
    obtain ⟨hk, hrest⟩ := List.nodup_cons.mp hks
    have hsample := s.sampleContact_spec k (conducts k)
    have hpolls := ih hrest (s.sampleContact k (conducts k))
    have hsame (q : Contact) (hq : q ∈ ks) : (s.sampleContact k (conducts k)).csu.contacts.get q = s.csu.contacts.get q := by
      rw [hsample.record]
      exact Row.get_set_ne _ _ fun heq => hk (heq ▸ hq)
    refine Polls.cons hsample ⟨hpolls.others, fun q hq => ?_, fun ⟨q, hq, hc, hw⟩ => ?_, fun hn => ?_, fun hd hroom => ?_, hpolls.within⟩ hk
    · exact (hpolls.records q hq).trans (by rw [hsame q hq])
    · exact hpolls.hold ⟨q, hq, by rw [hsame q hq] at hc ⊢; exact hc, hw⟩
    · exact hpolls.noHold fun q hq hc => hn q hq (by rw [hsame q hq] at hc ⊢; exact hc)
    · obtain ⟨more, hmore, hin⟩ := hpolls.notices hd hroom
      refine ⟨more, hmore, fun q hq hc he henabled => ?_⟩
      obtain ⟨n, hn, hnotice⟩ := hin q hq (by rw [hsame q hq] at hc ⊢; exact hc) he henabled
      exact ⟨n, hn, by rw [hnotice, hsame q hq]⟩

/-- Settles O53. -/
theorem contactsAreDebounced : Obligations.ContactsAreDebounced := by
  refine ⟨fun conducts s => ?_, fun s hnone => by simp [exec, execCraftHoldExpiry, hnone], fun s e he => ?_⟩
  · let u : State := s.reach s.csu.contactDue
    obtain ⟨w, hw, hpolls⟩ : ∃ w, allContacts.foldl (fun s k => s.sampleContact k (conducts.getLsbD k.val)) u = w ∧
        Polls allContacts (fun k => conducts.getLsbD k.val != (s.csu.contacts.get k).inverted) u w :=
      ⟨_, rfl, sampleContacts_polls (fun k => conducts.getLsbD k.val) allContacts (List.nodup_finRange 8) u⟩
    have hall (k : Contact) : k ∈ allContacts := List.mem_finRange k
    have hu : OnlyIn [.now] s u := fun part hp => by cases part <;> simp_all [Part.Same, u]
    have hnow : w.now = max s.now s.csu.contactDue := hpolls.within .now (by decide)
    have hsettings : w.settings = s.settings := hpolls.within .settings (by decide)
    have hminutes : sec (60 * s.settings.craftHoldTime) = s.settings.craftHoldTime * 60000000 := by
      unfold sec
      omega
    let t : State := { w with csu := { w.csu with contactDue := w.now + ms (pollInterval w.settings.contactPoll) } }
    have hexec : exec (.contactPoll conducts) s = .next t := by
      simp only [exec, execContactPoll]
      rw [show s.reach s.csu.contactDue = u from rfl, hw]
    have ht : OnlyIn [.csu] w t := fun part hp => by cases part <;> simp_all [Part.Same, t]
    refine ⟨t, hexec, hnow, ⟨fun k hk => ?_, fun k hlast hd => ?_, fun k hk => ⟨?_, fun he henabled hdest hroom => ?_⟩, fun ⟨k, hk, hwake⟩ => ?_,
      fun hno => ?_⟩, ?_, (hu.mono (by decide)).trans ((hpolls.within.mono (by decide)).trans (ht.mono (by decide)))⟩
    · exact (hpolls.records k (hall k)).trans (ContactRecord.after_of_quiet hk)
    · exact (hpolls.records k (hall k)).trans (ContactRecord.after_of_decided hlast hd)
    · exact (hpolls.records k (hall k)).trans (ContactRecord.after_of_changes hk)
    · obtain ⟨more, hmore, hin⟩ := hpolls.notices hdest (Nat.add_le_add_right hroom 8)
      obtain ⟨n, hn, hnotice⟩ := hin k (hall k) hk he henabled
      exact ⟨n, hmore ▸ List.mem_append_right _ hn, hnotice⟩
    · refine (hpolls.hold ⟨k, hall k, hk, hwake⟩).trans ?_
      rw [show t.now = u.now from hnow, ← hminutes]
      rfl
    · exact hpolls.noHold fun k _ => hno k
    · show w.now + ms (pollInterval w.settings.contactPoll) = t.now + pollInterval s.settings.contactPoll * 1000
      rw [hsettings]
      rfl
  · let u : State := { s.reach e with csu := { s.csu with craftHold := none } }
    have hu : OnlyIn [.now, .csu] s u := fun part hp => by cases part <;> simp_all [Part.Same, u]
    have hexec : exec .craftHoldExpiry s = .next u.judgeCraftPower := by
      simp only [exec, execCraftHoldExpiry, he]
      rfl
    have hpower : u.craftPower = (s.csu.stage != some .conserve || s.doorOpen) := by
      show (s.csu.stage != some .conserve || s.doorOpen || false) = _
      rw [Bool.or_false]
    obtain ⟨hcsu, hlost, -, -, -, -, honly⟩ := u.judgeCraftPower_spec
    refine ⟨u.judgeCraftPower, hexec, honly .now (by decide), ?_, (hu.mono (by decide)).trans (honly.mono (by decide))⟩
    intro powered
    have hpowered : u.craftPower = powered := hpower
    rw [hpowered] at hcsu hlost
    refine ⟨hcsu, hlost, fun r hwas hoff hr => ?_, fun hsame => ?_⟩
    · let v : State := (u.switchCraft false).discardCraft
      have hv : v.fcl = s.fcl := by simp [v, State.switchCraft, u]
      obtain ⟨hstore, -⟩ := (u.switchCraft false).discardCraft_mga
      have hrv : v.reception .craft = some r := (congrArg Classifier.rxCraft hv).trans hr
      have hends := State.cutCraftFrame_spec hrv
      rw [hv] at hends
      obtain ⟨-, ⟨hcuts, hstale⟩, hbad, hbadFcs, hfailed, hstored, -, -⟩ := hends
      rw [State.judgeCraftPower_off (s := u) hwas (hpowered.trans hoff)]
      exact ⟨hcuts, hstale, hbad, hbadFcs, fun h => (congrArg Agent.craftStore (hfailed h)).trans hstore, hstored⟩
    · rw [State.judgeCraftPower_stays (s := u) (hpowered.trans hsame.symm)]
      exact ⟨rfl, rfl, rfl, rfl, rfl⟩

end Sys2Proof.Machine
end

section
/-! The obligation on the evaluation: O56 (09). -/

namespace Sys2Proof.Machine

variable {s t u : State} {p q : Port} {x : LoadEntry} {w : LoadWant}

/-! ## The load list (R170) -/

theorem DozeCauses.onlyShed_iff (c : DozeCauses) : c.onlyShed = true ↔ c.shed = true ∧ c.thermal = false ∧ c.idle = false := by
  simp [onlyShed, and_assoc]

/-- What a port is to the Power Budget Unit (R4, R170). -/
theorem PortRecord.load_iff (r : PortRecord) :
    (r.load = .demanding ↔ r.state = .down ∨ r.state = .training ∨ r.state = .up ∨
      (r.state = .doze ∧ r.causes.shed = true ∧ r.causes.thermal = false ∧ r.causes.idle = false)) ∧
      (r.load = .reserved ↔ r.state = .test ∧ r.returnTarget = some .down ∧ r.causes.thermal = false ∧ r.causes.idle = false) := by
  have hquiet : (r.causes.isEmpty = true ∨ r.causes.onlyShed = true) ↔ r.causes.thermal = false ∧ r.causes.idle = false := by
    rw [DozeCauses.onlyShed_iff]
    simp only [DozeCauses.isEmpty, Bool.and_eq_true, Bool.not_eq_true']
    cases r.causes.shed <;> simp
  unfold load
  cases hst : r.state with
  | doze =>
    rw [← DozeCauses.onlyShed_iff]
    cases r.causes.onlyShed <;> simp
  | test =>
    simp only [hquiet]
    constructor
    · split <;> simp
    · split <;> simp_all
  | _ => simp

theorem State.portWant_iff (p : Port) (s : State) (w : LoadWant) :
    s.portWant none p = some w ↔ w.load = .port p ∧ w.power = (s.sub p).portPower ∧ w.rank = (s.sub p).shedRank ∧
      ((w.reserved = false ∧ (s.port p).load = .demanding) ∨ (w.reserved = true ∧ (s.port p).load = .reserved)) := by
  obtain ⟨load, reserved, power, rank⟩ := w
  unfold portWant
  cases hload : (s.port p).load <;> simp [LoadWant.mk.injEq, eq_comm] <;> tauto

/-- A load that wants power, field by field (R170). -/
theorem State.mem_wants (s : State) (w : LoadWant) :
    w ∈ s.wants none ↔
      (w.load = .heater ∧ s.csu.heaterDemand = true ∧ w.reserved = false ∧ w.power = s.settings.heaterPower ∧ w.rank = s.settings.heaterRank) ∨
      (w.load = .testBus ∧ s.ptc.demand = true ∧ w.reserved = false ∧ w.power = s.settings.busPower ∧ w.rank = s.settings.busRank) ∨
      ∃ p, s.portWant none p = some w := by
  have hheater : w ∈ s.heaterWant.toList ↔
      w.load = .heater ∧ s.csu.heaterDemand = true ∧ w.reserved = false ∧ w.power = s.settings.heaterPower ∧ w.rank = s.settings.heaterRank := by
    obtain ⟨load, reserved, power, rank⟩ := w
    unfold heaterWant
    cases s.csu.heaterDemand <;> simp
  have hbus : w ∈ s.busWant.toList ↔
      w.load = .testBus ∧ s.ptc.demand = true ∧ w.reserved = false ∧ w.power = s.settings.busPower ∧ w.rank = s.settings.busRank := by
    obtain ⟨load, reserved, power, rank⟩ := w
    unfold busWant
    cases s.ptc.demand <;> simp
  unfold wants
  rw [List.mem_append, List.mem_append, hheater, hbus, List.mem_filterMap, or_assoc]
  simp [allPorts]

/-- With the ranks in their ranges every load that wants power is in the list (R170). -/
theorem State.mem_loadList_legal (legal : s.ParametersLegal) : w ∈ s.loadList none ↔ w ∈ s.wants none := by
  rw [mem_loadList]
  refine ⟨fun h => h.1, fun h => ⟨h, ?_⟩⟩
  rcases (s.mem_wants w).mp h with ⟨-, -, -, -, hrank⟩ | ⟨-, -, -, -, hrank⟩ | ⟨p, hp⟩
  · rw [hrank]
    exact legal.settings.ranks.1
  · rw [hrank]
    exact legal.settings.ranks.2
  · rw [((s.portWant_iff p w).mp hp).2.2.1]
    exact (legal.subscribers p).shedRank

/-! ## The walk (R171) -/

/-- The power that a walk admits. -/
def admittedSum (xs : List LoadEntry) : Nat := ((xs.filter fun x => x.decision == .admitted).map (·.power)).sum

theorem walkLoads_missed (ws : List LoadWant) (n : Nat) : ∀ x ∈ walkLoads ws n true, x.decision = .shed := by
  induction ws generalizing n with
  | nil => exact fun _ h => absurd h List.not_mem_nil
  | cons w ws ih =>
    intro x hx
    unfold walkLoads at hx
    rw [if_neg (by simp)] at hx
    rcases List.mem_cons.mp hx with rfl | hx
    · rfl
    · exact ih _ x hx

/-- An admission in the walk: what stands in front was admitted, and it fits what they leave (R171). -/
theorem walkLoads_admits (ws : List LoadWant) (n : Nat) (front rest : List LoadEntry) (h : walkLoads ws n false = front ++ x :: rest) :
    x.decision = .admitted ↔ (front.map (·.power)).sum + x.power ≤ n ∧ ∀ y ∈ front, y.decision = .admitted := by
  induction ws generalizing n front with
  | nil => cases front <;> simp [walkLoads] at h
  | cons w ws ih =>
    unfold walkLoads at h
    by_cases hfits : w.power ≤ n
    · rw [if_pos (by simpa using hfits)] at h
      cases front with
      | nil =>
        obtain ⟨rfl, -⟩ := List.cons.inj h
        simpa using hfits
      | cons y front =>
        obtain ⟨rfl, htail⟩ := List.cons.inj h
        rw [ih (n - w.power) front htail]
        simp only [List.map_cons, List.sum_cons, List.mem_cons, forall_eq_or_imp, true_and]
        refine and_congr_left fun _ => ?_
        omega
    · rw [if_neg (by simpa using hfits)] at h
      cases front with
      | nil =>
        obtain ⟨rfl, -⟩ := List.cons.inj h
        simpa using hfits
      | cons y front =>
        obtain ⟨rfl, htail⟩ := List.cons.inj h
        have hx : x.decision = .shed := walkLoads_missed ws n x (by rw [htail]; simp)
        simp [hx]

theorem walkLoads_sum (ws : List LoadWant) (n : Nat) (m : Bool) : admittedSum (walkLoads ws n m) ≤ n := by
  have hmissed (ws : List LoadWant) (n : Nat) : admittedSum (walkLoads ws n true) = 0 := by
    have hnone : (walkLoads ws n true).filter (fun x => x.decision == .admitted) = [] :=
      List.filter_eq_nil_iff.mpr fun x hx => by simp [walkLoads_missed ws n x hx]
    unfold admittedSum
    rw [hnone]
    rfl
  cases m with
  | true => exact (hmissed ws n).trans_le (Nat.zero_le n)
  | false =>
    induction ws generalizing n with
    | nil => exact Nat.zero_le n
    | cons w ws ih =>
      unfold walkLoads
      by_cases hfits : w.power ≤ n
      · rw [if_pos (by simpa using hfits)]
        have hrest := ih (n - w.power)
        unfold admittedSum at hrest ⊢
        simp only [List.filter_cons, beq_self_eq_true, if_true, List.map_cons, List.sum_cons]
        omega
      · rw [if_neg (by simpa using hfits)]
        refine le_trans (le_of_eq ?_) (Nat.zero_le n)
        have hrest := hmissed ws n
        unfold admittedSum at hrest ⊢
        simpa using hrest

/-! ## What is handed on (R173) -/

theorem State.addDoze_mail (p : Port) (c : DozeCause) (s : State) : ∃ more, (s.addDoze p c).mail = s.mail ++ more := by
  unfold addDoze
  dsimp only
  split
  case h_5 => split <;> [exact s.changePort_sends p _ false; exact ⟨[], (List.append_nil _).symm⟩]
  case h_6 => exact ⟨[], (List.append_nil _).symm⟩
  case h_7 => exact ⟨[], (List.append_nil _).symm⟩
  all_goals exact s.changePort_sends p _ false

theorem State.removeShed_mail (p : Port) (s : State) : ∃ more, (s.removeShed p).mail = s.mail ++ more := by
  unfold removeShed
  dsimp only
  split
  · split
    · split <;> exact s.changePort_sends p _ false
    · split <;> [exact s.changePort_sends p _ false; exact ⟨[], (List.append_nil _).symm⟩]
    · exact ⟨[], (List.append_nil _).symm⟩
  · exact ⟨[], (List.append_nil _).symm⟩

/-- The state in which a decision for a load has been recorded as the last one sent. -/
def State.recordSent (x : LoadEntry) (s : State) : State := { s with pbu := s.pbu.setSent x.load (some x.decision) }

/-- How a decision is handed on in an evaluation of the unit's own (R173). -/
theorem State.handOn_cases (x : LoadEntry) (s : State) :
    (s.pbu.sent x.load = some x.decision → s.handOn none x = s) ∧
      (s.pbu.sent x.load ≠ some x.decision →
        (∀ p, x.load = .port p → s.handOn none x =
          match x.decision with | .shed => (s.recordSent x).addDoze p .shed | .admitted => (s.recordSent x).removeShed p) ∧
        (x.load = .heater → s.handOn none x = s.recordSent x) ∧
        (x.load = .testBus → s.handOn none x =
          match x.decision with | .shed => (s.recordSent x).post .busShed | .admitted => (s.recordSent x).post .busAdmit)) := by
  unfold handOn
  refine ⟨fun h => if_pos h, fun h => ?_⟩
  rw [if_neg h]
  refine ⟨fun p hp => ?_, fun hh => ?_, fun hb => ?_⟩
  · simp only [hp, recordSent, reduceCtorEq, if_false] <;> cases x.decision <;> rfl
  · simp only [hh, recordSent]
  · simp only [hb, recordSent] <;> cases x.decision <;> rfl

/-- A decision handed on changes the record of its own port at most, and only adds messages. -/
theorem State.handOn_keeps (x : LoadEntry) (s : State) :
    (∀ q, x.load ≠ .port q → (s.handOn none x).port q = s.port q) ∧ ∃ more, (s.handOn none x).mail = s.mail ++ more := by
  obtain ⟨hsame, hnew⟩ := s.handOn_cases x
  by_cases h : s.pbu.sent x.load = some x.decision
  · rw [hsame h]
    exact ⟨fun _ _ => rfl, [], (List.append_nil _).symm⟩
  · obtain ⟨hport, hheater, hbus⟩ := hnew h
    cases hload : x.load with
    | port p =>
      rw [hport p hload]
      cases x.decision with
      | shed =>
        exact ⟨fun q hq => (s.recordSent x).port_addDoze_ne .shed fun heq => hq (congrArg LoadId.port heq.symm), (s.recordSent x).addDoze_mail p .shed⟩
      | admitted =>
        exact ⟨fun q hq => (s.recordSent x).port_removeShed_ne fun heq => hq (congrArg LoadId.port heq.symm), (s.recordSent x).removeShed_mail p⟩
    | heater =>
      rw [hheater hload]
      exact ⟨fun _ _ => rfl, [], (List.append_nil _).symm⟩
    | testBus =>
      rw [hbus hload]
      cases x.decision <;> exact ⟨fun _ _ => rfl, _, rfl⟩

/-- Decisions handed on for other loads leave a port, and messages stay. -/
theorem foldl_handOn_keeps (xs : List LoadEntry) (s : State) :
    (∀ q, (∀ x ∈ xs, x.load ≠ .port q) → (xs.foldl (fun s x => s.handOn none x) s).port q = s.port q) ∧
      ∃ more, (xs.foldl (fun s x => s.handOn none x) s).mail = s.mail ++ more := by
  induction xs generalizing s with
  | nil => exact ⟨fun _ _ => rfl, [], (List.append_nil _).symm⟩
  | cons x rest ih =>
    obtain ⟨hport, more, hmail⟩ := s.handOn_keeps x
    obtain ⟨hports, more', hmail'⟩ := ih (s.handOn none x)
    refine ⟨fun q hq => ?_, more ++ more', by rw [List.foldl_cons, hmail', hmail, List.append_assoc]⟩
    obtain ⟨hx, hrest⟩ := List.forall_mem_cons.mp hq
    exact (hports q hrest).trans (hport q hx)

/-- The state in which an evaluation's decisions are handed on (R173). -/
def State.evaluated (s : State) : State :=
  { s with pbu := { s.pbu.dropAbsent (s.evaluationNow none) with last := some (s.evaluationNow none) } }

theorem State.evaluate_eq (s : State) : s.evaluate none = (s.evaluationNow none).entries.foldl (fun s x => s.handOn none x) s.evaluated := rfl

theorem Evaluation.decisionFor_of_mem {e : Evaluation} (nodup : (e.entries.map (·.load)).Nodup) (hx : x ∈ e.entries) : e.decisionFor x.load = some x.decision := by
  cases hfind : e.entries.find? (fun y => y.load == x.load) with
  | none => exact absurd (List.find?_eq_none.mp hfind x hx) (by simp)
  | some y =>
    have hload : y.load = x.load := by simpa using List.find?_some hfind
    have hsame : y = x := List.inj_on_of_nodup_map nodup (List.mem_of_find?_eq_some hfind) hx hload
    rw [decisionFor, hfind, hsame]
    rfl

/-- What is in the list keeps its last decision until its own is handed on (R173). -/
theorem State.evaluated_sent (hx : x ∈ (s.evaluationNow none).entries) : s.evaluated.pbu.sent x.load = s.pbu.sent x.load := by
  have hsome : ((s.evaluationNow none).decisionFor x.load).isSome = true := by
    rw [Evaluation.decisionFor_of_mem (s.evaluationNow_nodup none) hx]
    rfl
  unfold evaluated
  cases hload : x.load <;> simp [Budget.dropAbsent, Budget.sent, ← hload, hsome]

/-- The decision for one load is handed on from the state in which the others' have not touched it (R173). -/
theorem State.evaluate_at (hx : x ∈ (s.evaluationNow none).entries) : ∃ u : State, u.pbu.sent x.load = s.pbu.sent x.load ∧
    (∀ p, x.load = .port p → u.port p = s.port p ∧ (s.evaluate none).port p = (u.handOn none x).port p) ∧
      ∃ more, (s.evaluate none).mail = (u.handOn none x).mail ++ more := by
  obtain ⟨front, rest, hsplit⟩ := List.append_of_mem hx
  have hnodup := s.evaluationNow_nodup none
  rw [hsplit, List.map_append, List.map_cons] at hnodup
  obtain ⟨hfrontNodup, hrestNodup, hapart⟩ := List.nodup_append.mp hnodup
  obtain ⟨hbehind, -⟩ := List.nodup_cons.mp hrestNodup
  have hfront (y : LoadEntry) (hy : y ∈ front) : y.load ≠ x.load := hapart _ (List.mem_map_of_mem hy) _ (.head _)
  have hrest (y : LoadEntry) (hy : y ∈ rest) : y.load ≠ x.load := fun heq => hbehind (heq ▸ List.mem_map_of_mem (f := fun z : LoadEntry => z.load) hy)
  let u : State := front.foldl (fun s x => s.handOn none x) s.evaluated
  have heval : s.evaluate none = rest.foldl (fun s x => s.handOn none x) (u.handOn none x) := by
    rw [evaluate_eq, hsplit, List.foldl_append, List.foldl_cons]
  obtain ⟨hports, -⟩ := foldl_handOn_keeps front s.evaluated
  obtain ⟨hlater, more, hmail⟩ := foldl_handOn_keeps rest (u.handOn none x)
  refine ⟨u, ?_, fun p hp => ⟨hports p fun y hy => hp ▸ hfront y hy, ?_⟩, more, by rw [heval, hmail]⟩
  · have hnone : front.find? (fun y => y.load == x.load) = none := List.find?_eq_none.mpr fun y hy => by simpa using hfront y hy
    rw [foldl_handOn_sent none front s.evaluated hfrontNodup x.load, hnone]
    exact evaluated_sent hx
  · rw [heval]
    exact hlater p fun y hy => hp ▸ hrest y hy

/-- What an evaluation leaves of the agent and of the parts it does not touch. -/
theorem State.evaluate_only (s : State) : Reported s (s.evaluate none) ∧ OnlyIn [.ports, .mail, .scu, .txs, .cbm, .lwu, .mga, .pbu] s (s.evaluate none) := by
  refine State.evaluate_keeps (P := fun v => Reported s v ∧ OnlyIn [.ports, .mail, .scu, .txs, .cbm, .lwu, .mga, .pbu] s v) (fun u p r e hu => ?_)
    (fun u c hu => ?_) (fun u b hu => ?_) none ⟨.refl s, .refl _ s⟩
  · obtain ⟨-, hreported, honly⟩ := u.changePort_lineChange p r e
    exact ⟨hu.1.trans hreported, hu.2.trans (honly.mono (by decide))⟩
  · exact ⟨hu.1, hu.2.trans ((u.post_only c).mono (by decide))⟩
  · have hset : OnlyIn [.pbu] u { u with pbu := b } := fun part hp => by cases part <;> simp_all [Part.Same]
    exact ⟨hu.1, hu.2.trans (hset.mono (by decide))⟩

/-- The power budget of R170 and R171 as the evaluation finds it: the whole of the figures, while the stage is decided. -/
theorem State.available_eq (s : State) :
    s.available = (match s.csu.stage.map s.settings.budget with | some b => b - s.settings.baseLoad | none => 0) ∧
      (s.shedsAll = false ↔ ∃ b, s.csu.stage.map s.settings.budget = some b ∧ s.settings.baseLoad ≤ b) := by
  unfold available shedsAll
  cases s.csu.stage with
  | none => simp
  | some st => simp

/-- What the decision for a port comes to when it is handed on (R14, R15, R173). -/
theorem State.handOn_port (hx : x.load = .port p) (hdemands : (s.port p).state = .doze → (s.port p).causes.shed = true ∧
    (s.port p).causes.thermal = false ∧ (s.port p).causes.idle = false) :
    (s.pbu.sent x.load = some x.decision → (s.handOn none x).port p = s.port p) ∧
      (s.pbu.sent x.load ≠ some .shed → x.decision = .shed → (s.port p).state = .down ∨ (s.port p).state = .training ∨ (s.port p).state = .up →
        (s.handOn none x).port p =
          { s.port p with
            state := .doze, causes := ⟨true, false, false⟩, orderOn := false, rates := none, idleTimer := none
            counters := { (s.port p).counters with dozes := plusOne (s.port p).counters.dozes } }) ∧
      (s.pbu.sent x.load ≠ some .admitted → x.decision = .admitted → (s.port p).state = .doze →
        ((s.handOn none x).port p).state = .down ∧ ((s.handOn none x).port p).causes = ⟨false, false, false⟩ ∧
          ((s.handOn none x).port p).wakePending = false) := by
  obtain ⟨hsame, hnew⟩ := s.handOn_cases x
  have hrecord : (s.recordSent x).port p = s.port p := rfl
  refine ⟨fun h => by rw [hsame h], fun h hdecision hserves => ?_, fun h hdecision hdoze => ?_⟩
  · obtain ⟨hport, -⟩ := hnew (by rw [hdecision]; exact h)
    have hdozes := (s.recordSent x).addDoze_serving p .shed hserves
    rw [hport p hx, hdecision]
    dsimp only
    rw [hdozes, State.port_changePort_self, PortRecord.ordered_off (.inr (.inl rfl))]
    rfl
  · obtain ⟨hport, -⟩ := hnew (by rw [hdecision]; exact h)
    obtain ⟨hshed, hthermal, hidle⟩ := hdemands hdoze
    let r : PortRecord := { s.port p with state := .down, causes := ⟨false, false, false⟩, wakePending := false }
    have hback : (s.recordSent x).removeShed p = (s.recordSent x).changePort p r := by
      unfold removeShed
      rw [hrecord]
      simp [hshed, hthermal, hidle, hdoze, DozeCauses.put, DozeCauses.isEmpty, r]
    rw [hport p hx, hdecision]
    dsimp only
    rw [hback, State.port_changePort_self]
    exact ⟨rfl, rfl, rfl⟩

/-- Settles O56. -/
theorem evaluationAdmitsWhatFits : Obligations.EvaluationAdmitsWhatFits := by
  intro s legal
  let u : State := s.taken .evaluation
  let e : Evaluation := s.evaluationNow none
  have he : u.evaluationNow none = e := rfl
  have hwants : e.entries.map LoadEntry.want = s.loadList none := walkLoads_wants _ _ _
  have hlast : (u.evaluate none).pbu.last = some e := by
    have hset (l : LoadId) (d : Option Decision) (b : Budget) : (b.setSent l d).last = b.last := by cases l <;> rfl
    have hhand (x : LoadEntry) (v : State) : (v.handOn none x).pbu.last = v.pbu.last := by
      obtain ⟨hsame, hnew⟩ := v.handOn_cases x
      have hrecord : (v.recordSent x).pbu.last = v.pbu.last := hset _ _ _
      by_cases h : v.pbu.sent x.load = some x.decision
      · rw [hsame h]
      · obtain ⟨hport, hheater, hbus⟩ := hnew h
        cases hload : x.load with
        | port p => rw [hport p hload]; cases x.decision <;> simpa using hrecord
        | heater => rw [hheater hload]; exact hrecord
        | testBus => rw [hbus hload]; cases x.decision <;> exact hrecord
    have hfold (xs : List LoadEntry) (v : State) : (xs.foldl (fun s x => s.handOn none x) v).pbu.last = v.pbu.last := by
      induction xs generalizing v with
      | nil => rfl
      | cons x rest ih => exact (ih _).trans (hhand x v)
    rw [State.evaluate_eq, hfold]
    rfl
  obtain ⟨hreported, honly⟩ := u.evaluate_only
  have hu : OnlyIn [.mail] s u := s.taken_only _
  refine ⟨u.evaluate none, e, rfl, hlast, ?_, hreported, (hu.mono (by decide)).trans honly⟩
  intro place wants budget
  have hbudget : budget = s.csu.stage.map s.settings.budget := by
    simp only [budget]
    cases s.csu.stage with
    | none => rfl
    | some st => cases st <;> rfl
  obtain ⟨havailable, hshedsAll⟩ := s.available_eq
  rw [← hbudget] at havailable hshedsAll
  have hplace (l : LoadId) : place l = l.place := by cases l <;> rfl
  have hdemand {x : LoadEntry} (hx : x ∈ e.entries) {p : Port} (hp : x.load = .port p) : (s.port p).state = .doze →
      (s.port p).causes.shed = true ∧ (s.port p).causes.thermal = false ∧ (s.port p).causes.idle = false := fun hdoze => by
    have hmem : x.want ∈ s.wants none := (State.mem_loadList_legal legal).mp (hwants ▸ List.mem_map_of_mem hx)
    have hload : x.want.load = .port p := hp
    rcases (s.mem_wants _).mp hmem with ⟨h, -⟩ | ⟨h, -⟩ | ⟨q, hq⟩
    · exact absurd (hload.symm.trans h) nofun
    · exact absurd (hload.symm.trans h) nofun
    · obtain ⟨hport, -, -, hkind⟩ := (s.portWant_iff q _).mp hq
      obtain rfl : p = q := LoadId.port.inj (hload.symm.trans hport)
      obtain ⟨hdemanding, hreserved⟩ := (s.port p).load_iff
      rcases hkind with ⟨-, h⟩ | ⟨-, h⟩
      · simpa [hdoze] using hdemanding.mp h
      · simpa [hdoze] using hreserved.mp h
  refine ⟨fun l reserved power rank => ?_, ?_, havailable, fun front x rest hsplit => ?_, walkLoads_sum _ _ _, fun x hx => ?_, fun l hl => ?_,
    fun x hx p hp => ?_, fun x hx hbus hnew => ?_, fun p hp => ?_⟩
  · have hentry : (∃ x ∈ e.entries, x.load = l ∧ x.reserved = reserved ∧ x.power = power ∧ x.rank = rank) ↔
        (⟨l, reserved, power, rank⟩ : LoadWant) ∈ s.wants none := by
      rw [← State.mem_loadList_legal legal, ← hwants, List.mem_map]
      simp [LoadEntry.want]
    rw [hentry, State.mem_wants]
    obtain ⟨hdemanding, hreserved⟩ : (∀ p, (s.port p).load = .demanding ↔ _) ∧ ∀ p, (s.port p).load = .reserved ↔ _ :=
      ⟨fun p => (s.port p).load_iff.1, fun p => (s.port p).load_iff.2⟩
    cases l with
    | heater => simp [wants, State.portWant_iff]
    | testBus => simp [wants, State.portWant_iff]
    | port p => simp [wants, State.portWant_iff, hdemanding, hreserved]
  · have hordered := s.loadList_ordered none
    rw [← hwants, List.pairwise_map] at hordered
    refine hordered.imp fun {x y} hxy => ?_
    rw [hplace, hplace]
    exact hxy
  · have hdecided (h : s.shedsAll = false) := walkLoads_admits (x := x) (s.loadList none) s.available front rest (by
      rw [← h]
      exact hsplit)
    rw [← hshedsAll]
    cases hall : s.shedsAll with
    | false =>
      rw [show e.available = s.available from rfl]
      simpa using hdecided hall
    | true =>
      have hmissed := walkLoads_missed (s.loadList none) s.available x (by
        rw [← hall]
        show x ∈ e.entries
        rw [hsplit]
        simp)
      simp [hmissed]
  · rw [State.evaluate_sent none u x.load, he]
    exact Evaluation.decisionFor_of_mem (s.evaluationNow_nodup none) hx
  · rw [State.evaluate_sent none u l, he, Evaluation.decisionFor, List.find?_eq_none.mpr fun x hx => by simpa using hl x hx]
    rfl
  · obtain ⟨v, hsent, hports, -⟩ := u.evaluate_at (x := x) hx
    obtain ⟨hport, hfinal⟩ := hports p hp
    have hport : v.port p = s.port p := hport
    have hsent : v.pbu.sent x.load = s.pbu.sent x.load := hsent
    have hhand := State.handOn_port (s := v) hp (by rw [hport]; exact hdemand hx hp)
    rw [hport, hsent, ← hfinal] at hhand
    exact hhand
  · obtain ⟨v, hsent, -, more, hmail⟩ := u.evaluate_at (x := x) hx
    have hnot : v.pbu.sent x.load ≠ some x.decision := by
      rw [hsent, hbus]
      exact hnew
    have hhand := ((v.handOn_cases x).2 hnot).2.2 hbus
    rw [hmail, hhand]
    cases x.decision <;> simp [State.post]
  · rw [State.evaluate_eq]
    exact (foldl_handOn_keeps _ u.evaluated).1 p hp

end Sys2Proof.Machine
end

section
/-! The obligation on temperature and the thermal latch: O54 (09). -/

namespace Sys2Proof.Machine

variable {s t u : State} {p q : Port} {o : Origin} {src : FaultSource} {kind : FaultKind}

/-! ## Fault records of other keys -/

/-- A record of another key is what it was after a raise. -/
theorem State.raiseFault_otherKeys (src : FaultSource) (kind : FaultKind) (s : State) :
    ∀ f ∈ (s.raiseFault src kind).mga.faults, f.hasKey src kind = false → f ∈ s.mga.faults := by
  rw [raiseFault_faults]
  intro f hf hother
  unfold Agent.raise at hf
  split at hf
  · obtain ⟨y, hy, rfl⟩ := List.mem_map.mp hf
    split at hother
    · next hkey => exact absurd (hother.symm.trans hkey) Bool.false_ne_true
    · next hkey => rwa [if_neg hkey]
  · split at hf
    · next log removed hplace =>
      rcases List.mem_append.mp hf with hf | hf
      · have hsub : log ⊆ s.mga.faults := by
          unfold faultPlace at hplace
          split at hplace
          · cases hplace; exact List.Subset.refl _
          · split at hplace
            · cases hplace; exact List.eraseP_subset
            · split at hplace
              · cases hplace; exact List.eraseP_subset
              · cases hplace
        exact hsub hf
      · rw [List.mem_singleton.mp hf] at hother
        simp [FaultRecord.hasKey, FaultRecord.fresh] at hother
    · exact hf

/-- A record of another kind is what it was after a raise. -/
theorem State.raiseFault_others (src : FaultSource) (kind : FaultKind) (s : State) :
    ∀ f ∈ (s.raiseFault src kind).mga.faults, f.kind ≠ kind → f ∈ s.mga.faults := fun f hf hkind =>
  s.raiseFault_otherKeys src kind f hf (Bool.eq_false_iff.mpr fun hkey => hkind ((f.hasKey_iff.mp hkey).2))

/-- A record of another kind is what it was after a clear. -/
theorem State.clearFault_others (src : FaultSource) (kind : FaultKind) (s : State) :
    ∀ f ∈ (s.clearFault src kind).mga.faults, f.kind ≠ kind → f ∈ s.mga.faults := by
  intro f hf hkind
  obtain ⟨y, hy, rfl⟩ := List.mem_map.mp hf
  split at hkind
  · next hkey => exact absurd (y.hasKey_iff.mp hkey).2 hkind
  · next hkey => rwa [if_neg hkey]

/-- Every record with a key is inactive. -/
def Inactive (log : List FaultRecord) (src : FaultSource) (kind : FaultKind) : Prop := ∀ f ∈ log, f.source = src → f.kind = kind → f.active = false

/-- What is inactive stays inactive when no record of its kind changes. -/
theorem Inactive.kept {log before : List FaultRecord} {k : FaultSource} {j other : FaultKind} (h : Inactive before k j) (hne : j ≠ other)
    (hsame : ∀ f ∈ log, f.kind ≠ other → f ∈ before) : Inactive log k j := fun f hf hsource hkind =>
  h f (hsame f hf (by rw [hkind]; exact hne)) hsource hkind

/-! ## The conditions (R161) -/

/-- What a judgement of one of the two thermal conditions comes to: its record is raised or cleared, and nothing else of the log changes. -/
structure Judges (kind : FaultKind) (s t : State) : Prop where
  others : ∀ f ∈ t.mga.faults, f.kind ≠ kind → f ∈ s.mga.faults
  stands : ∀ k j, j ≠ kind → s.mga.faults.length < 24 → Stands s.mga.faults k j → Stands t.mga.faults k j
  length : s.mga.faults.length < 24 → t.mga.faults.length ≤ s.mga.faults.length + 1
  reported : Reported s t
  within : OnlyIn [.csu, .mga, .cbm, .txs] s t

theorem Judges.refl (kind : FaultKind) (s : State) : Judges kind s s :=
  ⟨fun _ h _ => h, fun _ _ _ _ h => h, fun _ => Nat.le_succ _, .refl s, .refl _ s⟩

theorem Judges.of_raise (hkind : kind ≠ .restart) (c : Supervisor) (s : State) : Judges kind s (({ s with csu := c } : State).raiseFault src kind) where
  others := State.raiseFault_others src kind _
  stands := fun _ _ _ hroom h => Stands.raiseFault (s := { s with csu := c }) h hroom hkind
  length := fun hroom => State.raiseFault_length src kind _ hroom
  reported := State.reported_raiseFault _ _ _ _
  within := fun part hp => by cases part <;> simp_all [Part.Same]

theorem Judges.of_clear (c : Supervisor) (s : State) : Judges kind s (({ s with csu := c } : State).clearFault src kind) where
  others := State.clearFault_others src kind _
  stands := fun k j hne _ h => by
    obtain ⟨f, hf, hsource, hsame, hactive⟩ := h
    refine ⟨f, List.mem_map.mpr ⟨f, hf, if_neg fun hkey => ?_⟩, hsource, hsame, hactive⟩
    exact hne (hsame.symm.trans (f.hasKey_iff.mp hkey).2)
  length := fun _ => by simp [State.clearFault, updateFault]
  reported := State.reported_clearFault _ _ _
  within := fun part hp => by cases part <;> simp_all [Part.Same]

theorem Judges.of_csu (kind : FaultKind) (c : Supervisor) (s : State) : Judges kind s { s with csu := c } where
  others := fun _ h _ => h
  stands := fun _ _ _ _ h => h
  length := fun _ => Nat.le_succ _
  reported := rfl
  within := fun part hp => by cases part <;> simp_all [Part.Same]

/-- The warn condition by a reading (R161). -/
theorem State.judgeWarn_spec (v : Int) (s : State) :
    let c := thermalCondition s.settings.thermalMode s.settings.warnThreshold v s.csu.warnCondition
    (s.judgeWarn v).csu = { s.csu with warnCondition := c } ∧ Judges .thermalWarn s (s.judgeWarn v) ∧
      (s.csu.warnCondition = true → c = false → Inactive (s.judgeWarn v).mga.faults .cabinet .thermalWarn) ∧
      (s.csu.warnCondition = false → c = true → s.mga.faults.length < 24 → Stands (s.judgeWarn v).mga.faults .cabinet .thermalWarn) := by
  intro c
  by_cases hsame : c = s.csu.warnCondition
  · have hjudge : s.judgeWarn v = s := if_pos hsame
    rw [hjudge, hsame]
    exact ⟨rfl, .refl _ s, fun h h' => absurd (h.symm.trans h') nofun, fun h h' => absurd (h.symm.trans h') nofun⟩
  · cases hc : c with
    | true =>
      have hjudge : s.judgeWarn v = ({ s with csu := { s.csu with warnCondition := true } } : State).raiseFault .cabinet .thermalWarn := by
        rw [← hc]
        exact (if_neg hsame).trans (if_pos hc)
      rw [hjudge]
      exact ⟨by simp, .of_raise (kind := .thermalWarn) nofun _ s, fun _ h => absurd h.symm Bool.false_ne_true, fun _ _ hroom => State.raiseFault_records _ _ _ hroom nofun⟩
    | false =>
      have hjudge : s.judgeWarn v = ({ s with csu := { s.csu with warnCondition := false } } : State).clearFault .cabinet .thermalWarn := by
        rw [← hc]
        exact (if_neg hsame).trans (if_neg (ne_true_of_eq_false hc))
      rw [hjudge]
      exact ⟨rfl, .of_clear _ s, fun _ _ => State.clearFault_inactive _ _ _, fun _ h => absurd h Bool.false_ne_true⟩

/-- The shutdown condition by a reading (R161). -/
theorem State.judgeShutdown_spec (v : Int) (s : State) :
    let c := thermalCondition s.settings.thermalMode s.settings.shutdownThreshold v s.csu.shutdownCondition
    (s.judgeShutdown v).csu = { s.csu with shutdownCondition := c } ∧ Judges .thermalShutdown s (s.judgeShutdown v) ∧
      (s.csu.shutdownCondition = true → c = false → s.csu.thermalLatch = false →
        Inactive (s.judgeShutdown v).mga.faults .cabinet .thermalShutdown) ∧
      (s.csu.shutdownCondition = false → c = true → s.mga.faults.length < 24 →
        Stands (s.judgeShutdown v).mga.faults .cabinet .thermalShutdown) := by
  intro c
  by_cases hsame : c = s.csu.shutdownCondition
  · have hjudge : s.judgeShutdown v = s := if_pos hsame
    rw [hjudge, hsame]
    exact ⟨rfl, .refl _ s, fun h h' => absurd (h.symm.trans h') nofun, fun h h' => absurd (h.symm.trans h') nofun⟩
  · cases hc : c with
    | true =>
      have hjudge : s.judgeShutdown v = ({ s with csu := { s.csu with shutdownCondition := true } } : State).raiseFault .cabinet .thermalShutdown := by
        rw [← hc]
        exact (if_neg hsame).trans (if_pos hc)
      rw [hjudge]
      exact ⟨by simp, .of_raise (kind := .thermalShutdown) nofun _ s, fun _ h => absurd h.symm Bool.false_ne_true, fun _ _ hroom => State.raiseFault_records _ _ _ hroom nofun⟩
    | false =>
      let w : State := { s with csu := { s.csu with shutdownCondition := false } }
      have hjudge : s.judgeShutdown v = if s.csu.thermalLatch then w else w.clearFault .cabinet .thermalShutdown := by
        have hw : w = { s with csu := { s.csu with shutdownCondition := c } } := by rw [hc]
        rw [hw]
        exact (if_neg hsame).trans (if_neg (ne_true_of_eq_false hc))
      rw [hjudge]
      cases hlatch : s.csu.thermalLatch with
      | true =>
        exact ⟨rfl, .of_csu _ _ s, fun _ _ h => absurd h.symm Bool.false_ne_true, fun _ h => absurd h Bool.false_ne_true⟩
      | false => exact ⟨rfl, .of_clear _ s, fun _ _ _ => w.clearFault_inactive _ _, fun _ h => absurd h Bool.false_ne_true⟩

/-! ## The latch (R162) -/

/-- A doze cause put to every port changes its own port at each turn. -/
theorem foldl_addDoze_port (c : DozeCause) (ps : List Port) (hps : ps.Nodup) (s : State) (p : Port) :
    (p ∉ ps → (ps.foldl (fun s p => s.addDoze p c) s).port p = s.port p) ∧
      (p ∈ ps → ∃ u : State, u.port p = s.port p ∧ (ps.foldl (fun s p => s.addDoze p c) s).port p = (u.addDoze p c).port p) := by
  induction ps generalizing s with
  | nil => exact ⟨fun _ => rfl, fun h => absurd h List.not_mem_nil⟩
  | cons q rest ih =>
    obtain ⟨hq, hrest⟩ := List.nodup_cons.mp hps
    obtain ⟨hout, hin⟩ := ih hrest (s.addDoze q c)
    refine ⟨fun hp => ?_, fun hp => ?_⟩
    · obtain ⟨hne, hp⟩ := not_or.mp (List.mem_cons.not.mp hp)
      exact (hout hp).trans (s.port_addDoze_ne c hne)
    · rcases List.mem_cons.mp hp with rfl | hp
      · exact ⟨s, rfl, hout hq⟩
      · obtain ⟨u, hu, hfinal⟩ := hin hp
        exact ⟨u, hu.trans (s.port_addDoze_ne c fun heq => hq (heq ▸ hp)), hfinal⟩

/-- What a change of records keeps of the log and of the parts it does not touch. -/
structure Dozes (s t : State) : Prop where
  foreign : OnlyForeign s t
  stands : ∀ k j, j ≠ .foreignVoltage → Stands s.mga.faults k j → Stands t.mga.faults k j
  reported : Reported s t
  within : OnlyIn [.ports, .mail, .scu, .txs, .cbm, .lwu, .mga] s t

theorem Dozes.refl (s : State) : Dozes s s := ⟨fun _ h _ => h, fun _ _ _ h => h, .refl s, .refl _ s⟩

theorem Dozes.trans (h : Dozes s t) (g : Dozes t u) : Dozes s u where
  foreign := fun f hf hkind => h.foreign f (g.foreign f hf hkind) hkind
  stands := fun k j hne hs => g.stands k j hne (h.stands k j hne hs)
  reported := h.reported.trans g.reported
  within := h.within.trans g.within

theorem State.changePort_dozes (p : Port) (r : PortRecord) (e : Bool) (s : State) : Dozes s (s.changePort p r e) := by
  obtain ⟨-, hreported, honly⟩ := s.changePort_lineChange p r e
  refine ⟨State.changePort_onlyForeign s p r e fun _ h _ => h, fun k j hne hs => ?_, hreported, honly⟩
  rcases s.changePort_faults p r e with hf | hf <;> rw [hf]
  · exact hs
  · obtain ⟨f, hmem, hsource, hkind, hactive⟩ := hs
    exact ⟨f, List.mem_map.mpr ⟨f, hmem, if_neg fun hkey => hne (hkind.symm.trans (f.hasKey_iff.mp hkey).2)⟩, hsource, hkind, hactive⟩

theorem State.addDoze_dozes (p : Port) (c : DozeCause) (s : State) : Dozes s (s.addDoze p c) := by
  unfold addDoze
  dsimp only
  split
  case h_5 => split <;> [exact s.changePort_dozes p _ false; exact .refl s]
  case h_6 => exact .refl s
  case h_7 => exact .refl s
  all_goals exact s.changePort_dozes p _ false

theorem foldl_addDoze_dozes (c : DozeCause) (ps : List Port) (s : State) : Dozes s (ps.foldl (fun s p => s.addDoze p c) s) := by
  induction ps generalizing s with
  | nil => exact .refl s
  | cons p rest ih => exact (s.addDoze_dozes p c).trans (ih _)

/-- THERMAL added to a port by its state (R14, R162). -/
theorem State.addDoze_thermal (p : Port) (s : State) :
    ((s.port p).state = .down ∨ (s.port p).state = .training ∨ (s.port p).state = .up →
      (s.addDoze p .thermal).port p =
        { s.port p with
          state := .doze, causes := ⟨false, true, false⟩, orderOn := false, rates := none, idleTimer := none
          counters := { (s.port p).counters with dozes := plusOne (s.port p).counters.dozes } }) ∧
      ((s.port p).state = .doze ∨ ((s.port p).state = .test ∧ (s.port p).returnTarget = some .down) →
        ((s.addDoze p .thermal).port p).causes = { (s.port p).causes with thermal := true } ∧
          ((s.addDoze p .thermal).port p).state = (s.port p).state) ∧
      ((s.port p).state = .disabled ∨ (s.port p).state = .held → (s.addDoze p .thermal).port p = s.port p) := by
  refine ⟨fun h => ?_, fun h => ?_, fun h => ?_⟩
  · rw [addDoze_serving p .thermal s h, port_changePort_self, PortRecord.ordered_off (.inr (.inl rfl))]
    rfl
  · have hadd : s.addDoze p .thermal = s.changePort p { s.port p with causes := (s.port p).causes.put .thermal true } := by
      unfold addDoze
      rcases h with h | ⟨h, htarget⟩
      · simp [h]
      · simp [h, htarget]
    rw [hadd, port_changePort_self]
    have hout (r : PortRecord) : r.outOfUp.ordered.causes = r.causes ∧ r.outOfUp.ordered.state = r.state := by
      unfold PortRecord.outOfUp PortRecord.ordered
      split <;> exact ⟨rfl, rfl⟩
    exact hout _
  · have hadd : s.addDoze p .thermal = s := by
      unfold addDoze
      rcases h with h | h <;> simp [h]
    rw [hadd]

/-- The thermal latch after the conditions (R162). -/
theorem State.judgeLatch_spec (s : State) :
    let latch : Bool := s.csu.thermalLatch || (s.settings.thermalMode == .shutdown && s.csu.shutdownCondition)
    s.judgeLatch.csu = { s.csu with thermalLatch := latch } ∧ (latch = s.csu.thermalLatch → s.judgeLatch = s) ∧
      (s.csu.thermalLatch = false → latch = true → ∀ p, ∃ u : State, u.port p = s.port p ∧ s.judgeLatch.port p = (u.addDoze p .thermal).port p) ∧
      OnlyForeign s s.judgeLatch ∧ (∀ k j, j ≠ .foreignVoltage → Stands s.mga.faults k j → Stands s.judgeLatch.mga.faults k j) ∧
      Reported s s.judgeLatch ∧ OnlyIn [.csu, .ports, .mail, .scu, .txs, .cbm, .lwu, .mga] s s.judgeLatch := by
  intro latch
  by_cases hset : s.settings.thermalMode = .shutdown ∧ s.csu.shutdownCondition = true ∧ (!s.csu.thermalLatch) = true
  · let w : State := { s with csu := { s.csu with thermalLatch := true } }
    obtain ⟨hmode, hshutdown, hclear⟩ := hset
    have hoff : s.csu.thermalLatch = false := by simpa using hclear
    have hlatch : latch = true := by simp [latch, hmode, hshutdown]
    have hjudge : s.judgeLatch = allPorts.foldl (fun s p => s.addDoze p .thermal) w := if_pos ⟨hmode, hshutdown, hclear⟩
    have hdozes : Dozes w (allPorts.foldl (fun s p => s.addDoze p .thermal) w) := foldl_addDoze_dozes _ _ _
    have hw : OnlyIn [.csu] s w := fun part hp => by cases part <;> simp_all [Part.Same, w]
    rw [hjudge, hlatch]
    refine ⟨hdozes.within .csu (by decide), fun h => absurd (h.trans hoff) nofun, fun _ _ p => ?_, hdozes.foreign, hdozes.stands, hdozes.reported,
      (hw.mono (by decide)).trans (hdozes.within.mono (by decide))⟩
    exact (foldl_addDoze_port .thermal allPorts (List.nodup_finRange 16) w p).2 (List.mem_finRange p)
  · have hjudge : s.judgeLatch = s := if_neg hset
    have hlatch : latch = s.csu.thermalLatch := by
      simp only [latch]
      cases hl : s.csu.thermalLatch with
      | true => rfl
      | false =>
        by_contra hne
        exact hset (by simpa [hl] using hne)
    rw [hjudge, hlatch]
    exact ⟨rfl, fun _ => rfl, fun h h' => absurd (h.symm.trans h') nofun, fun _ h _ => h, fun _ _ _ h => h, .refl s, .refl _ s⟩

/-- The heater demand after the latch (R164). -/
theorem State.judgeHeater_spec (v : Int) (s : State) :
    let heater : Bool := if s.csu.heaterDemand then decide (v ≤ s.settings.heaterOff) else decide (v < s.settings.heaterOn)
    (s.judgeHeater v).csu = { s.csu with heaterDemand := heater } ∧ (heater ≠ s.csu.heaterDemand → Instr.evaluation ∈ (s.judgeHeater v).mail) ∧
      OnlyIn [.csu, .mail] s (s.judgeHeater v) := by
  intro heater
  have hheater : (if s.csu.heaterDemand then !decide (s.settings.heaterOff < v) else decide (v < s.settings.heaterOn)) = heater := by
    simp only [heater]
    split
    · simp [← decide_not]
    · rfl
  have hjudge : s.judgeHeater v =
      if heater = s.csu.heaterDemand then s else ({ s with csu := { s.csu with heaterDemand := heater } } : State).post .evaluation := by
    rw [← hheater]
    rfl
  rw [hjudge]
  split
  · next hsame =>
    rw [hsame]
    exact ⟨rfl, fun h => absurd rfl h, .refl _ s⟩
  · exact ⟨rfl, fun _ => List.mem_append_right _ (.head _), fun part hp => by cases part <;> simp_all [Part.Same]⟩

theorem thermalCondition_eq (mode : ThermalMode) (threshold v : Int) (before : Bool) :
    thermalCondition mode threshold v before =
      if mode = .off then false else if threshold ≤ v then true else if v ≤ threshold - 5 then false else before := by
  cases mode <;> rfl

/-- What a reading of `v` leaves of `u`, in which its value and its time have been entered (R161 to R164). -/
structure Reads (v : Int) (warn shutdown latch heater : Bool) (u t : State) : Prop where
  csu : t.csu = { u.csu with warnCondition := warn, shutdownCondition := shutdown, thermalLatch := latch, heaterDemand := heater }
  stays : latch = u.csu.thermalLatch → t.ports = u.ports
  latches : u.csu.thermalLatch = false → latch = true → ∀ p, ∃ x : State, x.port p = u.port p ∧ t.port p = (x.addDoze p .thermal).port p
  evaluates : heater ≠ u.csu.heaterDemand → Instr.evaluation ∈ t.mail
  cools : u.csu.warnCondition = true → warn = false → Inactive t.mga.faults .cabinet .thermalWarn
  warms : u.csu.warnCondition = false → warn = true → u.mga.faults.length ≤ 22 → Stands t.mga.faults .cabinet .thermalWarn
  burns : u.csu.shutdownCondition = false → shutdown = true → u.mga.faults.length ≤ 22 → Stands t.mga.faults .cabinet .thermalShutdown
  ends : u.csu.shutdownCondition = true → shutdown = false → u.csu.thermalLatch = false → Inactive t.mga.faults .cabinet .thermalShutdown
  reported : Reported u t
  within : OnlyIn [.csu, .ports, .mail, .scu, .txs, .cbm, .lwu, .mga] u t

theorem State.reading_reads (v : Int) (u : State) :
    let g := u.settings
    let warn := thermalCondition g.thermalMode g.warnThreshold v u.csu.warnCondition
    let shutdown := thermalCondition g.thermalMode g.shutdownThreshold v u.csu.shutdownCondition
    Reads v warn shutdown (u.csu.thermalLatch || (g.thermalMode == .shutdown && shutdown))
      (if u.csu.heaterDemand then decide (v ≤ g.heaterOff) else decide (v < g.heaterOn)) u
      (State.judgeHeater v ((u.judgeWarn v).judgeShutdown v).judgeLatch) := by
  intro g warn shutdown
  obtain ⟨a, ha⟩ : ∃ a, u.judgeWarn v = a := ⟨_, rfl⟩
  obtain ⟨b, hb⟩ : ∃ b, a.judgeShutdown v = b := ⟨_, rfl⟩
  obtain ⟨c, hc⟩ : ∃ c, b.judgeLatch = c := ⟨_, rfl⟩
  obtain ⟨t, ht⟩ : ∃ t, c.judgeHeater v = t := ⟨_, rfl⟩
  obtain ⟨hwarnCsu, hwarn, hcool, hhot⟩ := ha ▸ u.judgeWarn_spec v
  obtain ⟨hshutCsu, hshut, hcold, hburns⟩ := hb ▸ a.judgeShutdown_spec v
  obtain ⟨hlatchCsu, hlatchSame, hlatchSet, hforeign, hstands, hreported, honly⟩ := hc ▸ b.judgeLatch_spec
  obtain ⟨hheaterCsu, hevaluates, hheat⟩ := ht ▸ c.judgeHeater_spec v
  have hsettings₁ : a.settings = g := hwarn.within .settings (by decide)
  have hsettings₂ : b.settings = g := (hshut.within .settings (by decide)).trans hsettings₁
  have hsettings₃ : c.settings = g := (honly .settings (by decide)).trans hsettings₂
  rw [hwarnCsu, hsettings₁] at hshutCsu hcold hburns
  rw [hshutCsu, hsettings₂] at hlatchCsu hlatchSame hlatchSet
  rw [hlatchCsu, hsettings₃] at hheaterCsu hevaluates
  have hmga : t.mga = c.mga := hheat .mga (by decide)
  have hports : t.ports = c.ports := hheat .ports (by decide)
  have hwports : b.ports = u.ports := (hshut.within .ports (by decide)).trans (hwarn.within .ports (by decide))
  have hroom (h : u.mga.faults.length ≤ 22) : u.mga.faults.length < 24 ∧ a.mga.faults.length < 24 := by
    have := hwarn.length (by omega)
    omega
  rw [ha, hb, hc, ht]
  refine ⟨hheaterCsu, fun hsame => ?_, fun hoff hset p => ?_, hevaluates, fun hwas hno => ?_, fun hwas hyes hfew => ?_, fun hwas hyes hfew => ?_,
    fun hwas hno hoff => ?_, hwarn.reported.trans (hshut.reported.trans (hreported.trans (.of_mga hmga))),
    (hwarn.within.mono (by decide)).trans ((hshut.within.mono (by decide)).trans (honly.trans (hheat.mono (by decide))))⟩
  · rw [hports, ← hwports, ← hlatchSame hsame]
  · obtain ⟨x, hx, hport⟩ := hlatchSet hoff hset p
    exact ⟨x, hx.trans (congrArg (·.get p) hwports), (congrArg (·.get p) hports).trans hport⟩
  · rw [hmga]
    exact ((hcool hwas hno).kept (by decide) hshut.others).kept (by decide) hforeign
  · obtain ⟨hu, ha⟩ := hroom hfew
    rw [hmga]
    exact hstands _ _ nofun (hshut.stands _ _ nofun ha (hhot hwas hyes hu))
  · obtain ⟨hu, ha⟩ := hroom hfew
    rw [hmga]
    exact hstands _ _ nofun (hburns hwas hyes ha)
  · rw [hmga]
    exact (hcold hwas hno hoff).kept (by decide) hforeign

/-! ## THERMAL_CLEAR (R163) -/

/-- Only a port in DOZE, or lent with return target DOWN, has THERMAL in its causes (R14). -/
def PortRecord.ThermalPlaced (r : PortRecord) : Prop :=
  r.causes.thermal = true → r.state = .doze ∨ (r.state = .test ∧ r.returnTarget = some .down)

/-- A change that puts THERMAL to no port and leaves it at places where it may stand. -/
def ThermalKept (s t : State) : Prop :=
  t.csu = s.csu ∧ ∀ q, ((s.port q).causes.thermal = false → (t.port q).causes.thermal = false) ∧
    ((s.port q).ThermalPlaced → (t.port q).ThermalPlaced)

theorem ThermalKept.refl (s : State) : ThermalKept s s := ⟨rfl, fun _ => ⟨id, id⟩⟩

theorem ThermalKept.trans (h : ThermalKept s t) (g : ThermalKept t u) : ThermalKept s u := by
  obtain ⟨hcsu, hport⟩ := h
  obtain ⟨gcsu, gport⟩ := g
  exact ⟨gcsu.trans hcsu, fun q => ⟨fun hq => (gport q).1 ((hport q).1 hq), fun hq => (gport q).2 ((hport q).2 hq)⟩⟩

/-- What a change of a record leaves of its causes, state and return target. -/
theorem PortRecord.ordered_outOfUp_same (r : PortRecord) :
    r.outOfUp.ordered.causes = r.causes ∧ r.outOfUp.ordered.state = r.state ∧ r.outOfUp.ordered.returnTarget = r.returnTarget := by
  unfold outOfUp ordered
  split <;> exact ⟨rfl, rfl, rfl⟩

theorem State.changePort_thermal (p : Port) (r : PortRecord) (e : Bool) (s : State)
    (h : ((s.port p).causes.thermal = false → r.causes.thermal = false) ∧ ((s.port p).ThermalPlaced → r.ThermalPlaced)) :
    ThermalKept s (s.changePort p r e) := by
  refine ⟨by simp, fun q => ?_⟩
  rw [s.port_changePort p q r e]
  by_cases hq : q = p
  · obtain ⟨hcauses, hstate, htarget⟩ := r.ordered_outOfUp_same
    unfold PortRecord.ThermalPlaced at h ⊢
    rw [if_pos hq, hcauses, hstate, htarget, hq]
    exact h
  · rw [if_neg hq]
    exact ⟨id, id⟩

theorem State.addDoze_shed_thermal (p : Port) (s : State) : ThermalKept s (s.addDoze p .shed) := by
  have hcauses (h : (s.port p).state = .doze ∨ (s.port p).state = .test) :
      ThermalKept s (s.changePort p { s.port p with causes := (s.port p).causes.put .shed true }) :=
    s.changePort_thermal p _ false ⟨id, id⟩
  unfold addDoze
  dsimp only
  split
  case h_4 h => exact hcauses (.inl h)
  case h_5 h => split <;> [exact hcauses (.inr h); exact .refl s]
  case h_6 => exact .refl s
  case h_7 => exact .refl s
  all_goals exact s.changePort_thermal p _ false ⟨fun _ => rfl, fun _ h => absurd h Bool.false_ne_true⟩

theorem State.removeShed_thermal (p : Port) (s : State) : ThermalKept s (s.removeShed p) := by
  have hcauses : ThermalKept s (s.changePort p { s.port p with causes := (s.port p).causes.put .shed false }) :=
    s.changePort_thermal p _ false ⟨id, id⟩
  unfold removeShed
  dsimp only
  split
  · split
    · split
      · next hempty =>
        have hno : (s.port p).causes.thermal = false := by
          simp only [DozeCauses.isEmpty, DozeCauses.put, Bool.and_eq_true, Bool.not_eq_true'] at hempty
          exact hempty.1.2
        exact s.changePort_thermal p _ false ⟨fun _ => hno, fun _ h => absurd (h.symm.trans hno) nofun⟩
      · exact hcauses
    · split <;> [exact hcauses; exact .refl s]
    · exact .refl s
  · exact .refl s

theorem State.handOn_thermal (c : Option Port) (x : LoadEntry) (s : State) : ThermalKept s (s.handOn c x) := by
  have hrecord : ThermalKept s (s.recordSent x) := ⟨rfl, fun _ => ⟨id, id⟩⟩
  unfold handOn
  split
  · exact .refl s
  · dsimp only
    split
    · split
      · exact hrecord
      · split
        · exact hrecord.trans (addDoze_shed_thermal _ _)
        · exact hrecord.trans (removeShed_thermal _ _)
    · exact hrecord
    · split <;> exact hrecord

theorem State.evaluate_thermal (c : Option Port) (s : State) : ThermalKept s (s.evaluate c) := by
  have hfold (xs : List LoadEntry) (u : State) : ThermalKept u (xs.foldl (fun s x => s.handOn c x) u) := by
    induction xs generalizing u with
    | nil => exact .refl u
    | cons x rest ih => exact (u.handOn_thermal c x).trans (ih _)
  exact .trans ⟨rfl, fun _ => ⟨id, id⟩⟩ (hfold (s.evaluationNow c).entries
    { s with pbu := { s.pbu.dropAbsent (s.evaluationNow c) with last := some (s.evaluationNow c) } })

/-- A port returns to service, the latch clear, without THERMAL (R18). -/
theorem State.returnToService_thermal (p : Port) (r : PortRecord) (keepWake : Bool) (s : State) (clear : s.csu.thermalLatch = false) :
    ThermalKept s (s.returnToService p r keepWake) ∧ ((s.returnToService p r keepWake).port p).causes.thermal = false := by
  have heval := s.evaluate_thermal (some p)
  have hlatch : (s.evaluate (some p)).csu.thermalLatch = false := by rw [heval.1]; exact clear
  have hchange (r : PortRecord) (hr : r.causes.thermal = false) : ThermalKept s ((s.evaluate (some p)).changePort p r true) ∧
      (((s.evaluate (some p)).changePort p r true).port p).causes.thermal = false := by
    refine ⟨heval.trans (changePort_thermal p r true _ ⟨fun _ => hr, fun _ h => absurd (h.symm.trans hr) nofun⟩), ?_⟩
    rw [port_changePort_self, r.ordered_outOfUp_same.1]
    exact hr
  unfold returnToService
  dsimp only
  split <;> exact hchange _ hlatch

/-- THERMAL taken from a port at which it may stand (R15). -/
theorem State.removeDoze_thermal (p : Port) (s : State) (clear : s.csu.thermalLatch = false) :
    ThermalKept s (s.removeDoze p .thermal) ∧ ((s.port p).ThermalPlaced → ((s.removeDoze p .thermal).port p).causes.thermal = false) := by
  have hchange (r : PortRecord) (hr : r.causes.thermal = false) : ThermalKept s (s.changePort p r) ∧
      ((s.port p).ThermalPlaced → ((s.changePort p r).port p).causes.thermal = false) := by
    refine ⟨s.changePort_thermal p r false ⟨fun _ => hr, fun _ h => absurd (h.symm.trans hr) nofun⟩, fun _ => ?_⟩
    rw [port_changePort_self, r.ordered_outOfUp_same.1]
    exact hr
  unfold removeDoze
  dsimp only
  split
  · next hthermal =>
    split
    · split
      · obtain ⟨hkept, hgone⟩ := s.returnToService_thermal p { s.port p with causes := (s.port p).causes.put .thermal false, wakePending := false } false clear
        exact ⟨hkept, fun _ => hgone⟩
      · exact hchange _ rfl
    · next hst =>
      split
      · exact hchange _ rfl
      · next htarget =>
        exact ⟨.refl s, fun hplaced => (hplaced hthermal).elim (fun h => absurd (hst.symm.trans h) nofun) fun h => absurd h.2 htarget⟩
    · next hdoze htest =>
      exact ⟨.refl s, fun hplaced => (hplaced hthermal).elim (fun h => absurd h hdoze) fun h => absurd h.1 htest⟩
  · next hno => exact ⟨.refl s, fun _ => by simpa [DozeCauses.has] using hno⟩

theorem foldl_removeDoze_thermal (ps : List Port) (s : State) (clear : s.csu.thermalLatch = false) (placed : ∀ q, (s.port q).ThermalPlaced) :
    ThermalKept s (ps.foldl (fun s p => s.removeDoze p .thermal) s) ∧
      ∀ p ∈ ps, ((ps.foldl (fun s p => s.removeDoze p .thermal) s).port p).causes.thermal = false := by
  induction ps generalizing s with
  | nil => exact ⟨.refl s, fun _ h => absurd h List.not_mem_nil⟩
  | cons p rest ih =>
    obtain ⟨hkept, hgone⟩ := s.removeDoze_thermal p clear
    obtain ⟨hlater, hrest⟩ := ih (s.removeDoze p .thermal) (by rw [hkept.1]; exact clear) fun q => (hkept.2 q).2 (placed q)
    exact ⟨hkept.trans hlater, List.forall_mem_cons.mpr ⟨(hlater.2 p).1 (hgone (placed p)), hrest⟩⟩

theorem State.removeDoze_only (p : Port) (c : DozeCause) (s : State) :
    OnlyIn [.ports, .mail, .scu, .txs, .cbm, .lwu, .mga, .pbu] s (s.removeDoze p c) := by
  have hchange (r : PortRecord) : OnlyIn [.ports, .mail, .scu, .txs, .cbm, .lwu, .mga, .pbu] s (s.changePort p r) := by
    obtain ⟨-, -, honly⟩ := s.changePort_lineChange p r false
    exact honly.mono (by decide)
  have hreturns (r : PortRecord) (b : Bool) : OnlyIn [.ports, .mail, .scu, .txs, .cbm, .lwu, .mga, .pbu] s (s.returnToService p r b) := by
    refine State.returnToService_keeps (P := fun v => OnlyIn [.ports, .mail, .scu, .txs, .cbm, .lwu, .mga, .pbu] s v) (fun u q r e hu => ?_)
      (fun u c hu => ?_) (fun u b hu => ?_) p r b (.refl _ s)
    · obtain ⟨-, -, honly⟩ := u.changePort_lineChange q r e
      exact hu.trans (honly.mono (by decide))
    · exact hu.trans ((u.post_only c).mono (by decide))
    · have hset : OnlyIn [.pbu] u { u with pbu := b } := fun part hp => by cases part <;> simp_all [Part.Same]
      exact hu.trans (hset.mono (by decide))
  unfold removeDoze
  dsimp only
  split
  · split
    · split
      · exact hreturns _ _
      · exact hchange _
    · split <;> [exact hchange _; exact .refl _ s]
    · exact .refl _ s
  · exact .refl _ s

theorem foldl_removeDoze_only (c : DozeCause) (ps : List Port) (s : State) :
    OnlyIn [.ports, .mail, .scu, .txs, .cbm, .lwu, .mga, .pbu] s (ps.foldl (fun s p => s.removeDoze p c) s) := by
  induction ps generalizing s with
  | nil => exact .refl _ s
  | cons p rest ih => exact (s.removeDoze_only p c).trans (ih _)

/-- THERMAL_CLEAR carried out (R163). -/
def State.clearLatch (s : State) : State :=
  let v : State := allPorts.foldl (fun s p => s.removeDoze p .thermal) { s with csu := { s.csu with thermalLatch := false } }
  if v.csu.shutdownCondition then v else v.clearFault .cabinet .thermalShutdown

theorem State.clearLatch_spec (s : State) (sound : ∀ p, (s.port p).Sound) :
    s.clearLatch.csu = { s.csu with thermalLatch := false } ∧ (∀ p, (s.clearLatch.port p).causes.thermal = false) ∧
      (s.csu.shutdownCondition = false → Inactive s.clearLatch.mga.faults .cabinet .thermalShutdown) ∧
      OnlyIn [.csu, .ports, .mail, .scu, .txs, .cbm, .lwu, .mga, .pbu] s s.clearLatch := by
  obtain ⟨w, hw⟩ : ∃ w : State, { s with csu := { s.csu with thermalLatch := false } } = w := ⟨_, rfl⟩
  have hsw : OnlyIn [.csu] s w := hw ▸ fun part hp => by cases part <;> simp_all [Part.Same]
  have hcsu : w.csu = { s.csu with thermalLatch := false } := by rw [← hw]
  have hplaced (q : Port) : (w.port q).ThermalPlaced := fun hthermal => by
    have hport : w.port q = s.port q := by rw [← hw]; rfl
    rw [hport] at hthermal ⊢
    exact (sound q).causes (by simp [DozeCauses.isEmpty, hthermal])
  obtain ⟨v, hv, ⟨hkept, hgone⟩, honly⟩ : ∃ v, allPorts.foldl (fun s p => s.removeDoze p .thermal) w = v ∧
      (ThermalKept w v ∧ ∀ p ∈ allPorts, (v.port p).causes.thermal = false) ∧ OnlyIn [.ports, .mail, .scu, .txs, .cbm, .lwu, .mga, .pbu] w v :=
    ⟨_, rfl, foldl_removeDoze_thermal allPorts w (by rw [hcsu]) hplaced, foldl_removeDoze_only .thermal allPorts w⟩
  have hclear : s.clearLatch = if v.csu.shutdownCondition then v else v.clearFault .cabinet .thermalShutdown := by
    unfold clearLatch
    rw [hw, hv]
  have hvcsu : v.csu = { s.csu with thermalLatch := false } := hkept.1.trans hcsu
  have hsv : OnlyIn [.csu, .ports, .mail, .scu, .txs, .cbm, .lwu, .mga, .pbu] s v := (hsw.mono (by decide)).trans (honly.mono (by decide))
  rw [hclear]
  cases hshut : v.csu.shutdownCondition with
  | true =>
    refine ⟨hvcsu, fun p => hgone p (List.mem_finRange p), fun h => ?_, hsv⟩
    rw [hvcsu] at hshut
    exact absurd (hshut.symm.trans h) nofun
  | false =>
    have hcleared : OnlyIn [.mga] v (v.clearFault .cabinet .thermalShutdown) := fun part hp => by cases part <;> simp_all [Part.Same]
    exact ⟨hvcsu, fun p => hgone p (List.mem_finRange p), fun _ => v.clearFault_inactive _ _, hsv.trans (hcleared.mono (by decide))⟩

/-- Settles O54. -/
theorem temperatureAndTheLatch : Obligations.TemperatureAndTheLatch := by
  refine ⟨fun raw s => ?_, ?_⟩
  · let v : Int := clampTemperature raw
    let u : State := { s.reach s.csu.temperatureDue with
      csu := { s.csu with temperature := some v, temperatureDue := max s.now s.csu.temperatureDue + 1000000 } }
    have hu : OnlyIn [.now, .csu] s u := fun part hp => by cases part <;> simp_all [Part.Same, u]
    have hreads := u.reading_reads v
    have hexec : exec (.temperatureReading raw) s = .next (State.judgeHeater v ((u.judgeWarn v).judgeShutdown v).judgeLatch) := rfl
    simp only [thermalCondition_eq] at hreads
    have hnow : _ = max s.now s.csu.temperatureDue := hreads.within .now (by decide)
    refine ⟨_, hexec, hnow, ⟨?_, hreads.stays, fun hoff hset p => ?_, hreads.evaluates, hreads.cools, hreads.warms, hreads.burns, hreads.ends⟩,
      hreads.reported, (hu.mono (by decide)).trans (hreads.within.mono (by decide))⟩
    · rw [hreads.csu, hnow]
      rfl
    · obtain ⟨x, hx, hport⟩ := hreads.latches hoff hset p
      have hx : x.port p = s.port p := hx
      rw [hport, ← hx]
      exact x.addDoze_thermal p
  intro o s may comes hot
  have hhot : (match s.csu.temperature with | some t => decide (s.settings.shutdownThreshold - 5 < t) | none => false) = true ↔ hot := by
    simp only [hot]
    cases s.csu.temperature <;> simp
  refine ⟨fun hclear => ⟨_, rfl, direct_refuses may rfl comes fun ml => if_pos (by simp [hclear])⟩, fun hset hstill => ⟨_, rfl,
    direct_refuses may rfl comes fun ml => ?_⟩, fun hset hcool sound => ?_⟩
  · exact (if_neg (by simp [hset])).trans (if_pos (hhot.mpr hstill))
  · obtain ⟨hanswered, ml, hbeside, -⟩ := direct_does (good := noParams []) (demands := .changing) (body := State.thermalClear)
      (f := State.clearLatch) may rfl comes fun ml => (if_neg (by simp [hset])).trans (if_neg fun h => hcool (hhot.mp h))
    obtain ⟨hcsu, hports, hinactive, honly⟩ := State.clearLatch_spec { s with mail := ml } sound
    obtain ⟨-, -, htcsu, -⟩ := besideDirective_blocks hbeside
    exact ⟨_, rfl, hanswered, htcsu.trans hcsu, fun p => by rw [besideDirective_port hbeside]; exact hports p,
      fun h => by rw [besideDirective_faults hbeside]; exact hinactive h,
      onlyIn_of_beside hbeside (((s.setMail_only ml).mono (by decide)).trans honly)⟩

end Sys2Proof.Machine
end

section
/-! The obligation on the reads: O58 (10.3, R181, R193, R194). -/

namespace Sys2Proof.Machine

variable {s : State} {o : Origin} {code : Octet} {params data : List Octet} {body : State → Answer} {good : Bool}

/-! ## Octets (R192) -/

theorem yesNo_octet (b : Bool) : yesNo b = [if b then 1#8 else 0#8] := by cases b <;> rfl

/-- Two octets of a signed number are those of its remainder by 65536. -/
theorem int2_eq (i : Int) : int2 i = num2 (i % 65536).toNat := by
  unfold int2
  rw [BitVec.toNat_ofInt]
  rfl

/-- A set of three flags is their weighted sum (R192). -/
theorem setOctet_flags (f : ItemFlags) : setOctet [f.saturated, f.limited, f.atOrAbove] =
    [octet ((if f.saturated then 1 else 0) + (if f.limited then 2 else 0) + (if f.atOrAbove then 4 else 0))] := by
  obtain ⟨a, b, c⟩ := f
  cases a <;> cases b <;> cases c <;> rfl

/-! ## The layouts of R194 -/

theorem wordOctets_eq (w : WordFields) : num1 w.bitCount ++ opt2 w.data ++ opt1 (w.parityGood.map fun g => if g then 0 else 1) ++ yesNo w.alarm ++
    num1 w.endReason.code = [octet w.bitCount] ++ (match w.data with | some x => num2 x | none => [255#8, 255#8]) ++
      [match w.parityGood with | some true => 0#8 | some false => 1#8 | none => 255#8, if w.alarm then 1#8 else 0#8, octet w.endReason.code] := by
  cases w.data <;> cases w.alarm <;> rcases w.parityGood with _ | _ | _ <;> rfl

theorem itemOctets_eq (i : Item) : itemOctets i =
    [octet i.name.code, octet i.path.code,
      octet ((if i.flags.saturated then 1 else 0) + (if i.flags.limited then 2 else 0) + (if i.flags.atOrAbove then 4 else 0)),
      octet i.verdict.code] ++ num2 ((i.value.getD 0) % 65536).toNat ++ num2 ((i.volts.getD 0) % 65536).toNat ++ num2 ((i.amps.getD 0) % 65536).toNat ++
      (match i.word with
       | some w =>
         [octet w.bitCount] ++ (match w.data with | some x => num2 x | none => [255#8, 255#8]) ++
           [match w.parityGood with | some true => 0#8 | some false => 1#8 | none => 255#8, if w.alarm then 1#8 else 0#8,
             octet w.endReason.code]
       | none => List.replicate 6 0#8) := by
  unfold itemOctets
  rw [setOctet_flags, int2_eq, int2_eq, int2_eq]
  cases i.word with
  | none => rfl
  | some w =>
    exact congrArg₂ (· ++ ·) rfl (wordOctets_eq w)

theorem itemOctets_length (i : Item) : (itemOctets i).length = 16 := by
  unfold itemOctets
  cases i.word <;> simp [num1, num2, int2, opt1, opt2, yesNo, setOctet]

theorem ResultRecord.octets_eq (x : ResultRecord) : x.octets =
    num2 x.request.id ++ [octet x.request.port.val, octet x.request.kind.code, octet x.request.mode.code, octet x.request.origin.code,
      octet x.request.urgency.code, octet x.outcome.code, octet (match x.cause with | some c => c.code | none => 255), octet x.items.length] ++
      num4 x.request.accepted ++ num4 x.ended ++ x.items.flatMap itemOctets := by
  unfold ResultRecord.octets
  cases x.cause <;> rfl

theorem ResultRecord.octets_length (x : ResultRecord) : x.octets.length = 18 + 16 * x.items.length := by
  have hitems : (x.items.flatMap itemOctets).length = 16 * x.items.length := by
    simp [List.length_flatMap, itemOctets_length, Nat.mul_comm]
  rw [octets_eq]
  simp [num2, num4, hitems]
  omega

theorem flowItemOctets_some (index : Nat) (e : FlowEntry) : flowItemOctets index (some e) =
    [octet index, 1#8, octet e.direction.code, octet (match e.port with | some p => p.val | none => 255)] ++ num2 e.vid ++
      [octet e.action.code, octet e.classMode.code, octet (match e.target with | some p => p.val | none => 255)] ++
      num2 (match e.retagVid with | some v => v | none => 0) ++ num4 e.hits.toNat := by
  obtain ⟨direction, port, vid, action, mode, target, retag, hits, stamp⟩ := e
  cases port <;> cases target <;> cases retag <;> rfl

theorem Subscriber.octets_eq (p : Port) (u : Subscriber) : Subscriber.octets p u =
    [octet p.val] ++ num4 u.committedUp ++ num4 u.upPeak ++ num4 u.downPeak ++ [octet u.weight] ++ num4 u.upBurst ++ num4 u.downBurst ++
      num2 u.expressCap ++ num2 u.bulkCap ++ [octet u.shedRank] ++ num2 u.portPower ++ num2 u.idleDoze ++
      [if u.wake then 1#8 else 0#8, if u.watch then 1#8 else 0#8] ++
      (match u.expected with | some x => num2 x | none => [255#8, 255#8]) ++ [octet u.policy.code] ++
      (match u.defaultVid with | some v => num2 v | none => [0#8, 0#8]) ++ [octet u.classThreshold] := by
  unfold Subscriber.octets
  rw [yesNo_octet, yesNo_octet]
  cases u.expected <;> cases u.defaultVid <;> rfl

/-! ## TEST_RESULT and TEST_LIST (R120) -/

/-- The first record of an id in the log is LOGGED. -/
theorem State.resultOctets_logged {id : Nat} {x : ResultRecord} {front back : List ResultRecord} (log : s.ptc.log = front ++ x :: back)
    (named : x.request.id = id) (first : ∀ y ∈ front, y.request.id ≠ id) : s.resultOctets id = 0#8 :: x.octets := by
  have hfind : (s.ptc.log.find? fun y => y.request.id == id) = some x :=
    List.find?_eq_some_iff_append.mpr ⟨by simpa using named, front, back, log, by simpa using first⟩
  unfold resultOctets
  rw [hfind]
  rfl

theorem State.resultOctets_notLogged {id : Nat} (log : ∀ x ∈ s.ptc.log, x.request.id ≠ id) :
    (s.ptc.log.find? fun y => y.request.id == id) = none :=
  List.find?_eq_none.mpr (by simpa using log)

theorem State.resultOctets_unknown {id : Nat} (log : ∀ x ∈ s.ptc.log, x.request.id ≠ id) (list : ∀ r ∈ s.ptc.requests, r.id ≠ id) :
    s.resultOctets id = [3#8] := by
  have hrecord : s.ptc.record id = none := List.find?_eq_none.mpr (by simpa using list)
  unfold resultOctets
  rw [resultOctets_notLogged log, hrecord]
  rfl

/-- The first record of an id in the list, WAITING: its place and its remaining wait time. -/
theorem State.resultOctets_waiting {id : Nat} {r : Request} {front back : List Request} (log : ∀ x ∈ s.ptc.log, x.request.id ≠ id)
    (list : s.ptc.requests = front ++ r :: back) (named : r.id = id) (first : ∀ y ∈ front, y.id ≠ id) (waiting : r.status = .waiting) :
    s.resultOctets id = 2#8 :: num4 (front.length + 1) ++
      num4 ((s.resetAt + (r.accepted + s.settings.testWaitLimit) * 1000000 - s.now + 999999) / 1000000) := by
  have hrecord : s.ptc.record id = some r :=
    List.find?_eq_some_iff_append.mpr ⟨by simpa using named, front, back, list, by simpa using first⟩
  have hplace : placeOf id s.ptc.requests = front.length + 1 := by
    unfold placeOf
    rw [list, List.takeWhile_append_of_pos (by simpa using first), List.takeWhile_cons_of_neg (by simp [named]), List.append_nil]
  have hleft : s.waitLeft r = (s.resetAt + (r.accepted + s.settings.testWaitLimit) * 1000000 - s.now + 999999) / 1000000 := by
    unfold waitLeft leftSeconds ceilDiv left deadline sec
    omega
  unfold resultOctets
  simp only [resultOctets_notLogged log, hrecord, waiting, hplace, hleft]
  simp [num1, octet]

/-! ## Reads that come up (R181) -/

/-- A read of the state: answered DONE with its data, and nothing changes. -/
theorem direct_reads (length : good = true) (comes : s.comesUp o code params)
    (does : ∀ ml : List Instr, body { s with mail := ml } = doneWith data { s with mail := ml }) :
    Answered code .done data s (s.direct o code params good .read body) ∧
      (s.direct o code params good .read body).besideDirective = s.besideDirective := by
  obtain ⟨hanswered, ml, hbeside, -⟩ := direct_freely (f := id) length comes does
  exact ⟨hanswered, hbeside⟩

theorem Bank.octet_zero_iff (b : Octet) : b.toNat = 0 ↔ b = 0#8 := ⟨fun h => BitVec.eq_of_toNat_eq h, fun h => h ▸ rfl⟩

/-- FT_READ of a bank and a range (R41). -/
theorem State.ftRead_good {bank first count : Octet} (hbank : bank.toNat ≤ 1) (hcount : count.toNat ≤ 16)
    (hrange : first.toNat + count.toNat ≤ 256) (s : State) : s.ftRead [bank, first, count] =
      doneWith (s.ftSummary ++ Bank.items first.toNat (if bank = 0#8 then s.fcl.active else s.fcl.candidate) count.toNat) s := by
  have hin : ¬(1 < bank.toNat ∨ 16 < count.toNat ∨ 256 < first.toNat + count.toNat) := by omega
  simp only [ftRead, if_neg hin, Bank.octet_zero_iff]

theorem counterGroupOf_none {n : Nat} (h : 4 < n) : counterGroupOf n = none := by
  obtain ⟨k, rfl⟩ : ∃ k, n = k + 5 := ⟨n - 5, by omega⟩
  rfl

/-- COUNTERS_READ outside its groups or with a clear that is neither yes nor no. -/
theorem State.countersRead_bad {group clear : Octet} (bad : 4 < group.toNat ∨ 1 < clear.toNat) (s : State) :
    s.countersRead [group, clear] = refuse .badParam s := by
  unfold countersRead
  rcases bad with h | h
  · have hnone : counterGroupOf group.toNat = none := counterGroupOf_none h
    simp [hnone]
  · simp only [h, if_true]
    cases counterGroupOf group.toNat <;> rfl

/-- A COUNTERS_READ that is asked to clear needs write permission from the craft port, and no other does (R181). -/
theorem State.countersRead_passes {group clear : Octet} (may : clear = 1#8 → o = .craft → s.craftPermitted = true) (ml : List Instr)
    (body : State → Answer) : ({ s with mail := ml } : State).answer o (octets 2 [group, clear])
      { unlocked := false, permission := asksClear [group, clear] } body = body { s with mail := ml } := by
  have hcraft : ({ s with mail := ml } : State).craftPermitted = s.craftPermitted := rfl
  have hgate : ({ s with mail := ml } : State).gate o (octets 2 [group, clear]) { unlocked := false, permission := asksClear [group, clear] } = none := by
    cases o with
    | uplink => simp [gate, octets]
    | craft =>
      by_cases h : clear.toNat = 1
      · simp [gate, octets, hcraft, may (BitVec.eq_of_toNat_eq h) rfl]
      · simp [gate, octets, asksClear, h]
  unfold answer
  rw [hgate]

/-- What messages there are does not change what a group holds. -/
theorem State.groupOctets_mail (ml : List Instr) (g : CounterGroup) (s : State) : ({ s with mail := ml } : State).groupOctets g = s.groupOctets g := by
  cases g <;> rfl

theorem State.clearGroup_mail (ml : List Instr) (g : CounterGroup) (s : State) :
    (({ s with mail := ml } : State).clearGroup g).besideDirective = (s.clearGroup g).besideDirective := by cases g <;> rfl

theorem octet_toNat {n : Nat} (hn : n < 256) : (octet n).toNat = n := by
  simp only [octet, BitVec.toNat_ofNat]
  omega

theorem clear_toNat (clear : Bool) : (if clear = true then 1#8 else 0#8).toNat = (if clear = true then 1 else 0) := by cases clear <;> rfl

/-- A COUNTERS_READ of a group (R189). -/
theorem State.countersRead_good {group : Nat} {which : CounterGroup} (named : counterGroupOf group = some which) (small : group < 256) (clear : Bool)
    (s : State) : s.countersRead [octet group, if clear = true then 1#8 else 0#8] =
      { state := if clear = true then s.clearGroup which else s, ifCut := s, outcome := .done, data := s.groupOctets which } := by
  unfold countersRead
  simp only [octet_toNat small, named]
  cases clear <;> rfl

/-- The agent's own settings come first (R188). -/
theorem Settings.octets_eq (g : Settings) :
    ∃ others, g.octets = (octet g.craftPolicy.code :: g.noticeEnables.toList.map fun b => if b then 1#8 else 0#8) ++ others := by
  have henables : g.noticeEnables.toList.flatMap yesNo = g.noticeEnables.toList.map fun b => if b then 1#8 else 0#8 := by
    rw [List.map_eq_flatMap]
    exact List.flatMap_congr fun b _ => yesNo_octet b
  unfold octets
  rw [henables]
  simp only [List.append_assoc, num1, List.singleton_append]
  exact ⟨_, rfl⟩

/-- FAULT_READ: whether it takes the inactive records out (R184, R197). -/
theorem State.faultRead_eq (s : State) : s.faultRead o =
    { state := if o = .uplink ∨ s.craftPermitted = true then { s with mga := { s.mga with faults := s.mga.faults.filter (·.active) } } else s
      ifCut := s, outcome := .done, data := s.mga.faults.flatMap FaultRecord.octets ++ num4 s.mga.faultsLost } := by
  unfold faultRead
  cases o with
  | uplink => rfl
  | craft => cases h : s.craftPermitted <;> simp [doneWith]

/-- What a FAULT_READ leaves in the log: it goes by permission and by whether its entry is cut (R184, R197). -/
theorem faults_of_read (may fits : Prop) [Decidable may] [Decidable fits] (log : List FaultRecord) (s : State) :
    (if fits then (if may then { s with mga := { s.mga with faults := log } } else s) else s).mga.faults =
      if may ∧ fits then log else s.mga.faults := by
  by_cases hmay : may <;> by_cases hfits : fits <;> simp [hmay, hfits]

/-- Settles O58. -/
theorem readsAnswerAndChangeNothing : Obligations.ReadsAnswerAndChangeNothing := by
  refine ⟨fun n => ⟨rfl, rfl, rfl, by simp [octet]⟩, fun index e => ⟨flowItemOctets_some index e, ?_, rfl⟩, fun p u => ⟨u.octets_eq p, ?_⟩,
    fun i => ⟨itemOctets_eq i, itemOctets_length i⟩, fun x => ⟨x.octets_eq, x.octets_length⟩,
    fun id s => ⟨fun front x back hlog hid hfirst => State.resultOctets_logged hlog hid hfirst, State.resultOctets_unknown,
      fun front r back hlog hlist hid hfirst hwaiting => State.resultOctets_waiting hlog hlist hid hfirst hwaiting⟩,
    fun g s r => ⟨?_, fun hrunning => ?_⟩, fun o s => ⟨fun p => ⟨fun comes => ?_, fun comes => ?_⟩,
      fun bank first count hbank hcount hrange comes => ?_, fun x hbad => ⟨fun comes => ?_, fun comes => ?_⟩,
      fun bank first count hbad comes => ?_, fun comes => ?_, fun group clear hbad may comes => ?_, fun id hlow hhigh comes => ?_,
      fun comes => ?_, fun comes => ?_, fun comes => ?_, fun comes => ?_, fun comes => ?_, fun comes => ?_, fun comes => ?_, fun comes => ?_,
      fun comes => ?_, fun group which clear hwhich hsmall may comes => ?_⟩⟩
  · simp [flowItemOctets, num1, num2, num4, opt1]
  · simp [Subscriber.octets, num1, num2, num4, yesNo, opt2]
  · obtain ⟨others, hothers⟩ := g.octets_eq
    rw [hothers]
    exact List.take_left' (by simp)
  · simp [State.requestOctets, hrunning, num1, num4, opt4, octet, RequestStatus.code]
  · exact ⟨_, rfl, direct_reads rfl comes fun ml => onPort_good p _ _⟩
  · exact ⟨_, rfl, direct_reads rfl comes fun ml => onPort_good p _ _⟩
  · exact ⟨_, rfl, direct_reads rfl comes fun ml => State.ftRead_good hbank hcount hrange _⟩
  · exact ⟨_, rfl, direct_freely_refused rfl comes fun ml => onPort_bad hbad _ _⟩
  · exact ⟨_, rfl, direct_freely_refused rfl comes fun ml => onPort_bad hbad _ _⟩
  · exact ⟨_, rfl, direct_freely_refused rfl comes fun ml => if_pos hbad⟩
  · exact ⟨_, rfl, direct_freely_refused rfl comes fun ml => if_pos (by decide)⟩
  · exact ⟨_, rfl, State.direct_refused comes (fun ml => State.countersRead_passes may ml _) fun ml => State.countersRead_bad hbad _⟩
  · obtain ⟨hnamed, hlength⟩ := namedId_num2 hhigh
    refine ⟨_, rfl, direct_reads hlength comes fun ml => ?_⟩
    simp only [State.testResult, hnamed, if_neg (Nat.ne_of_gt hlow)]
    rfl
  · exact ⟨_, rfl, direct_reads rfl comes fun ml => rfl⟩
  · exact ⟨_, rfl, direct_reads rfl comes fun ml => rfl⟩
  · exact ⟨_, rfl, direct_reads rfl comes fun ml => rfl⟩
  · exact ⟨_, rfl, direct_reads rfl comes fun ml => rfl⟩
  · exact ⟨_, rfl, direct_reads rfl comes fun ml => rfl⟩
  · exact ⟨_, rfl, direct_reads rfl comes fun ml => rfl⟩
  · exact ⟨_, rfl, direct_reads rfl comes fun ml => rfl⟩
  · exact ⟨_, rfl, direct_reads rfl comes fun ml => rfl⟩
  · obtain ⟨ml, v, hv, hanswered, hbeside, -⟩ := State.direct_owner (lengthGood := noParams []) (demands := .read) (body := State.faultRead o) comes
      fun ml => (State.answer_free _ o _).1
    rw [State.faultRead_eq] at hv hanswered
    refine ⟨_, rfl, hanswered, (besideDirective_faults hbeside).trans ?_, (congrArg (fun u => u.mga.faultsLost) hbeside).trans ?_,
      onlyIn_of_beside hbeside ?_⟩
    · rw [hv]
      exact faults_of_read _ _ _ _
    · show v.mga.faultsLost = _
      rw [hv]
      dsimp only
      split
      · split <;> rfl
      · rfl
    · rw [hv]
      dsimp only
      split
      · split
        · exact fun part hp => by cases part <;> simp_all [Part.Same]
        · exact (s.setMail_only ml).mono (by decide)
      · exact (s.setMail_only ml).mono (by decide)
  · obtain ⟨ml, v, hv, hanswered, hbeside, -⟩ := State.direct_owner comes fun ml => State.countersRead_passes 
      (group := octet group) (clear := if clear = true then 1#8 else 0#8) (fun h => may (by cases clear <;> simp_all)) ml
      (State.countersRead [octet group, if clear = true then 1#8 else 0#8])
    rw [State.countersRead_good hwhich hsmall] at hv hanswered
    rw [State.groupOctets_mail] at hv hanswered
    refine ⟨_, rfl, hanswered, hbeside.trans ?_⟩
    rw [hv]
    dsimp only
    cases clear with
    | false => simp [State.besideDirective]
    | true =>
      cases s.dataFits (s.groupOctets which).length with
      | false => rfl
      | true => exact State.clearGroup_mail ml which s

end Sys2Proof.Machine
end

section
/-! The obligation on how a run starts, stops and goes on: O49 (07, 7.1, 7.2). -/

namespace Sys2Proof.Machine

variable {s t : State} {r : RunRecord} {n : Nat} {sort : StepSort} {path : SensePath}

/-! ## Steps (R124, R125) -/

/-- The record of a step that starts (R124, step 1). -/
def RunRecord.entering (r : RunRecord) (n : Nat) (sort : StepSort) (config : MeasConfig) (now : Nat) : RunRecord :=
  { r with
    step := n, phase := if sort = .sig then .settle else .acquire, due := now + config.acquisition sort * 1000, config := config, acc := .zero }

/-- A step of the list starts with its acquisition (R124). -/
theorem State.startStep_some (h : (TestKind.steps r.kind)[n]? = some (sort, path)) (s : State) : s.startStep n r =
    (s.setFrontEnd (s.msu.config.sourceOf sort) (some path)).setRun (r.entering n sort s.msu.config s.now) := by
  unfold startStep
  rw [h]
  rfl

/-- Past the last step the run ends with MEASURE_DONE (R125). -/
theorem State.startStep_none (h : (TestKind.steps r.kind)[n]? = none) (s : State) : s.startStep n r =
    ({ s with msu := { s.msu with run := .idle, source := none, path := none } } : State).post .measureDone := by
  unfold startStep
  rw [h]

theorem State.setMsu_only (x : Measurement) (s : State) : OnlyIn [.msu] s { s with msu := x } := fun part hp => by
  cases part <;> simp_all [Part.Same]

theorem State.startStep_only (n : Nat) (r : RunRecord) (s : State) : OnlyIn [.msu, .mail] s (s.startStep n r) := fun part hp => by
  cases part <;> simp_all [Part.Same]

theorem State.startRun_only (k : KeptStart) (s : State) : OnlyIn [.msu, .mail] s (s.startRun k) := s.startStep_only _ _

theorem State.reach_only (due : Nat) (s : State) : OnlyIn [.now] s (s.reach due) := fun part hp => by
  cases part <;> simp_all [Part.Same, reach]

theorem State.discharge_only (s : State) : OnlyIn [.msu] s s.discharge := s.setMsu_only _

/-- The first step of a kind (R125). -/
theorem TestKind.steps_first (kind : TestKind) : (TestKind.steps kind)[0]? = some (match kind with
    | .foreignVoltage | .full => (.fv, .tg)
    | .insulation => (.ins, .tg)
    | .signature => (.sig, .tr)) := by cases kind <;> rfl

/-- A run that starts in its first step (R125). -/
def Started (k : KeptStart) (s t : State) : Prop :=
  ∃ sort path, (TestKind.steps k.kind)[0]? = some (sort, path) ∧
    (∃ r, t.msu.run = .running r ∧ r.id = k.id ∧ r.config = s.msu.config ∧ r.pair = k.pair ∧ r.kind = k.kind ∧ r.expected = k.expected ∧ r.step = 0 ∧
      r.phase = (if sort = .sig then .settle else .acquire) ∧ r.due = t.now + s.msu.config.acquisition sort * 1000 ∧ r.stopped = false) ∧
    t.msu.source = s.msu.config.sourceOf sort ∧ t.msu.path = some path ∧ t.msu.kept = s.msu.kept

theorem State.startRun_started (k : KeptStart) (s : State) : Started k s (s.startRun k) := by
  obtain ⟨⟨sort, path⟩, hfirst⟩ : ∃ step, (TestKind.steps k.kind)[0]? = some step := ⟨_, TestKind.steps_first k.kind⟩
  refine ⟨sort, path, hfirst, ?_⟩
  unfold startRun
  rw [startStep_some hfirst]
  exact ⟨⟨_, rfl, rfl, rfl, rfl, rfl, rfl, rfl, rfl, rfl, rfl⟩, rfl, rfl, rfl⟩

/-- Settles O49. -/
theorem runsStartStopAndEnd : Obligations.RunsStartStopAndEnd := by
  intro id p kind expected s first source wait started discharging
  have hsource (sort : StepSort) : source sort = s.msu.config.sourceOf sort := by cases sort <;> rfl
  have hwait (sort : StepSort) : wait sort = s.msu.config.acquisition sort := by cases sort <;> rfl
  have hstarted (u t : State) (hconfig : u.msu.config = s.msu.config) (h : Started ⟨id, p, kind, expected⟩ u t) : started t := by
    obtain ⟨sort, path, hfirst, ⟨r, hrun, hid, hcfg, hpair, hkind, hexpected, hstep, hphase, hdue, hstopped⟩, hon, hpath, -⟩ := h
    have hstep₀ : first = (sort, path) := Option.some.inj ((TestKind.steps_first kind).symm.trans hfirst)
    rw [hconfig] at hcfg hdue hon
    refine ⟨⟨r, hrun, hid, hcfg, hpair, hkind, hexpected, hstep, ?_, ?_, hstopped⟩, ?_, ?_⟩
    · rw [hstep₀]; exact hphase
    · rw [hstep₀, hwait]; exact hdue
    · rw [hstep₀, hsource]; exact hon
    · rw [hstep₀]; exact hpath
  let u := s.taken (.measureStart ⟨id, p⟩ kind expected)
  have htaken : OnlyIn [.msu, .mail] s u := (s.taken_only _).mono (by decide)
  let v := s.taken .measureStop
  have hstop : OnlyIn [.msu, .mail] s v := (s.taken_only _).mono (by decide)
  refine ⟨fun hidle => ?_, fun e he => ?_, fun r hr => ?_, fun r hr hgap => ?_, fun r hr hgap => ?_, fun hnot => ?_, fun r hr hgap => ?_,
    fun e he => ?_⟩
  · exact ⟨u.startRun ⟨id, p, kind, expected⟩, by simp [exec, execMeasureStart, hidle, u], hstarted u _ (by simp [u]) (State.startRun_started _ _),
      htaken.trans (State.startRun_only _ _)⟩
  · exact ⟨{ u with msu := { u.msu with kept := some ⟨id, p, kind, expected⟩ } }, by simp [exec, execMeasureStart, he, u], by simp [u],
      htaken.trans ((State.setMsu_only _ _).mono (by decide))⟩
  · exact ⟨u, by simp [exec, execMeasureStart, hr, u], s.taken_only _⟩
  · exact ⟨v.discharge, by simp [exec, execMeasureStop, hr, hgap, v], ⟨by simp [State.discharge, ms, v], rfl, rfl⟩,
      hstop.trans (v.discharge_only.mono (by decide))⟩
  · exact ⟨v.setRun { r with stopped := true }, by simp [exec, execMeasureStop, hr, hgap, v], by simp [v],
      hstop.trans ((State.setMsu_only _ _).mono (by decide))⟩
  · refine ⟨v, ?_, s.taken_only _⟩
    cases hrun : s.msu.run with
    | running r => exact absurd hrun (hnot r)
    | idle => simp [exec, execMeasureStop, hrun, v]
    | discharging e => simp [exec, execMeasureStop, hrun, v]
  · let w := s.reach r.due
    have hnow : w.now = max s.now r.due := rfl
    have hreach : OnlyIn [.now, .msu, .mail] s w := (s.reach_only r.due).mono (by decide)
    cases hstopped : r.stopped with
    | true =>
      exact ⟨{ w with msu := { w.msu with run := .idle } }, by simp [exec, execDischargeGapEnd, hr, hgap, hstopped, w], hnow, fun _ => rfl, nofun,
        nofun, hreach.trans ((State.setMsu_only _ _).mono (by decide))⟩
    | false =>
      refine ⟨w.startStep (r.step + 1) r, by simp [exec, execDischargeGapEnd, hr, hgap, hstopped, w], by simp [hnow], nofun, fun sort path _ hnext => ?_,
        fun _ hnext => ?_, hreach.trans ((State.startStep_only _ _ _).mono (by decide))⟩
      · rw [State.startStep_some hnext]
        exact ⟨(hsource sort).symm, rfl, rfl, _, rfl, rfl, rfl, rfl, rfl, by rw [hwait]; rfl⟩
      · rw [State.startStep_none hnext]
        exact ⟨rfl, rfl, rfl, rfl⟩
  · let w : State := { s.reach e with msu := { s.msu with run := .idle, kept := none } }
    have hreach : OnlyIn [.now, .msu, .mail] s w := ((s.reach_only e).mono (by decide)).trans ((State.setMsu_only _ (s.reach e)).mono (by decide))
    cases hkept : s.msu.kept with
    | none => exact ⟨w, by simp [exec, execDischargeEnd, he, hkept, w], rfl, fun _ => by simp [w, hkept], nofun, hreach⟩
    | some k =>
      refine ⟨w.startRun k, by simp [exec, execDischargeEnd, he, hkept, w], by simp [w], nofun, fun hk => ?_,
        hreach.trans ((State.startRun_only _ _).mono (by decide))⟩
      obtain rfl := Option.some.inj hk
      obtain ⟨-, -, -, -, -, -, hnone⟩ := State.startRun_started ⟨id, p, kind, expected⟩ w
      exact ⟨hstarted w _ rfl (State.startRun_started _ _), hnone⟩

end Sys2Proof.Machine
end

section
/-! The obligation on acquisition, the hazard stop and the samples of FV, INS, GUARD and BASE: O50 (07, 7.1 to 7.5). -/

namespace Sys2Proof.Machine

variable {s t : State} {r : RunRecord} {n : Nat} {sort : StepSort} {path : SensePath} {code : BitVec 12} {limit : Bool} {items : List Item}

/-! ## The end of a step (R124) -/

/-- After a step with its source off comes the next step, with no gap. -/
theorem State.completeStep_off (hoff : s.msu.source = none) : s.completeStep items r = (s.sendItems r.id items).startStep (r.step + 1) r := by
  have hnone : ¬(s.sendItems r.id items).msu.source.isSome = true := by simp [sendItems, hoff]
  unfold completeStep
  exact if_neg hnone

/-- After a step with its source on comes the discharge gap of 10 ms, with the source off and the path deselected. -/
theorem State.completeStep_on (hon : s.msu.source ≠ none) : s.completeStep items r =
    ((s.sendItems r.id items).setFrontEnd none none).setRun { r with phase := .gap, due := s.now + 10000, acc := .zero } := by
  have hsome : (s.sendItems r.id items).msu.source.isSome = true := Option.isSome_iff_ne_none.mpr hon
  unfold completeStep
  exact if_pos hsome

/-! ## Samples (R123, R129, R131, R133) -/

/-- Whether the sample that comes next in a phase of conversions is one of ISRC. -/
def RunRecord.amps (r : RunRecord) (sort : StepSort) : Bool :=
  r.phase == .base || (r.phase == .convert && sort == .ins && r.acc.taken % 2 == 1)

/-- A phase of conversions. -/
def RunRecord.Converting (r : RunRecord) : Prop := r.phase = .convert ∨ r.phase = .guard ∨ r.phase = .base

/-- A step senses two wires of the pair, never the source's current (R125). -/
theorem TestKind.steps_path {kind : TestKind} (h : (TestKind.steps kind)[n]? = some (sort, path)) : path ≠ .isrc := by
  have hall : ∀ x ∈ TestKind.steps kind, x.2 ≠ .isrc := by cases kind <;> decide
  exact hall _ (List.mem_of_getElem? h)

/-- Which samples convert ISRC (R129, R131, R133). -/
theorem RunRecord.convertedPath_isrc (hstep : r.current = some (sort, path)) (hconverting : r.Converting) :
    r.convertedPath path = if r.amps sort = true then .isrc else path := by
  unfold convertedPath amps
  rcases hconverting with h | h | h <;> rw [h]
  · rw [hstep]
    cases sort <;> rcases Nat.mod_two_eq_zero_or_one r.acc.taken with hp | hp <;> simp [hp]
  · rfl
  · rfl

theorem RunRecord.convertedPath_isrc_iff (hstep : r.current = some (sort, path)) (hconverting : r.Converting) :
    (r.convertedPath path == .isrc) = r.amps sort := by
  have hpath : path ≠ .isrc := TestKind.steps_path hstep
  rw [convertedPath_isrc hstep hconverting]
  cases r.amps sort <;> simp [hpath]

/-- How many samples a phase of conversions takes (R129, R131, R133). -/
theorem RunRecord.count_eq (hstep : r.current = some (sort, path)) (hconverting : r.Converting) : r.count =
    match r.phase with
    | .guard => 4
    | .base => 20 * r.config.baseWindow
    | _ => if sort = .ins then 32 else 80 := by
  unfold count
  rcases hconverting with h | h | h <;> rw [h]
  rw [hstep]
  cases sort <;> rfl

/-- A voltage code at or beyond the hazard code, in a phase of conversions. -/
def RunRecord.Hazardous (r : RunRecord) (sort : StepSort) (code : BitVec 12) : Prop :=
  r.amps sort = false ∧ r.config.hazardCode ≤ code.toInt.natAbs

theorem RunRecord.isHazard_iff (hstep : r.current = some (sort, path)) (hconverting : r.Converting) :
    isHazard r.config (r.convertedPath path) code.toInt = true ↔ r.Hazardous sort code := by
  have hbeq : (r.convertedPath path != .isrc) = !r.amps sort := congrArg (!·) (convertedPath_isrc_iff hstep hconverting)
  unfold isHazard Hazardous
  rw [hbeq]
  simp

/-- A record with one more sample. -/
def RunRecord.sampled (r : RunRecord) (sort : StepSort) (code : BitVec 12) (limit : Bool) : RunRecord :=
  { r with acc := r.acc.add (r.amps sort) code.toInt limit }

theorem State.takeSample_eq (hstep : r.current = some (sort, path)) (hconverting : r.Converting) (s : State) : s.takeSample code limit r =
    if isHazard r.config (r.convertedPath path) code.toInt then (s.reach r.due).measureHazard (r.convertedPath path) code r
    else if r.count ≤ r.acc.taken + 1 then (s.reach r.due).endSamples path (r.sampled sort code limit)
    else ((s.reach r.due).setFrontEnd s.msu.source (some ((r.sampled sort code limit).convertedPath path))).setRun
      { r.sampled sort code limit with due := max s.now r.due + (r.sampled sort code limit).interval } := by
  unfold takeSample
  simp only [hstep]
  rw [RunRecord.convertedPath_isrc_iff hstep hconverting]
  rfl

/-- A converter code in a phase of conversions: a hazard ends the run, the last sample ends the phase, and any other awaits the next. -/
theorem State.conversionSample_spec (hrun : s.msu.run = .running r) (hstep : r.current = some (sort, path)) (hconverting : r.Converting) :
    (r.Hazardous sort code → exec (.conversionSample code limit) s = .next ((s.reach r.due).measureHazard path code r)) ∧
      (¬r.Hazardous sort code → r.count ≤ r.acc.taken + 1 →
        exec (.conversionSample code limit) s = .next ((s.reach r.due).endSamples path (r.sampled sort code limit))) ∧
      (¬r.Hazardous sort code → r.acc.taken + 1 < r.count → ∃ on due, exec (.conversionSample code limit) s =
        .next (((s.reach r.due).setFrontEnd s.msu.source on).setRun { r.sampled sort code limit with due := due })) := by
  have hexec : exec (.conversionSample code limit) s = .next (s.takeSample code limit r) := by
    rcases hconverting with h | h | h <;> simp [exec, execConversionSample, hrun, h]
  have hiff := RunRecord.isHazard_iff (code := code) hstep hconverting
  rw [hexec, takeSample_eq hstep hconverting]
  refine ⟨fun h => ?_, fun h hlast => ?_, fun h hmore => ?_⟩
  · have hpath : r.convertedPath path = path := by rw [RunRecord.convertedPath_isrc hstep hconverting, if_neg (by simp [h.1])]
    rw [if_pos (hiff.mpr h), hpath]
  · rw [if_neg (mt hiff.mp h), if_pos hlast]
  · rw [if_neg (mt hiff.mp h), if_neg (Nat.not_le.mpr hmore)]
    exact ⟨_, _, rfl⟩

/-- Any sample leaves the other blocks. -/
theorem State.takeSample_only (code : BitVec 12) (limit : Bool) (r : RunRecord) (s : State) :
    OnlyIn [.now, .msu, .mail] s (s.takeSample code limit r) := fun part hp => by cases part <;> simp_all [Part.Same]

theorem State.conversionSample_only (hrun : s.msu.run = .running r) (hconverting : r.Converting)
    (h : exec (.conversionSample code limit) s = .next t) : OnlyIn [.now, .msu, .mail] s t := by
  have hexec : exec (.conversionSample code limit) s = .next (s.takeSample code limit r) := by
    rcases hconverting with h | h | h <;> simp [exec, execConversionSample, hrun, h]
  obtain rfl : s.takeSample code limit r = t := Host.Outcome.next.inj (hexec.symm.trans h)
  exact s.takeSample_only _ _ _

/-! ## Items (R129 to R133) -/

theorem isSaturated_eq (x : Int) : isSaturated x = decide (x = -2048 ∨ x = 2047) := (Bool.decide_or _ _).symm

/-- The resistance as a number, by the corrected means (R132). -/
theorem resistance_spec (v i : Int) : ((resistance v i).1 : Int) = (if i ≤ 0 then 20470 else if v < 0 then 0 else 10 * v / i) ∧
    (resistance v i).2 = decide (i ≤ 0) := by
  unfold resistance
  by_cases hi : i ≤ 0
  · simp [hi]
  · by_cases hv : v < 0
    · simp [hi, hv]
    · have hpos : 0 ≤ 10 * v / i := Int.ediv_nonneg (by omega) (by omega)
      simp [hi, hv, Int.toNat_of_nonneg hpos]

theorem lowVerdict_iff (b : Bool) : (if b then Verdict.low else .ok) = .low ↔ b = true := by cases b <;> decide

theorem highVerdict_iff (b : Bool) : (if b then Verdict.high else .ok) = .high ↔ b = true := by cases b <;> decide

/-- The items of an FV step (R129, R130). -/
theorem fvItems_spec (cfg : MeasConfig) (path : SensePath) (a : Accumulator) : ∃ dc ac : Item, fvItems cfg path a = [dc, ac] ∧
    dc.name = .fvDc ∧ ac.name = .fvAc ∧ dc.path = path ∧ ac.path = path ∧ dc.value = some (roundedMean a.sum 80) ∧
    (dc.verdict = .high ↔ cfg.dcLimit < (roundedMean a.sum 80).natAbs) ∧ ac.value = some ((a.high - a.low).toNat / 2 : Nat) ∧
    (ac.verdict = .high ↔ cfg.acLimit < (a.high - a.low).toNat / 2) :=
  ⟨_, _, rfl, rfl, rfl, rfl, rfl, rfl, (highVerdict_iff _).trans decide_eq_true_iff, rfl, (highVerdict_iff _).trans decide_eq_true_iff⟩

/-- What a voltage code adds to the samples (R123). -/
theorem RunRecord.sampled_volts (hvolts : r.amps sort = false) (hmore : r.acc.taken ≠ 0) :
    (r.sampled sort code limit).acc.sum = r.acc.sum + code.toInt ∧ (r.sampled sort code limit).acc.high = max r.acc.high code.toInt ∧
      (r.sampled sort code limit).acc.low = min r.acc.low code.toInt := by
  unfold sampled Accumulator.add
  simp [hvolts, hmore]

/-- What a code of ISRC adds to the samples (R131, R133). -/
theorem RunRecord.sampled_amps (hamps : r.amps sort = true) : (r.sampled sort code limit).acc.sum = r.acc.sum ∧
    (r.sampled sort code limit).acc.ampSum = r.acc.ampSum + code.toInt := by
  unfold sampled Accumulator.add
  simp [hamps]

/-- The item of an INS step in its means turned by the polarity (R131, R132). -/
theorem insItem_spec (cfg : MeasConfig) (path : SensePath) (a : Accumulator) :
    let turn (x : Int) : Int := if cfg.insPolarity = .negative then -x else x
    let v := turn (roundedMean a.sum 16)
    let i := turn (roundedMean a.ampSum 16)
    (insItem cfg path a).name = .insR ∧ (insItem cfg path a).path = path ∧ (insItem cfg path a).volts = some v ∧ (insItem cfg path a).amps = some i ∧
      (insItem cfg path a).value = some (if i ≤ 0 then 20470 else if v < 0 then 0 else 10 * v / i) ∧
      (insItem cfg path a).flags.atOrAbove = decide (i ≤ 0) ∧
      ((insItem cfg path a).verdict = .low ↔ 0 < i ∧ (if v < 0 then 0 else 10 * v / i) < cfg.insMinimum) := by
  intro turn v i
  obtain ⟨hvalue, habove⟩ := resistance_spec v i
  have hitem : insItem cfg path a =
      { name := .insR, path := path, value := some (resistance v i).1, volts := some v, amps := some i, word := none
        flags := { a.flags with atOrAbove := (resistance v i).2 }
        verdict := if !(resistance v i).2 && decide ((resistance v i).1 < cfg.insMinimum) then .low else .ok } := rfl
  rw [hitem]
  refine ⟨rfl, rfl, rfl, rfl, congrArg some hvalue, habove, (lowVerdict_iff _).trans ?_⟩
  rw [habove]
  by_cases hi : i ≤ 0
  · simp [hi]
  · have hi' : 0 < i := by omega
    rw [if_neg hi] at hvalue
    simp only [hi, hi', decide_false, Bool.not_false, Bool.true_and, decide_eq_true_eq, true_and]
    omega

/-- The base is good exactly within its range (R133). -/
theorem sigBaseItem_ok (cfg : MeasConfig) (ib0 : Int) (flags : ItemFlags) :
    (sigBaseItem cfg ib0 flags).verdict = .ok ↔ (cfg.baseMinimum : Int) ≤ ib0 ∧ ib0 ≤ cfg.baseMaximum := by
  unfold sigBaseItem
  dsimp only
  split
  · simp; omega
  · split <;> simp <;> omega

theorem sigBaseItem_bad {cfg : MeasConfig} {ib0 : Int} (bad : ib0 < cfg.baseMinimum ∨ cfg.baseMaximum < ib0) (flags : ItemFlags) :
    (sigBaseItem cfg ib0 flags).verdict = if ib0 < cfg.baseMinimum then .noNtu else .leaky := by
  unfold sigBaseItem
  by_cases hlow : ib0 < cfg.baseMinimum
  · simp [hlow]
  · simp [hlow, bad.resolve_left hlow]

/-- The thresholds fixed at the end of BASE (R134, R135). -/
theorem MeasConfig.thresholds_spec (cfg : MeasConfig) (ib0 : Int) :
    (cfg.thresholdMode = .adaptive → (cfg.thresholds ib0).rise1 = ib0 + (cfg.delta1 / 2 : Nat) ∧
        (cfg.thresholds ib0).rise2 = ib0 + cfg.delta1 + (cfg.delta2 / 2 : Nat)) ∧
      (cfg.thresholdMode = .fixed → (cfg.thresholds ib0).rise1 = 40 + 4 * cfg.first ∧
        (cfg.thresholds ib0).rise2 = 80 + 4 * cfg.first + 4 * cfg.offset) ∧
      (cfg.thresholds ib0).fall1 = ib0 + ((cfg.thresholds ib0).rise1 - ib0) * 3 / 4 ∧
      (cfg.thresholds ib0).fall2 = ib0 + ((cfg.thresholds ib0).rise2 - ib0) * 3 / 4 := by
  refine ⟨fun h => ?_, fun h => ?_, rfl, rfl⟩
  · simp only [thresholds, h, and_self]
  · simp only [thresholds, h, true_and]
    omega

/-- A step that completes with its source on enters GAP, with its items sent. -/
theorem State.completeStep_gap (hon : s.msu.source ≠ none) :
    (s.completeStep items r).msu.run = .running { r with phase := .gap, due := s.now + 10000, acc := .zero } ∧
      (s.completeStep items r).msu.source = none ∧ (s.completeStep items r).msu.path = none ∧
      (s.completeStep items r).mail = s.mail ++ items.map fun i => .measurementItem ⟨r.id, i⟩ := by
  rw [completeStep_on hon]
  exact ⟨rfl, rfl, rfl, rfl⟩

/-- A phase of conversions starts on the path it converts first. -/
theorem State.startSamples_spec (phase : MeasPhase) (path : SensePath) (r : RunRecord) (s : State) :
    (∃ due, (s.startSamples phase path r).msu.run = .running { r with phase := phase, acc := .zero, due := due }) ∧
      (s.startSamples phase path r).msu.source = s.msu.source ∧
      (s.startSamples phase path r).msu.path = some (({ r with phase := phase, acc := .zero } : RunRecord).convertedPath path) :=
  ⟨⟨_, rfl⟩, rfl, rfl⟩

theorem RunRecord.convertedPath_first (r : RunRecord) (path : SensePath) :
    ({ r with phase := .convert, acc := .zero } : RunRecord).convertedPath path = path := by
  unfold convertedPath
  dsimp only
  split <;> rfl

/-- What follows the last sample of each phase (R124, R133). -/
theorem State.endSamples_fv (hphase : r.phase = .convert) (hstep : r.current = some (.fv, path)) (on : SensePath) (s : State) :
    s.endSamples on r = s.completeStep (fvItems r.config on r.acc) r := by
  unfold endSamples
  rw [hphase, hstep]

theorem State.endSamples_ins (hphase : r.phase = .convert) (hstep : r.current = some (.ins, path)) (on : SensePath) (s : State) :
    s.endSamples on r = s.completeStep [insItem r.config on r.acc] r := by
  unfold endSamples
  rw [hphase, hstep]

theorem State.endSamples_guard (hphase : r.phase = .guard) (on : SensePath) (s : State) : s.endSamples on r = s.startSamples .base on r := by
  unfold endSamples
  rw [hphase]

/-- A record with its base current (R133). -/
def RunRecord.based (r : RunRecord) (ib0 : Int) : RunRecord := { r with ib0 := ib0, baseFlags := r.acc.flags }

theorem State.endSamples_base (hphase : r.phase = .base) {ib0 : Int} (hbase : roundedMean r.acc.ampSum (20 * r.config.baseWindow) = ib0)
    (on : SensePath) (s : State) :
    ((sigBaseItem r.config ib0 r.acc.flags).verdict = .ok →
        s.endSamples on r = s.startSamples .listen on { r.based ib0 with thresholds := r.config.thresholds ib0, decoder := .start }) ∧
      ((sigBaseItem r.config ib0 r.acc.flags).verdict ≠ .ok →
        s.endSamples on r = s.completeStep [sigBaseItem r.config ib0 r.acc.flags] (r.based ib0)) := by
  unfold endSamples
  simp only [hphase, hbase]
  exact ⟨fun h => if_pos h, fun h => if_neg h⟩

/-- Settles O50. -/
theorem samplesAreTaken : Obligations.SamplesAreTaken := by
  intro code limit sort path r s hrun hcurrent cfg amps converting beyond needed frame entered
  have hstep : r.current = some (sort, path) := hcurrent
  have hcount (h : r.Converting) : needed = r.count := by
    refine Eq.trans ?_ (RunRecord.count_eq hstep h).symm
    rcases h with h | h | h <;> simp only [needed, h, cfg]
  have htime : OnlyIn [.now, .msu, .mail] s (s.reach r.due) := (s.reach_only r.due).mono (by decide)
  refine ⟨fun h => ?_, fun h => ?_, fun hconv hhaz => ?_, fun hconv hhaz hmore => ?_, fun h hsort hhaz htaken hoff => ?_, fun h hsort htaken hon => ?_,
    fun h hhaz htaken => ?_, fun h htaken hon => ?_⟩
  · have hexec : exec .acquisitionEnd s = .next ((s.reach r.due).startSamples .convert path r) := by
      simp [exec, execAcquisitionEnd, hrun, h, hstep]
    obtain ⟨⟨due, hr'⟩, hsource, hpath⟩ := (s.reach r.due).startSamples_spec .convert path r
    exact ⟨_, hexec, ⟨_, hr', rfl, rfl, rfl, rfl⟩, hsource, hpath.trans (congrArg some (r.convertedPath_first path)), by simp, by simp,
      htime.trans fun part hp => by cases part <;> simp_all [Part.Same]⟩
  · have hexec : exec .acquisitionEnd s = .next ((s.reach r.due).startSamples .guard path r) := by
      simp [exec, execAcquisitionEnd, hrun, h, hstep]
    obtain ⟨⟨due, hr'⟩, hsource, hpath⟩ := (s.reach r.due).startSamples_spec .guard path r
    exact ⟨_, hexec, ⟨_, hr', rfl, rfl, rfl, rfl⟩, hsource, hpath, by simp, by simp,
      htime.trans fun part hp => by cases part <;> simp_all [Part.Same]⟩
  · have hexec := (State.conversionSample_spec (limit := limit) hrun hstep hconv).1 hhaz
    exact ⟨_, hexec, by simp [State.measureHazard, State.discharge, ms], rfl, rfl, rfl, by simp, State.conversionSample_only hrun hconv hexec⟩
  · obtain ⟨on, due, hexec⟩ := (State.conversionSample_spec (limit := limit) hrun hstep hconv).2.2 hhaz (hcount hconv ▸ hmore)
    exact ⟨_, hexec, rfl, ⟨_, rfl, rfl, rfl, rfl, rfl, rfl, rfl, congrArg (r.acc.saturated || ·) (isSaturated_eq _)⟩, rfl,
      State.conversionSample_only hrun hconv hexec⟩
  · have hconv : r.Converting := .inl h
    have hvolts : r.amps sort = false := by simp [RunRecord.amps, h, hsort]
    have hfv : r.current = some (.fv, path) := hsort ▸ hstep
    have hlast : r.count ≤ r.acc.taken + 1 := by rw [← hcount hconv]; simp [needed, h, hsort, htaken]
    have hexec := (State.conversionSample_spec (limit := limit) hrun hstep hconv).2.1 hhaz hlast
    have hends : (s.reach r.due).endSamples path (r.sampled sort code limit) =
        ((s.reach r.due).sendItems r.id (fvItems r.config path (r.sampled sort code limit).acc)).startStep (r.step + 1) (r.sampled sort code limit) :=
      ((s.reach r.due).endSamples_fv (r := r.sampled sort code limit) h hfv path).trans (State.completeStep_off hoff)
    refine ⟨_, hexec, ⟨by simp, State.conversionSample_only hrun hconv hexec⟩, ?_⟩
    rw [hends]
    obtain ⟨hsum, hhigh, hlow⟩ := RunRecord.sampled_volts (r := r) (code := code) (limit := limit) hvolts (by omega)
    obtain ⟨dc, ac, hitems, hdc, hac, hdcPath, hacPath, hdcValue, hdcHigh, hacValue, hacHigh⟩ := fvItems_spec r.config path (r.sampled sort code limit).acc
    rw [hsum] at hdcValue hdcHigh
    rw [hhigh, hlow] at hacValue hacHigh
    refine ⟨dc, ac, hdc, hac, hdcPath, hacPath, hdcValue, hdcHigh, hacValue, hacHigh, fun sort' path' hnext => ?_, fun hnext => ?_⟩
    · rw [State.startStep_some (r := r.sampled sort code limit) hnext, hitems]
      refine ⟨by simp [State.sendItems], rfl, ?_, _, rfl, rfl, rfl, rfl, rfl, rfl, rfl, rfl, rfl, rfl, ?_⟩
      · cases sort' <;> rfl
      · cases sort' <;> rfl
    · rw [State.startStep_none (r := r.sampled sort code limit) hnext, hitems]
      exact ⟨by simp [State.sendItems, State.post], rfl⟩
  · have hconv : r.Converting := .inl h
    have hamps : r.amps sort = true := by simp [RunRecord.amps, h, hsort, htaken]
    have hins : r.current = some (.ins, path) := hsort ▸ hstep
    have hsafe : ¬r.Hazardous sort code := fun hh => Bool.false_ne_true (hh.1.symm.trans hamps)
    have hlast : r.count ≤ r.acc.taken + 1 := by rw [← hcount hconv]; simp [needed, h, hsort, htaken]
    have hexec := (State.conversionSample_spec (limit := limit) hrun hstep hconv).2.1 hsafe hlast
    have hends := (s.reach r.due).endSamples_ins (r := r.sampled sort code limit) h hins path
    obtain ⟨hrun', hsource, hpath, hmail⟩ := State.completeStep_gap (s := s.reach r.due) (r := r.sampled sort code limit)
      (items := [insItem r.config path (r.sampled sort code limit).acc]) hon
    refine ⟨_, hexec, ⟨by simp, State.conversionSample_only hrun hconv hexec⟩, ?_⟩
    rw [hends]
    obtain ⟨hsum, hampSum⟩ := RunRecord.sampled_amps (r := r) (code := code) (limit := limit) hamps
    obtain ⟨hname, hitemPath, hspec⟩ := insItem_spec r.config path (r.sampled sort code limit).acc
    rw [hsum, hampSum] at hspec
    exact ⟨⟨_, hrun', rfl, rfl, rfl, rfl⟩, hsource, hpath, _, hmail, hname, hitemPath, hspec⟩
  · have hconv : r.Converting := .inr (.inl h)
    have hlast : r.count ≤ r.acc.taken + 1 := by rw [← hcount hconv]; simp [needed, h, htaken]
    have hexec := (State.conversionSample_spec (limit := limit) hrun hstep hconv).2.1 hhaz hlast
    obtain ⟨⟨due, hr'⟩, hsource, hpath⟩ := (s.reach r.due).startSamples_spec .base path (r.sampled sort code limit)
    refine ⟨_, hexec, ?_⟩
    rw [(s.reach r.due).endSamples_guard (r := r.sampled sort code limit) h path]
    exact ⟨⟨_, hr', rfl, rfl, rfl, rfl⟩, hsource, hpath, by simp, by simp, htime.trans fun part hp => by cases part <;> simp_all [Part.Same]⟩
  · have hconv : r.Converting := .inr (.inr h)
    have hamps : r.amps sort = true := by simp [RunRecord.amps, h]
    have hsafe : ¬r.Hazardous sort code := fun hh => Bool.false_ne_true (hh.1.symm.trans hamps)
    have hlast : r.count ≤ r.acc.taken + 1 := by rw [← hcount hconv]; simp [needed, h, htaken]
    have hexec := (State.conversionSample_spec (limit := limit) hrun hstep hconv).2.1 hsafe hlast
    obtain ⟨-, hampSum⟩ := RunRecord.sampled_amps (r := r) (code := code) (limit := limit) hamps
    obtain ⟨hlisten, hends⟩ := (s.reach r.due).endSamples_base (r := r.sampled sort code limit) h
      (ib0 := roundedMean (r.acc.ampSum + code.toInt) (20 * r.config.baseWindow)) (congrArg (roundedMean · _) hampSum) path
    refine ⟨_, hexec, ⟨by simp, State.conversionSample_only hrun hconv hexec⟩, fun hlow hhigh => ?_, fun hbad => ?_⟩
    · obtain ⟨⟨due, hr'⟩, -, hpath⟩ := (s.reach r.due).startSamples_spec .listen path _
      rw [hlisten ((sigBaseItem_ok _ _ _).mpr ⟨hlow, hhigh⟩)]
      exact ⟨⟨_, hr', rfl, rfl, rfl, rfl⟩, hpath, by simp, _, hr', rfl, rfl, r.config.thresholds_spec _⟩
    · obtain ⟨hrun', hsource, hpath, hmail⟩ := State.completeStep_gap (s := s.reach r.due) hon
      rw [hends fun hgood => by
        obtain ⟨hlow, hhigh⟩ := (sigBaseItem_ok _ _ _).mp hgood
        exact hbad.elim (not_lt.mpr hlow) (not_lt.mpr hhigh)]
      exact ⟨⟨_, hrun', rfl, rfl, rfl, rfl⟩, hsource, hpath, _, hmail, rfl, rfl, sigBaseItem_bad hbad _⟩

end Sys2Proof.Machine
end

section
/-! The obligation on the signature: O51 (07, 7.5). -/

namespace Sys2Proof.Machine

variable {s : State} {r : RunRecord} {d : Decoder} {t : Thresholds} {deglitch n : Nat} {code : Int} {before : Level}

/-! ## SIG_WORD (R141) -/

theorem ones_eq (bits : List Bool) : ones bits = bits.count true := by
  unfold ones
  rw [List.count_eq_length_filter]
  congr 2
  funext b
  cases b <;> rfl

/-- The data of a signature: its first eight bits, the first least significant. -/
theorem bitsValue_eight {bits : List Bool} (h : 8 ≤ bits.length) : bitsValue (bits.take 8) =
    let bit (k : Nat) : Nat := if bits[k]? = some true then 1 else 0
    bit 0 + 2 * bit 1 + 4 * bit 2 + 8 * bit 3 + 16 * bit 4 + 32 * bit 5 + 64 * bit 6 + 128 * bit 7 := by
  obtain ⟨a, b, c, d, e, f, g, h, rest, rfl⟩ : ∃ a b c d e f g h rest, bits = a :: b :: c :: d :: e :: f :: g :: h :: rest := by
    match bits, h with
    | a :: b :: c :: d :: e :: f :: g :: h :: rest, _ => exact ⟨a, b, c, d, e, f, g, h, rest, rfl⟩
  simp only [List.take, bitsValue, List.foldr, List.getElem?_cons_zero, List.getElem?_cons_succ, Option.some.injEq]
  omega

/-- The fields a decoder has come to (R141). -/
theorem Decoder.fields_eq (d : Decoder) : d.fields =
    let bit (k : Nat) : Nat := if d.bits[k]? = some true then 1 else 0
    { bitCount := d.bits.length
      data :=
        if 8 ≤ d.bits.length then
          some (bit 0 + 2 * bit 1 + 4 * bit 2 + 8 * bit 3 + 16 * bit 4 + 32 * bit 5 + 64 * bit 6 + 128 * bit 7) else none
      parityGood := if d.bits.length = 9 then some (d.bits.count true % 2 == 1) else none, alarm := d.alarm, endReason := d.endReason.getD .none } := by
  unfold fields
  rw [ones_eq]
  by_cases h : 8 ≤ d.bits.length
  · simp only [h, if_true, bitsValue_eight h]
  · simp only [h, if_false]

/-- The first verdict that applies to a word of nine bits at most (R141). -/
theorem wordVerdict_eq {expected : Option Nat} {w : WordFields} {good : Bool} {data : Nat} (parity : w.parityGood = if w.bitCount = 9 then some good else none)
    (hdata : w.data = if 8 ≤ w.bitCount then some data else none) (h : w.bitCount ≤ 9) : wordVerdict w expected =
      if w.endReason = .stuck then .stuck
      else if w.endReason = .none then .noFrame
      else if w.bitCount < 9 then .truncated
      else if good = false then .invalid
      else if expected = none ∨ expected = some data then .ok
      else .wrongNtu := by
  unfold wordVerdict
  refine if_congr Iff.rfl rfl (if_congr Iff.rfl rfl ?_)
  by_cases hn : w.bitCount < 9
  · rw [if_pos hn, if_pos hn]
  · have hnine : w.bitCount = 9 := by omega
    rw [if_neg hn, if_neg hn, parity, hdata, if_pos hnine, if_pos (show 8 ≤ w.bitCount by omega)]
    cases good with
    | false => rfl
    | true =>
      cases expected with
      | none => rfl
      | some x => by_cases hx : x = data <;> simp [hx]

/-! ## The level detector (R136) -/

/-- The detector leaves what the frame goes by. -/
theorem Decoder.detect_keeps (t : Thresholds) (deglitch : Nat) (code : Int) (d : Decoder) :
    (d.detect t deglitch code).samples = d.samples ∧ (d.detect t deglitch code).pulseStart = d.pulseStart ∧
      (d.detect t deglitch code).gapStart = d.gapStart ∧ (d.detect t deglitch code).stage = d.stage ∧ (d.detect t deglitch code).bits = d.bits ∧
      (d.detect t deglitch code).alarm = d.alarm ∧ (d.detect t deglitch code).endReason = d.endReason := by
  unfold detect
  repeat' split
  all_goals exact ⟨rfl, rfl, rfl, rfl, rfl, rfl, rfl⟩

/-- The counters and the level that the detector alone sets. -/
def Decoder.SameLevel (d e : Decoder) : Prop :=
  e.samples = d.samples ∧ e.level = d.level ∧ e.rise = d.rise ∧ e.up = d.up ∧ e.fall = d.fall ∧ e.drop = d.drop ∧ e.dropBelowFall1 = d.dropBelowFall1

theorem Decoder.pulse_keeps (n : Nat) (d : Decoder) : d.SameLevel (d.pulse n) ∧ (d.pulse n).gapStart = d.gapStart ∧ (d.pulse n).alarm = d.alarm := by
  unfold pulse finish
  dsimp only
  repeat' split
  all_goals exact ⟨⟨rfl, rfl, rfl, rfl, rfl, rfl, rfl⟩, rfl, rfl⟩

/-- The frame's part of a sample leaves the level and its counters, and the alarm follows level 2 (R139, R140). -/
theorem Decoder.frame_keeps (before : Level) (d : Decoder) :
    d.SameLevel (d.frame before) ∧ (d.frame before).alarm = (d.alarm || d.level == .two) := by
  let x : Decoder := { d with alarm := d.alarm || d.level == .two }
  obtain ⟨hlevel, -, halarm⟩ :=
    ({ x with pulseStart := none, gapStart := some x.samples } : Decoder).pulse_keeps (x.samples - x.pulseStart.getD x.samples)
  unfold frame finish
  dsimp only
  split
  · split
    · exact ⟨⟨rfl, rfl, rfl, rfl, rfl, rfl, rfl⟩, rfl⟩
    · split <;> exact ⟨⟨rfl, rfl, rfl, rfl, rfl, rfl, rfl⟩, rfl⟩
  · split
    · exact ⟨hlevel, halarm⟩
    · split <;> exact ⟨⟨rfl, rfl, rfl, rfl, rfl, rfl, rfl⟩, rfl⟩

/-- What a pulse brings depends on the frame so far alone (R137, R138, R139). -/
theorem Decoder.pulse_congr {d e : Decoder} (stage : e.stage = d.stage) (bits : e.bits = d.bits) (reason : e.endReason = d.endReason) (n : Nat) :
    (e.pulse n).stage = (d.pulse n).stage ∧ (e.pulse n).bits = (d.pulse n).bits ∧ (e.pulse n).endReason = (d.pulse n).endReason := by
  unfold pulse
  rw [stage, bits]
  dsimp only
  repeat' split
  all_goals simp [finish, stage, bits, reason]

/-- A pulse that runs on (R139). -/
theorem Decoder.frame_runs {start : Nat} (up : before ≠ .zero) (high : d.level ≠ .zero) (started : d.pulseStart = some start) :
    (start + 65 ≤ d.samples → (d.frame before).stage = .ended ∧ (d.frame before).endReason = some .stuck ∧ (d.frame before).bits = d.bits) ∧
      (d.samples < start + 65 → (d.frame before).stage = d.stage ∧ (d.frame before).bits = d.bits ∧ (d.frame before).endReason = d.endReason) := by
  unfold frame pulseOver
  simp only [up, high, started, if_false, decide_eq_true_eq]
  refine ⟨fun h => ?_, fun h => ?_⟩
  · rw [if_pos h]
    exact ⟨rfl, rfl, rfl⟩
  · rw [if_neg (Nat.not_le.mpr h)]
    exact ⟨rfl, rfl, rfl⟩

/-- A pulse ends, and a gap starts (R137, R138). -/
theorem Decoder.frame_falls {start : Nat} (up : before ≠ .zero) (low : d.level = .zero) (started : d.pulseStart = some start) :
    (d.frame before).stage = (d.pulse (d.samples - start)).stage ∧ (d.frame before).bits = (d.pulse (d.samples - start)).bits ∧
      (d.frame before).endReason = (d.pulse (d.samples - start)).endReason ∧ (d.frame before).gapStart = some d.samples := by
  have hframe : d.frame before = ({ d with alarm := d.alarm || d.level == .two, pulseStart := none, gapStart := some d.samples } : Decoder).pulse
      (d.samples - start) := by
    unfold frame
    simp only [up, low, started, if_false, if_true, Option.getD_some]
  obtain ⟨hstage, hbits, hreason⟩ := pulse_congr (d := d)
    (e := { d with alarm := d.alarm || d.level == .two, pulseStart := none, gapStart := some d.samples }) rfl rfl rfl (d.samples - start)
  rw [hframe]
  exact ⟨hstage, hbits, hreason, (pulse_keeps _ _).2.1⟩

/-- A pulse starts where no gap has run out (R137, R138). -/
theorem Decoder.frame_rises (down : before = .zero) (high : d.level ≠ .zero) (gap : d.gapOver = false) :
    (d.frame before).pulseStart = some d.samples ∧ (d.frame before).stage = d.stage := by
  have hgap : ({ d with alarm := d.alarm || d.level == .two } : Decoder).gapOver = false := gap
  unfold frame
  simp [down, high, hgap]

/-- A gap in a frame (R138). -/
theorem Decoder.frame_gap {start : Nat} (down : before = .zero) (inFrame : d.stage = .inFrame) (started : d.gapStart = some start) :
    (start + 41 ≤ d.samples → (d.frame before).stage = .ended ∧ (d.frame before).endReason = some .gap ∧ (d.frame before).bits = d.bits) ∧
      (d.samples < start + 41 → (d.frame before).stage = .inFrame ∧ (d.frame before).bits = d.bits) := by
  unfold frame gapOver
  simp only [down, inFrame, started, if_true, BEq.rfl, Bool.true_and, decide_eq_true_eq]
  refine ⟨fun h => ?_, fun h => ?_⟩
  · rw [if_pos h]
    exact ⟨rfl, rfl, rfl⟩
  · rw [if_neg (Nat.not_le.mpr h)]
    split <;> exact ⟨rfl, rfl⟩

/-- With the level every counter becomes 0 (R136). -/
theorem Decoder.detect_change (t : Thresholds) (deglitch : Nat) (code : Int) (d : Decoder) (h : (d.detect t deglitch code).level ≠ d.level) :
    (d.detect t deglitch code).rise = 0 ∧ (d.detect t deglitch code).up = 0 ∧ (d.detect t deglitch code).fall = 0 ∧
      (d.detect t deglitch code).drop = 0 := by
  revert h
  unfold detect toLevel
  repeat' split
  all_goals simp

/-- A sample's level and counters are the detector's (R136). -/
theorem Decoder.sample_level (t : Thresholds) (deglitch : Nat) (code : Int) (d : Decoder) :
    (({ d with samples := d.samples + 1 } : Decoder).detect t deglitch code).SameLevel (d.sample t deglitch code) :=
  (frame_keeps _ _).1

/-- The detector at level 0 (R136). -/
theorem Decoder.detect_zero (h : d.level = .zero) (t : Thresholds) (deglitch : Nat) (code : Int) :
    (t.rise1 ≤ code → (deglitch ≤ d.rise + 1 → (d.detect t deglitch code).level = .one) ∧
      (d.rise + 1 < deglitch → (d.detect t deglitch code).level = .zero ∧ (d.detect t deglitch code).rise = d.rise + 1)) ∧
    (code < t.rise1 → (d.detect t deglitch code).level = .zero ∧ (d.detect t deglitch code).rise = 0) := by
  unfold detect
  rw [h]
  refine ⟨fun hrise => ⟨fun hfull => ?_, fun hmore => ?_⟩, fun hlow => ?_⟩
  · simp [hrise, hfull, toLevel]
  · simp [hrise, Nat.not_le.mpr hmore]
  · simp [not_le.mpr hlow]

/-- The detector at level 1 (R136). -/
theorem Decoder.detect_one (h : d.level = .one) (t : Thresholds) (deglitch : Nat) (code : Int) :
    (t.rise2 ≤ code → (deglitch ≤ d.up + 1 → (d.detect t deglitch code).level = .two) ∧
      (d.up + 1 < deglitch → (d.detect t deglitch code).level = .one ∧ (d.detect t deglitch code).up = d.up + 1 ∧ (d.detect t deglitch code).fall = 0)) ∧
    (code < t.rise2 → code < t.fall1 → (deglitch ≤ d.fall + 1 → (d.detect t deglitch code).level = .zero) ∧
      (d.fall + 1 < deglitch → (d.detect t deglitch code).level = .one ∧ (d.detect t deglitch code).fall = d.fall + 1 ∧ (d.detect t deglitch code).up = 0)) ∧
    (code < t.rise2 → t.fall1 ≤ code → (d.detect t deglitch code).level = .one ∧ (d.detect t deglitch code).up = 0 ∧
      (d.detect t deglitch code).fall = 0) := by
  unfold detect
  rw [h]
  refine ⟨fun hrise => ⟨fun hfull => ?_, fun hmore => ?_⟩, fun hbelow hfall => ⟨fun hfull => ?_, fun hmore => ?_⟩, fun hbelow hstays => ?_⟩
  · simp [hrise, hfull, toLevel]
  · simp [hrise, Nat.not_le.mpr hmore]
  · simp [not_le.mpr hbelow, hfall, hfull, toLevel]
  · simp [not_le.mpr hbelow, hfall, Nat.not_le.mpr hmore]
  · simp [not_le.mpr hbelow, not_lt.mpr hstays]

/-- The detector at level 2 (R136). -/
theorem Decoder.detect_two (h : d.level = .two) (t : Thresholds) (deglitch : Nat) (code : Int) :
    (code < t.fall2 →
      let below : Prop := (d.drop = 0 ∨ d.dropBelowFall1 = true) ∧ code < t.fall1
      (deglitch ≤ d.drop + 1 → (below → (d.detect t deglitch code).level = .zero) ∧ (¬below → (d.detect t deglitch code).level = .one)) ∧
        (d.drop + 1 < deglitch → (d.detect t deglitch code).level = .two ∧ (d.detect t deglitch code).drop = d.drop + 1 ∧
          ((d.detect t deglitch code).dropBelowFall1 = true ↔ below))) ∧
    (t.fall2 ≤ code → (d.detect t deglitch code).level = .two ∧ (d.detect t deglitch code).drop = 0) := by
  unfold detect
  rw [h]
  refine ⟨fun hfall => ?_, fun hstays => ?_⟩
  · intro below
    refine ⟨fun hfull => ⟨fun hbelow => ?_, fun hbelow => ?_⟩, fun hmore => ?_⟩
    · simp only [hfall, hfull, if_true, toLevel]
      simpa [below] using hbelow
    · simp only [hfall, hfull, if_true, toLevel]
      simpa [below] using hbelow
    · simp [hfall, Nat.not_le.mpr hmore, below]
  · simp [not_lt.mpr hstays]

/-- The verdict of a signature goes by its fields (R141). -/
theorem sigWordItem_verdict (d : Decoder) (expected : Option Nat) (flags : ItemFlags) :
    (sigWordItem d expected flags).verdict = wordVerdict d.fields expected := rfl

/-- The end of the listen window by the decoder's stage (R138). -/
theorem Decoder.windowEnd_eq (d : Decoder) : d.windowEnd =
    { d with
      stage := .ended
      endReason :=
        match d.stage with
        | .waiting => some .none
        | .inFrame => some .window
        | .ended => d.endReason } := by
  unfold windowEnd finish
  cases h : d.stage <;> simp [← h]

theorem State.takeListen_only (code : BitVec 12) (limit : Bool) (r : RunRecord) (s : State) :
    OnlyIn [.now, .msu, .mail] s (s.takeListen code limit r) := fun part hp => by cases part <;> simp_all [Part.Same]

/-- Settles O51. -/
theorem listenSamplesAreDecoded : Obligations.ListenSamplesAreDecoded := by
  refine ⟨fun d expected flags => ⟨?_, fun hnine => ?_⟩, fun code limit r s hrun hlisten hon => ⟨fun hmore => ?_, ?_⟩, fun n d t deglitch code hdeglitch => ?_⟩
  · unfold sigWordItem
    rw [d.fields_eq]
  · rw [sigWordItem_verdict]
    exact wordVerdict_eq (congrArg WordFields.parityGood d.fields_eq) (congrArg WordFields.data d.fields_eq) hnine
  · have htaken : ¬r.count ≤ r.acc.taken := by
      simp only [RunRecord.count, hlisten]
      omega
    have hexec : exec (.listenSample code limit) s = .next (s.takeListen code limit r) := by simp [exec, execListenSample, hrun, hlisten]
    let v : RunRecord := { r with acc := r.acc.add true code.toInt limit, decoder := r.decoder.sample r.thresholds r.config.deglitch code.toInt }
    have htake : s.takeListen code limit r = if v.decoder.stage = .ended then (s.reach r.due).completeSig true v
        else (s.reach r.due).setRun { v with due := max s.now r.due + v.interval } := if_neg htaken
    have honly : OnlyIn [.now, .msu, .mail] s (s.takeListen code limit r) := s.takeListen_only _ _ _
    refine ⟨_, hexec, ?_, honly, fun hgoes => ?_, fun hends => ?_⟩
    · rw [htake]
      split <;> simp [State.reach]
    · rw [htake, if_neg hgoes]
      exact ⟨rfl, _, rfl, rfl, rfl, hlisten⟩
    · rw [htake, if_pos hends]
      obtain ⟨hrun', hsource, hpath, hmail⟩ := State.completeStep_gap (s := s.reach r.due) (r := v)
        (items := [sigBaseItem v.config v.ib0 v.baseFlags, sigWordItem v.decoder v.expected v.acc.flags]) hon
      exact ⟨hmail, hsource, hpath, _, hrun', rfl, by simp [State.completeSig], rfl⟩
  · obtain ⟨w, hw, hmsu, hmail, honly⟩ : ∃ w, (if r.count ≤ r.acc.taken then s else s.reach r.windowEnd) = w ∧ w.msu = s.msu ∧ w.mail = s.mail ∧
        OnlyIn [.now, .msu, .mail] s w := by
      refine ⟨_, rfl, ?_⟩
      split
      · exact ⟨rfl, rfl, .refl _ _⟩
      · exact ⟨rfl, rfl, (s.reach_only _).mono (by decide)⟩
    have hexec : exec .listenWindowEnd s = .next (w.completeSig true { r with decoder := r.decoder.windowEnd }) := by
      simp only [exec, execListenWindowEnd, hrun, hlisten, if_true, hw]
    obtain ⟨hrun', hsource, hpath, hsent⟩ := State.completeStep_gap (s := w) (r := { r with decoder := r.decoder.windowEnd })
      (items := [sigBaseItem r.config r.ib0 r.baseFlags, sigWordItem r.decoder.windowEnd r.expected r.acc.flags]) (hmsu ▸ hon)
    refine ⟨_, hexec, honly.trans fun part hp => by cases part <;> simp_all [Part.Same], ?_, hsource, hpath, _, hrun', rfl,
      by simp [State.completeSig], rfl⟩
    rw [hmail] at hsent
    exact hsent.trans (congrArg (fun e => s.mail ++ [.measurementItem ⟨r.id, sigBaseItem r.config r.ib0 r.baseFlags⟩,
      .measurementItem ⟨r.id, sigWordItem e r.expected r.acc.flags⟩]) r.decoder.windowEnd_eq)
  · let x : Decoder := { d with samples := d.samples + 1 }
    obtain ⟨hsamples, hpulseStart, hgapStart, hstage, hbits, halarm, hreason⟩ := x.detect_keeps t deglitch code
    obtain ⟨hcount, hlevel, hrise, hup, hfall, hdrop, hbelow⟩ := d.sample_level t deglitch code
    have halarms : (d.sample t deglitch code).alarm = (d.alarm || (x.detect t deglitch code).level == .two) :=
      (Decoder.frame_keeps d.level (x.detect t deglitch code)).2.trans (by rw [halarm])
    refine ⟨fun h => ?_, fun hw h => ?_, fun hf h hbad => ?_, fun hf hlow hhigh => ?_, fun ha => by rw [halarms, ha]; rfl, fun htwo => ?_, ?_⟩
    · simp [Decoder.pulse, Decoder.finish, h]
    · simp only [Decoder.pulse, hw, Nat.not_le.mpr h, if_false]
      split <;> simp_all
    · have hshape : ¬(4 ≤ n ∧ n ≤ 24) := by omega
      simp [Decoder.pulse, Decoder.finish, hf, Nat.not_le.mpr h, hshape]
    · have hshort : ¬65 ≤ n := by omega
      by_cases hlast : d.bits.length = 8
      · simp [Decoder.pulse, Decoder.finish, hf, hshort, hlow, hhigh, hlast]
      · simp [Decoder.pulse, hf, hshort, hlow, hhigh, hlast]
    · rw [halarms, ← hlevel, htwo, Bool.or_comm]
      rfl
    · intro e
      simp only [e, hlevel, hrise, hup, hfall, hdrop, hbelow]
      refine ⟨hcount.trans hsamples, x.detect_change t deglitch code, fun h => (x.detect_zero h t deglitch code).1,
        fun h => (x.detect_zero h t deglitch code).2, fun h => (x.detect_one h t deglitch code).1, fun h => (x.detect_one h t deglitch code).2.1,
        fun h => (x.detect_one h t deglitch code).2.2, fun h => (x.detect_two h t deglitch code).1, fun h => (x.detect_two h t deglitch code).2,
        fun start hbefore hafter hstart => ?_, fun start hbefore hafter hstart => ?_, fun hbefore hafter hgap => ?_, fun start hin hbefore hstart => ?_⟩
      · have h := Decoder.frame_runs hbefore hafter (hpulseStart.trans hstart)
        rw [hsamples, hbits, hstage, hreason] at h
        exact h
      · obtain ⟨hended, hword, hwhy, hstarts⟩ := Decoder.frame_falls hbefore hafter (hpulseStart.trans hstart)
        obtain ⟨hended', hword', hwhy'⟩ := Decoder.pulse_congr (d := d) hstage hbits hreason (d.samples + 1 - start)
        rw [hsamples] at hended hword hwhy hstarts
        exact ⟨hword.trans hword', hended.trans hended', hwhy.trans hwhy', hstarts⟩
      · have hopen : (x.detect t deglitch code).gapOver = false := by
          unfold Decoder.gapOver
          rw [hstage, hgapStart, hsamples]
          cases hg : d.gapStart with
          | none => simp [x]
          | some start =>
            by_cases hin : d.stage = .inFrame
            · simpa [x, hg, hin] using hgap start hin hg
            · simp [x, hin]
        obtain ⟨hstarts, hsame⟩ := Decoder.frame_rises hbefore hafter hopen
        exact ⟨hstarts.trans (congrArg some hsamples), hsame.trans hstage⟩
      · have h := Decoder.frame_gap hbefore (hstage.trans hin) (hgapStart.trans hstart)
        rw [hsamples, hbits] at h
        exact h

end Sys2Proof.Machine
end

section
/-! SUPPORT for the obligations on directives of every code: what the directive table comes to (10.2, R178, R181, R196). -/

namespace Sys2Proof.Machine

variable {s t u : State} {o : Origin} {d : Directive} {code : Octet} {params : List Octet} {good : Bool} {demands : Demands} {body : State → Answer}

/-! ## The table of R196 and the classes of R181 -/

/-- The codes of directives without parameters. -/
def bareCodes : List Nat :=
  [0x20, 0x21, 0x25, 0x26, 0x30, 0x31, 0x42, 0x44, 0x45, 0x46, 0x51, 0x58, 0x61, 0x62, 0x63, 0x64, 0x73, 0x75, 0x76, 0x77, 0x78, 0x79]

/-- The codes of directives with one octet, a port. -/
def portCodes : List Nat := [0x10, 0x11, 0x12, 0x13, 0x14, 0x71]

/-- The codes of the table. -/
def KnownCode (n : Nat) : Prop := n ∈ bareCodes ++ portCodes ++ [0x22, 0x23, 0x24, 0x40, 0x41, 0x43, 0x50, 0x60, 0x70, 0x72, 0x74]

/-- The parameter lengths of the table. -/
def GoodLength (n len : Nat) : Prop :=
  (n ∈ bareCodes ∧ len = 0) ∨ (n ∈ portCodes ∧ len = 1) ∨ (n = 0x22 ∧ len = 11) ∨ (n = 0x23 ∧ len = 3) ∨
    (n = 0x24 ∧ (len = 2 ∨ len = 4)) ∨ (n = 0x40 ∧ len = 4) ∨ (n ∈ [0x41, 0x43, 0x74] ∧ len = 2) ∨
    (n ∈ [0x50, 0x72] ∧ 0 < len ∧ len % 5 = 0) ∨ (n ∈ [0x60, 0x70] ∧ 1 < len ∧ len % 5 = 1)

/-- The codes of the directives that change (R181). -/
def ChangingCode (n : Nat) : Prop :=
  n ∈ [0x10, 0x11, 0x12, 0x13, 0x20, 0x21, 0x22, 0x24, 0x25, 0x26, 0x44, 0x45, 0x46, 0x50, 0x60, 0x63, 0x70, 0x72, 0x79]

/-- What a directive asks for before its owner sees it, by the tables. -/
def TableHolds (d : Directive) (good : Bool) (demands : Demands) : Prop :=
  (good = true ↔ GoodLength d.code.toNat d.params.length) ∧ (ChangingCode d.code.toNat → demands.unlocked = true ∧ demands.permission = true) ∧
    (good = true → d.code.toNat = 0x76 ∨ d.code.toNat = 0x77 ∨ (d.code.toNat = 0x74 ∧ d.params[1]? = some 1#8) → demands.permission = true) ∧
    (¬ChangingCode d.code.toNat → demands.unlocked = false)

theorem octet_of_toNat {c : Octet} {n : Nat} (h : c.toNat = n) : c = octet n :=
  BitVec.eq_of_toNat_eq (h ▸ (octet_toNat c.isLt).symm)

theorem isItems_iff {params : List Octet} : isItems params = true ↔ 0 < params.length ∧ params.length % 5 = 0 := by
  simp [isItems]

theorem noParams_iff {params : List Octet} : noParams params = true ↔ params.length = 0 := by
  cases params <;> simp [noParams]

theorem octets_iff {n : Nat} {params : List Octet} : octets n params = true ↔ params.length = n := by simp [octets]

theorem asksClear_of {params : List Octet} (length : params.length = 2) (clear : params[1]? = some 1#8) : asksClear params = true := by
  match params, length with
  | [g, c], _ =>
    obtain rfl : c = 1#8 := Option.some.inj clear
    rfl

/-- A directive of the table is run by its owner after the checks the table asks for; RESET ends its frame besides and stands apart. -/
theorem exec_known (known : KnownCode d.code.toNat) (notReset : d.code ≠ 0x79#8) (o : Origin) (s : State) : ∃ good demands body,
    exec (directiveCommand o d) s = .next (s.direct o d.code d.params good demands body) ∧ TableHolds d good demands := by
  obtain ⟨code, params⟩ := d
  unfold directiveCommand
  dsimp only
  split
  case h_39 h => exact absurd (BitVec.eq_of_toNat_eq h) notReset
  case h_40 => simp_all [KnownCode, bareCodes, portCodes]
  all_goals
    rename_i h
    obtain rfl := octet_of_toNat h
    refine ⟨_, _, _, rfl, ?_⟩
  all_goals
    refine ⟨?_, ?_, ?_, ?_⟩
  all_goals simp [GoodLength, bareCodes, portCodes, ChangingCode, Demands.changing, Demands.read, Demands.free, Demands.keeping, octets_iff, noParams_iff,
    isItems_iff, octet]
  case h_25.refine_1 => omega
  case h_30.refine_1 => omega
  case h_34.refine_3 => exact asksClear_of

/-- A code outside the table is answered UNKNOWN_DIRECTIVE, with no check before (R178). -/
theorem exec_unknown (unknown : ¬KnownCode d.code.toNat) (o : Origin) (s : State) :
    exec (directiveCommand o d) s = .next (s.direct o d.code d.params true .read (refuse .unknownDirective)) := by
  have hknown : knownCode d.code = false := by
    simp only [KnownCode, bareCodes, portCodes, List.mem_append, List.mem_cons, List.not_mem_nil, or_false, not_or] at unknown
    simp only [knownCode, decide_eq_false_iff_not]
    omega
  have hcommand : directiveCommand o d = .unknownDirective o d.code d.params := by
    unfold directiveCommand
    split
    case h_40 => rfl
    all_goals
      rename_i h
      rw [h] at unknown
      exact absurd (by simp [KnownCode, bareCodes, portCodes]) unknown
  rw [hcommand]
  show execUnknownDirective o d.code d.params s = _
  unfold execUnknownDirective
  rw [hknown]
  rfl

/-- RESET that the checks of R178 refuse is refused like any directive. -/
theorem exec_reset_refused {why : DirectiveOutcome} (gate : s.gate o (noParams params) .changing = some why) (notDone : why ≠ .done) :
    exec (.resetDirective o params) s = .next (s.direct o 0x79#8 params (noParams params) .changing (refuse why)) := by
  have hanswer (ml : List Instr) (body : State → Answer) :
      ({ s with mail := ml } : State).answer o (noParams params) .changing body = refuse why { s with mail := ml } := by
    have hgate : ({ s with mail := ml } : State).gate o (noParams params) .changing = some why := gate
    unfold State.answer
    rw [hgate]
  have hbeq : (why == DirectiveOutcome.done) = false := by simpa using notDone
  show execResetDirective o params s = _
  unfold execResetDirective State.direct
  dsimp only
  cases s.turn o { code := 0x79#8, params := params } with
  | never => rfl
  | alone =>
    dsimp only
    rw [show s.answer o (noParams params) .changing (State.resetAsked .over) = refuse why s from hanswer s.mail _,
      show s.answer o (noParams params) .changing (refuse why) = refuse why s from hanswer s.mail _]
    exact if_neg notDone
  | inFrame e =>
    dsimp only
    rw [show (s.taken (.resetDirective o params)).answer o (noParams params) .changing (State.resetAsked .unplaced) = refuse why _ from hanswer _ _,
      show (s.taken (directiveCommand o { code := 0x79#8, params := params })).answer o (noParams params) .changing (refuse why) = refuse why _ from hanswer _ _]
    exact congrArg (fun b => Host.Outcome.next (State.enterAnswer 0x79#8 e (refuse why (s.taken (.resetDirective o params))) b)) hbeq

/-- A directive that comes up and meets a refusal of the checks leaves its entry, and nothing else (R178). -/
theorem direct_gated {why : DirectiveOutcome} (comes : s.comesUp o code params) (gate : s.gate o good demands = some why) (body : State → Answer) :
    Answered code why [] s (s.direct o code params good demands body) ∧ (s.direct o code params good demands body).besideDirective = s.besideDirective := by
  obtain ⟨s₀, v, hs₀, hv, hanswered, hbeside, -⟩ := s.direct_spec o code params good demands body comes
  have hgate : s₀.gate o good demands = some why ∧ s₀.besideDirective = s.besideDirective := by
    rcases hs₀ with rfl | rfl
    · exact ⟨gate, rfl⟩
    · exact ⟨gate, rfl⟩
  have hanswer : s₀.answer o good demands body = refuse why s₀ := by
    unfold State.answer
    rw [hgate.1]
  rw [hanswer] at hv hanswered
  refine ⟨hanswered, hbeside.trans ?_⟩
  rw [show v = s₀ from hv.trans (ite_self _)]
  exact hgate.2

end Sys2Proof.Machine
end

section
/-! SUPPORT: frames the agent builds, places and starts (10.2, 10.5, 11.2), and the obligation on refusals, lock, notice test and reset: O60. -/

namespace Sys2Proof.Machine

variable {s t u v : State} {o : Origin} {d : Directive} {code : Octet} {params : List Octet} {good : Bool} {demands : Demands} {body : State → Answer}

/-! ## Built frames (R179, R186, R193, R197) -/

theorem setOctet_five (a b c d e : Bool) : setOctet [a, b, c, d, e] =
    [octet ((if a then 1 else 0) + (if b then 2 else 0) + (if c then 4 else 0) + (if d then 8 else 0) + (if e then 16 else 0))] := by
  cases a <;> cases b <;> cases c <;> cases d <;> cases e <;> rfl

theorem Agent.alert_iff (a : Agent) : a.alert = true ↔ a.faults ≠ [] := by simp [Agent.alert]

/-- A built frame: its length, where it goes, and its octets padded to the least frame. -/
theorem buildFrame_spec (dst : Address) (vid : Option Nat) (octets : List Octet) :
    let n := (if vid.isSome then 22 else 18) + octets.length
    (buildFrame dst vid octets).2 = max 64 n ∧ (buildFrame dst vid octets).1.header.destination = dst ∧
      (buildFrame dst vid octets).1.header.ethertype = 0x88B5#16 ∧
      (buildFrame dst vid octets).1.header.tag.map (·.vid) = vid.map (BitVec.ofNat 12) ∧
      (buildFrame dst vid octets).1.payload = octets ++ List.replicate (max 64 n - n) 0#8 := by
  intro n
  have hpad : 64 - n = max 64 n - n := by omega
  refine ⟨?_, rfl, rfl, ?_, ?_⟩
  · show n + (List.replicate (64 - n) (octet 0)).length = max 64 n
    rw [List.length_replicate]
    omega
  · cases vid <;> rfl
  · show octets ++ List.replicate (64 - n) (octet 0) = _
    rw [hpad]
    rfl

theorem cellsFor_eq (n : Nat) : cellsFor n = (n + 127) / 128 := by
  unfold cellsFor ceilDiv Config.cellOctets
  rfl

/-- The reserved area has room for a frame (R47, R59). -/
theorem State.hasRoom_iff (s : State) (n : Nat) : s.hasRoom n = true ↔ (n + 127) / 128 ≤ 64 - s.cbm.reservedHeld := by
  unfold hasRoom
  rw [decide_eq_true_iff, cellsFor_eq]
  rfl

/-- The descriptor of a frame the agent places. -/
def State.placedDescriptor (q : QueueId) (length : Nat) (image : FrameImage) (kind : AgentFrameKind) (s : State) : Descriptor :=
  { length := length, cells := s.newCells .reserved (cellsFor length), source := .agent, result := none, queue := q, image := image,
    agentKind := some kind }

/-- A frame placed in AQ or CQ takes its cells and stands at the tail (R59). -/
theorem State.placeFrame_spec (length : Nat) (image : FrameImage) (kind : AgentFrameKind) (s : State) {q : QueueId} (hq : q = .aq ∨ q = .cq) :
    (s.placeFrame q length image kind).queue q = s.queue q ++ [s.placedDescriptor q length image kind] ∧
      (∀ other, other ≠ q → (s.placeFrame q length image kind).queue other = s.queue other) ∧
      (s.placeFrame q length image kind).cbm.reservedHeld = s.cbm.reservedHeld + cellsFor length ∧
      (s.placeFrame q length image kind).txs = s.txs ∧ OnlyIn [.cbm] s (s.placeFrame q length image kind) := by
  have hcells : (s.takeCells .reserved (cellsFor length)).cbm.reservedHeld = s.cbm.reservedHeld + cellsFor length := rfl
  have hqueue (k : QueueId) : (s.takeCells .reserved (cellsFor length)).queue k = s.queue k := State.takeCells_queue _ _ s k
  refine ⟨?_, fun other h => ?_, ?_, by simp, fun part hp => by cases part <;> simp_all [Part.Same]⟩
  · unfold placeFrame
    dsimp only
    rw [queue_setQueue_self, hqueue]
    rfl
  · unfold placeFrame
    dsimp only
    rw [queue_setQueue_ne _ _ h, hqueue]
  · rcases hq with rfl | rfl <;> exact hcells

/-- A free uplink starts the frame at the head of AQ (R87). -/
theorem State.uplinkChoice_aq {d : Descriptor} {rest : List Descriptor} (haq : s.cbm.aq = d :: rest) :
    (s.uplinkMayStart = false → s.uplinkChoice = s) ∧
      (s.uplinkMayStart = true → s.uplinkChoice.txs = { s.txs with uplinkTx := some d.sent } ∧ s.uplinkChoice.cbm = { s.cbm with aq := rest }) := by
  obtain ⟨-, hstays, hstarts, -⟩ := s.uplinkChoice_chosen
  have hfree : s.uplinkMayStart = true ↔ s.txs.uplinkTx = none ∧ s.scu.linkUp = true ∧ s.txs.paused = false := by
    simp [uplinkMayStart, and_assoc]
  exact ⟨fun h => hstays (mt hfree.mpr (by simp [h])), fun h => hstarts d rest (hfree.mp h) haq⟩

/-- The notice frame of a state: its octets before padding (R186, R193). -/
def State.noticeOctets (s : State) : List Octet :=
  agentHeader 3 s.mga.cabinet 0 (s.mga.notices.take 16).length 0 s.mga.noticeFlags ++ (s.mga.notices.take 16).flatMap NoticeItem.octets

theorem State.noticeOctets_eq (s : State) : s.noticeOctets = [1#8, 3#8] ++ num2 s.mga.cabinet.toNat ++
    [0#8, 0#8, octet (s.mga.notices.take 16).length, 0#8, octet ((if s.mga.faults = [] then 0 else 1) + (if s.mga.locked then 4 else 0)), 0#8] ++
    (s.mga.notices.take 16).flatMap NoticeItem.octets := by
  unfold noticeOctets agentHeader Agent.noticeFlags
  rw [setOctet_five]
  have halert : (if s.mga.alert = true then 1 else 0) = if s.mga.faults = [] then 0 else 1 := by
    by_cases h : s.mga.faults = [] <;> simp [Agent.alert_iff, h]
  rw [halert]
  simp [num1, num2, octet]

/-- A notice frame is out (R186). -/
theorem State.noticeFrameOut_iff (s : State) : s.noticeFrameOut = true ↔
    (∃ d ∈ s.cbm.aq, d.agentKind = some .notice) ∨ ∃ x, s.txs.uplinkTx = some x ∧ x.desc.agentKind = some .notice := by
  unfold noticeFrameOut Descriptor.isNotice
  cases s.txs.uplinkTx <;> simp

/-- The attempt of a notice frame: nothing, or the frame placed with the oldest notices, and a choice (R186). -/
theorem State.tryNoticeFrame_spec {dst : NoticeDestination} (hdst : s.mga.destination = some dst) (waiting : s.mga.notices ≠ []) :
    (s.scu.linkUp = false ∨ s.noticeFrameOut = true ∨ s.hasRoom (buildFrame dst.address (some dst.vid) s.noticeOctets).2 = false → s.tryNoticeFrame = s) ∧
      (s.scu.linkUp = true → s.noticeFrameOut = false → s.hasRoom (buildFrame dst.address (some dst.vid) s.noticeOctets).2 = true →
        s.tryNoticeFrame = State.uplinkChoice { s.placeFrame .aq (buildFrame dst.address (some dst.vid) s.noticeOctets).2
          (buildFrame dst.address (some dst.vid) s.noticeOctets).1 .notice with mga := { s.mga with notices := s.mga.notices.drop 16 } }) := by
  have hnone : s.mga.notices.isEmpty = false := by simpa using waiting
  unfold tryNoticeFrame
  rw [hdst]
  refine ⟨fun h => ?_, fun hup hout hroom => ?_⟩
  · dsimp only
    by_cases hstop : (s.mga.notices.isEmpty || !s.scu.linkUp || s.noticeFrameOut) = true
    · exact if_pos hstop
    · rw [if_neg hstop]
      refine if_neg fun hroom => ?_
      rcases h with h | h | h
      · simp [h] at hstop
      · simp [h] at hstop
      · exact Bool.false_ne_true (h.symm.trans hroom)
  · dsimp only
    rw [if_neg (by simp [hnone, hup, hout])]
    exact if_pos hroom

/-! ## The checks of R178 -/

theorem State.gate_length (o : Origin) (demands : Demands) (s : State) (h : good = false) : s.gate o good demands = some .badLength := by
  simp [gate, h]

theorem State.gate_locked (o : Origin) (s : State) (h : good = true) (unlocked : demands.unlocked = true) (locked : s.mga.locked = true) :
    s.gate o good demands = some .locked := by simp [gate, h, unlocked, locked]

theorem State.gate_permission (s : State) (h : good = true) (permission : demands.permission = true)
    (clear : demands.unlocked = true → s.mga.locked = false) (denied : s.craftPermitted = false) :
    s.gate .craft good demands = some .notPermitted := by
  have hlock : (demands.unlocked && s.mga.locked) = false := by
    cases hd : demands.unlocked
    · rfl
    · exact clear hd
  unfold gate
  rw [h, hlock, permission, denied]
  rfl

/-- LOCK and UNLOCK ask for permission alone (R181). -/
theorem State.passes_keeping (may : o = .craft → s.craftPermitted = true) (body : State → Answer) (ml : List Instr) :
    ({ s with mail := ml } : State).answer o true .keeping body = body { s with mail := ml } := by
  have hcraft : ({ s with mail := ml } : State).craftPermitted = s.craftPermitted := rfl
  unfold answer gate
  cases o with
  | uplink => rfl
  | craft => simp [Demands.keeping, hcraft, may rfl]

theorem GoodLength.known {n len : Nat} (h : GoodLength n len) : KnownCode n := by
  simp only [GoodLength, KnownCode, bareCodes, portCodes, List.mem_append, List.mem_cons, List.not_mem_nil, or_false] at h ⊢
  omega

/-- A directive of the table that meets a refusal of the checks its row asks for leaves its entry, and nothing else (R178). -/
theorem exec_gated (known : KnownCode d.code.toNat) (o : Origin) (s : State) (comes : s.comesUp o d.code d.params) : ∃ good demands,
    TableHolds d good demands ∧ ∀ why, why ≠ .done → s.gate o good demands = some why →
      ∃ t, exec (directiveCommand o d) s = .next t ∧ Answered d.code why [] s t ∧ t.besideDirective = s.besideDirective := by
  by_cases hreset : d.code = 0x79#8
  · obtain ⟨code, params⟩ := d
    obtain rfl : code = 0x79#8 := hreset
    refine ⟨noParams params, .changing, ⟨?_, fun _ => ⟨rfl, rfl⟩, fun _ _ => rfl, fun h => absurd ?_ h⟩, fun why hwhy hgate =>
      ⟨_, exec_reset_refused hgate hwhy, direct_gated comes hgate _⟩⟩
    · simp [GoodLength, bareCodes, portCodes, noParams_iff]
    · simp [ChangingCode]
  · obtain ⟨good, demands, body, hexec, htable⟩ := exec_known known hreset o s
    exact ⟨good, demands, htable, fun why _ hgate => ⟨_, hexec, direct_gated comes hgate body⟩⟩

/-- LOCK and UNLOCK set the lock (R181). -/
theorem State.direct_locks (b : Bool) (may : o = .craft → s.craftPermitted = true) (length : good = true) (comes : s.comesUp o code params) :
    let t := s.direct o code params good .keeping fun u => done { u with mga := { u.mga with locked := b } }
    Answered code .done [] s t ∧ t.mga.locked = b ∧
      t.besideDirective = { s.besideDirective with mga := { s.besideDirective.mga with locked := b } } := by
  subst length
  obtain ⟨hanswered, ml, hbeside, -⟩ := State.direct_done (s := s) (data := []) (f := fun u => { u with mga := { u.mga with locked := b } })
    (body := fun u => done { u with mga := { u.mga with locked := b } }) comes (State.passes_keeping may _) fun _ => rfl
  exact ⟨hanswered, congrArg (fun u => u.mga.locked) hbeside, hbeside⟩

/-- A directive out of its turn has no effect (R178). -/
theorem exec_never (h : s.turn o d = .never) : exec (directiveCommand o d) s = .next s := by
  have hdirect (good : Bool) (demands : Demands) (body : State → Answer) : s.direct o d.code d.params good demands body = s := by
    unfold State.direct
    dsimp only
    rw [show s.turn o { code := d.code, params := d.params } = .never from h]
  by_cases hknown : KnownCode d.code.toNat
  · by_cases hreset : d.code = 0x79#8
    · obtain ⟨code, params⟩ := d
      obtain rfl : code = 0x79#8 := hreset
      show execResetDirective o params s = _
      unfold execResetDirective
      rw [h]
    · obtain ⟨good, demands, body, hexec, -⟩ := exec_known hknown hreset o s
      rw [hexec, hdirect]
  · rw [exec_unknown hknown, hdirect]

/-- The effects on their way are not the directives' own turns (log 1). -/
theorem betweenBlocks_directive (o : Origin) (d : Directive) : betweenBlocks (directiveCommand o d) = false := by
  unfold directiveCommand
  split <;> rfl

/-- A message that is no effect on its way leaves the state quiet or not as it was (R178). -/
theorem State.quiet_taken {m : Instr} (h : betweenBlocks m = false) (s : State) : (s.taken m).quiet = s.quiet := by
  have hany (ml : List Instr) : (ml.erase m).any betweenBlocks = ml.any betweenBlocks := by
    induction ml with
    | nil => rfl
    | cons x xs ih =>
      rw [List.erase_cons]
      split
      · next hx => rw [List.any_cons, show betweenBlocks x = false from by rw [eq_of_beq hx, h], Bool.false_or]
      · rw [List.any_cons, List.any_cons, ih]
  unfold quiet taken
  rw [hany]

theorem State.quiet_post {m : Instr} (h : betweenBlocks m = false) (s : State) : (s.post m).quiet = s.quiet := by
  unfold quiet post
  rw [List.any_append]
  simp [h]

theorem exec_reset_inFrame {e : Execution} (h : s.turn o { code := 0x79#8, params := params } = .inFrame e) :
    exec (.resetDirective o params) s =
      let a := (s.taken (.resetDirective o params)).answer o (noParams params) .changing (State.resetAsked .unplaced)
      .next (State.enterAnswer 0x79#8 e a (a.outcome == .done)) := by
  show execResetDirective o params s = _
  unfold execResetDirective
  rw [h]

/-- A directive in its turn in the frame gives the frame its answer; RESET alone may end the frame (R178). -/
theorem exec_inFrame {e : Execution} (h : s.turn o d = .inFrame e) : ∃ a ended, exec (directiveCommand o d) s = .next (State.enterAnswer d.code e a ended) ∧
    (d.code ≠ 0x79#8 → ended = false) := by
  have hdirect (good : Bool) (demands : Demands) (body : State → Answer) : s.direct o d.code d.params good demands body =
      State.enterAnswer d.code e ((s.taken (directiveCommand o d)).answer o good demands body) false := by
    unfold State.direct
    dsimp only
    rw [show s.turn o { code := d.code, params := d.params } = .inFrame e from h]
  by_cases hknown : KnownCode d.code.toNat
  · by_cases hreset : d.code = 0x79#8
    · obtain ⟨code, params⟩ := d
      obtain rfl : code = 0x79#8 := hreset
      exact ⟨_, _, exec_reset_inFrame h, fun hne => absurd rfl hne⟩
    · obtain ⟨good, demands, body, hexec, -⟩ := exec_known hknown hreset o s
      exact ⟨_, false, hexec.trans (congrArg _ (hdirect _ _ _)), fun _ => rfl⟩
  · exact ⟨_, false, (exec_unknown hknown o s).trans (congrArg _ (hdirect _ _ _)), fun _ => rfl⟩

/-- The entry of an answer, its data left out when they do not fit (R178). -/
def Execution.entryOf (code : Octet) (a : Answer) (e : Execution) : OutcomeEntry :=
  { code := code, outcome := a.outcome, data := if e.fits a.data.length then a.data else [] }

/-- The execution after an answer (R178). -/
def Execution.answered (code : Octet) (a : Answer) (e : Execution) : Execution :=
  { e with
    entries := e.entries ++ [e.entryOf code a], index := e.index + 1, cut := if e.fits a.data.length then e.cut else e.cut + 1 }

/-- An answer becomes an entry, and the frame goes on or ends (R178). -/
theorem State.enterAnswer_eq (code : Octet) (e : Execution) (a : Answer) (ended : Bool) : State.enterAnswer code e a ended =
    ((if e.fits a.data.length then a.state else a.ifCut).noteEntry (e.entryOf code a)).advance
      (if ended then (e.answered code a).endHere else e.answered code a) := by
  unfold enterAnswer Execution.entryOf Execution.answered Execution.entryOf Execution.addEntry
  by_cases h : e.fits a.data.length = true
  · simp only [h, if_true]
    rfl
  · simp only [h]
    rfl

/-- How a frame goes on: to its next directive, or to its report (R178, R179). -/
theorem State.advance_spec (e : Execution) (s : State) :
    (∀ d, e.directives[e.index]? = some d → (s.advance e).mga = { s.mga with exec := .executing e } ∧
        (s.advance e).mail = s.mail ++ [directiveCommand e.frame.origin d]) ∧
      (e.directives[e.index]? = none →
        (s.advance e).mga = { s.mga with exec := if s.quiet then .reporting (s.reportOf e) else .executing e } ∧
          (s.advance e).mail = s.mail ++ [.reportPlacement]) ∧
      OnlyIn [.mga, .mail] s (s.advance e) := by
  unfold advance
  refine ⟨fun d h => ?_, fun h => ?_, ?_⟩
  · rw [h]
    exact ⟨rfl, rfl⟩
  · rw [h]
    cases hq : s.quiet <;> exact ⟨rfl, rfl⟩
  · split
    · exact fun part hp => by cases part <;> simp_all [Part.Same]
    · split <;> exact fun part hp => by cases part <;> simp_all [Part.Same, buildReport]

/-- A notice that enters the queue (R185). -/
theorem Agent.queueNotice_spec (item : NoticeItem) (a : Agent) :
    (a.queueNotice item).notices = (if 32 ≤ a.notices.length then a.notices.drop 1 else a.notices) ++ [item] ∧ (a.queueNotice item).changeMark = true ∧
      (a.queueNotice item).lostMark = (a.lostMark || decide (32 ≤ a.notices.length)) ∧
      (32 ≤ a.notices.length → (a.queueNotice item).noticesDropped = bump a.noticesDropped) ∧
      (a.queueNotice item).destination = a.destination ∧ (a.queueNotice item).cabinet = a.cabinet ∧ (a.queueNotice item).faults = a.faults ∧
      (a.queueNotice item).locked = a.locked := by
  unfold queueNotice Config.maxNotices
  dsimp only
  by_cases h : a.notices.length < 32
  · simp [h, Nat.not_le.mpr h]
  · simp [h, Nat.not_lt.mp h]

/-- A notice frame that is placed (R186): its descriptor, and what leaves when the uplink is free. -/
theorem State.tryNoticeFrame_places {dst : NoticeDestination} (hdst : s.mga.destination = some dst) (waiting : s.mga.notices ≠ [])
    (up : s.scu.linkUp = true) (hout : s.noticeFrameOut = false) (room : (max 64 (22 + s.noticeOctets.length) + 127) / 128 ≤ 64 - s.cbm.reservedHeld) :
    s.tryNoticeFrame.mga = { s.mga with notices := s.mga.notices.drop 16 } ∧
      s.tryNoticeFrame.cbm.reservedHeld = s.cbm.reservedHeld + (max 64 (22 + s.noticeOctets.length) + 127) / 128 ∧
      s.tryNoticeFrame.cbm.cq = s.cbm.cq ∧ ∃ d : Descriptor, d.length = max 64 (22 + s.noticeOctets.length) ∧
        d.cells.length = (max 64 (22 + s.noticeOctets.length) + 127) / 128 ∧ d.source = .agent ∧ d.queue = .aq ∧ d.agentKind = some .notice ∧
        d.image.header.destination = dst.address ∧ d.image.header.ethertype = 0x88B5#16 ∧
        d.image.header.tag.map (·.vid) = some (BitVec.ofNat 12 dst.vid) ∧
        d.image.payload = s.noticeOctets ++ List.replicate (max 64 (22 + s.noticeOctets.length) - (22 + s.noticeOctets.length)) 0#8 ∧
        (s.uplinkMayStart = false → s.tryNoticeFrame.cbm.aq = s.cbm.aq ++ [d] ∧ s.tryNoticeFrame.txs = s.txs) ∧
        (s.uplinkMayStart = true → s.cbm.aq = [] → s.tryNoticeFrame.cbm.aq = [] ∧ s.tryNoticeFrame.txs.uplinkTx = some d.sent) := by
  obtain ⟨hlength, haddress, hethertype, htag, hpayload⟩ := buildFrame_spec dst.address (some dst.vid) s.noticeOctets
  have htry := (s.tryNoticeFrame_spec hdst waiting).2 up hout ((s.hasRoom_iff _).mpr (hlength ▸ room))
  generalize buildFrame dst.address (some dst.vid) s.noticeOctets = built at hlength haddress hethertype htag hpayload htry
  obtain ⟨haq, -, hheld, htxs, -⟩ := s.placeFrame_spec built.2 built.1 .notice (q := .aq) (.inl rfl)
  let w : State := { s.placeFrame .aq built.2 built.1 .notice with mga := { s.mga with notices := s.mga.notices.drop 16 } }
  let d := s.placedDescriptor .aq built.2 built.1 .notice
  have haq : w.cbm.aq = s.cbm.aq ++ [d] := haq
  have hheld : w.cbm.reservedHeld = s.cbm.reservedHeld + (max 64 (22 + s.noticeOctets.length) + 127) / 128 :=
    hheld.trans (by rw [hlength, cellsFor_eq]; rfl)
  have hmay : w.uplinkMayStart = s.uplinkMayStart := rfl
  obtain ⟨x, rest, hx⟩ : ∃ x rest, w.cbm.aq = x :: rest := by
    rw [haq]
    cases s.cbm.aq <;> exact ⟨_, _, rfl⟩
  obtain ⟨hstays, hstarts⟩ := State.uplinkChoice_aq hx
  rw [show s.tryNoticeFrame = w.uplinkChoice from htry]
  have hkept : w.uplinkChoice.cbm.reservedHeld = w.cbm.reservedHeld ∧ w.uplinkChoice.cbm.cq = s.cbm.cq := by
    cases h : w.uplinkMayStart with
    | false => rw [hstays h]; exact ⟨rfl, rfl⟩
    | true => rw [(hstarts h).2]; exact ⟨rfl, rfl⟩
  refine ⟨by simp [w], hkept.1.trans hheld, hkept.2, d, hlength, ?_, rfl, rfl, rfl, haddress, hethertype, htag, hpayload, fun h => ?_, fun h hempty => ?_⟩
  · rw [show d.cells.length = cellsFor built.2 from State.newCells_length _ _ _, hlength, cellsFor_eq]
    rfl
  · rw [hstays (hmay.trans h)]
    exact ⟨haq, htxs⟩
  · obtain ⟨hsent, hleft⟩ := hstarts (hmay.trans h)
    rw [haq, hempty] at hx
    obtain ⟨rfl, rfl⟩ : d = x ∧ [] = rest := List.cons.inj hx
    exact ⟨congrArg Buffer.aq hleft, congrArg Scheduler.uplinkTx hsent⟩

/-- The state of the attempt of a NOTICE_TEST notice: the item queued (R185). -/
def State.noticeQueued (n : Notice) (s : State) : State := { s with mga := s.mga.queueNotice { notice := n, uptime := s.uptime } }

theorem State.raiseNotice_eq (n : Notice) (s : State) : s.raiseNotice n = if s.noticeEnabled n.kind then (s.noticeQueued n).tryNoticeFrame else s := rfl

/-- The attempt of a notice frame takes notices from the queue at most (R186). -/
theorem State.tryNoticeFrame_marks (s : State) : s.tryNoticeFrame.mga.changeMark = s.mga.changeMark ∧ s.tryNoticeFrame.mga.lostMark = s.mga.lostMark := by
  unfold tryNoticeFrame
  split
  · exact ⟨rfl, rfl⟩
  · split
    · exact ⟨rfl, rfl⟩
    · dsimp only
      split
      · simp
      · exact ⟨rfl, rfl⟩

/-- Settles O60. -/
theorem refusalsAndTheLock : Obligations.RefusalsAndTheLock := by
  refine ⟨fun o d s comes => ?_, fun o s may => ⟨fun comes => ?_, fun comes => ?_⟩, fun o s comes => ?_, fun o d e s hexec hindex hquiet => ?_,
    fun o s may => ⟨fun e hexec horigin hdirective hturn => ?_, fun hidle hnone => ?_⟩⟩
  · intro n len refused bare onePort known good changing
    refine ⟨fun hunknown => ?_, fun hknown hbad => ?_, fun hgood hchanging hlocked => ?_, fun hgood hasks horigin hdenied => ?_⟩
    · exact ⟨_, exec_unknown hunknown o s, direct_freely_refused rfl comes fun _ => rfl⟩
    · obtain ⟨good', demands, ⟨hlength, -⟩, hrefuses⟩ := exec_gated hknown o s comes
      exact hrefuses _ (by decide) (s.gate_length o demands (by simpa using mt hlength.mp hbad))
    · obtain ⟨good', demands, ⟨hlength, hchanges, -⟩, hrefuses⟩ := exec_gated (GoodLength.known hgood) o s comes
      exact hrefuses _ (by decide) (s.gate_locked o (hlength.mpr hgood) (hchanges hchanging).1 hlocked)
    · obtain ⟨good', demands, ⟨hlength, hchanges, hpermission, hstays⟩, hrefuses⟩ := exec_gated (GoodLength.known hgood) o s comes
      subst horigin
      refine hrefuses _ (by decide) (s.gate_permission (hlength.mpr hgood) ?_ (fun hunlocked => ?_) hdenied)
      · rcases hasks with ⟨hchanging, -⟩ | hasks
        · exact (hchanges hchanging).2
        · exact hpermission (hlength.mpr hgood) hasks
      · rcases hasks with ⟨-, hlocked⟩ | hasks
        · exact hlocked
        · have hnot : ¬ChangingCode d.code.toNat := by
            rcases hasks with h | h | ⟨h, -⟩ <;> rw [show d.code.toNat = _ from h] <;> simp [ChangingCode]
          exact absurd ((hstays hnot).symm.trans hunlocked) Bool.false_ne_true
  · exact ⟨_, rfl, s.direct_locks true may rfl comes⟩
  · exact ⟨_, rfl, s.direct_locks false may rfl comes⟩
  · intro enabled
    obtain ⟨hanswered, ml, hbeside, -⟩ := direct_freely (good := noParams []) (body := State.noticeTest) (data := yesNo enabled)
      (f := fun u => u.raiseNotice .noticeTest) rfl comes fun _ => rfl
    let v : State := { s with mail := ml }
    have hpart {β : Type} (f : State → β) : f (s.direct o 0x78#8 [] (noParams []) .free State.noticeTest).besideDirective =
        f (v.raiseNotice .noticeTest).besideDirective := congrArg f hbeside
    have hnotices := hpart (fun u => u.mga.notices)
    have hchange := hpart (fun u => u.mga.changeMark)
    have hlost := hpart (fun u => u.mga.lostMark)
    have hdropped := hpart (fun u => u.mga.noticesDropped)
    have hcbm := hpart State.cbm
    have htxs := hpart State.txs
    refine ⟨_, rfl, ?_, ?_, fun hoff => ?_, fun hon hdest => ?_, fun dst hon hdst => ?_⟩
    · have hyes : yesNo enabled = [if enabled then 1 else 0] := yesNo_octet enabled
      rw [← hyes]
      exact hanswered
    · exact onlyIn_of_beside hbeside (((s.setMail_only ml).mono (by decide)).trans fun part hp => by cases part <;> simp_all [Part.Same])
    · have hraise : v.raiseNotice .noticeTest = v := if_neg (Bool.eq_false_iff.mp hoff)
      exact hbeside.trans ((congrArg State.besideDirective hraise).trans rfl)
    · have hmga : (v.raiseNotice .noticeTest).mga = s.mga.queueNotice ⟨.noticeTest, s.uptime⟩ := by
        rw [State.raiseNotice_mga v _ hdest]
        exact if_pos hon
      obtain ⟨hqueued, hmark, hlostMark, hcount, -⟩ := Agent.queueNotice_spec ⟨.noticeTest, s.uptime⟩ s.mga
      refine ⟨hchange.trans ((congrArg Agent.changeMark hmga).trans hmark), fun hroom => ⟨hnotices.trans ?_, hlost.trans ?_⟩,
        fun hfull => ⟨hnotices.trans ?_, hlost.trans ?_, hdropped.trans ?_⟩⟩
      · exact (congrArg Agent.notices hmga).trans (hqueued.trans (by rw [if_neg (Nat.not_le.mpr hroom)]))
      · exact (congrArg Agent.lostMark hmga).trans (hlostMark.trans (by simp [hroom]))
      · exact (congrArg Agent.notices hmga).trans (hqueued.trans (by rw [if_pos (Nat.le_of_eq hfull.symm)]))
      · exact (congrArg Agent.lostMark hmga).trans (hlostMark.trans (by simp [hfull]))
      · exact (congrArg Agent.noticesDropped hmga).trans (hcount (Nat.le_of_eq hfull.symm))
    · let w : State := v.noticeQueued .noticeTest
      have hraise : v.raiseNotice .noticeTest = w.tryNoticeFrame := if_pos hon
      obtain ⟨hqueued, hmark, hlostMark, -, hdest, hcabinet, hfaults, hlocked⟩ := Agent.queueNotice_spec ⟨.noticeTest, s.uptime⟩ s.mga
      obtain ⟨hchangeKept, hlostKept⟩ := w.tryNoticeFrame_marks
      have hdst : w.mga.destination = some dst := hdest.trans hdst
      rw [hraise] at hnotices hchange hlost hcbm htxs
      intro full queue items octets length cells out
      have hqueue : w.mga.notices = queue := hqueued.trans (by simp [queue, full])
      have hwaiting : w.mga.notices ≠ [] := by simp [hqueue, queue]
      have hoctets : w.noticeOctets = octets := by
        rw [State.noticeOctets_eq, hqueue, show w.mga.cabinet = s.mga.cabinet from hcabinet, show w.mga.faults = s.mga.faults from hfaults,
          show w.mga.locked = s.mga.locked from hlocked]
      have hout : w.noticeFrameOut = true ↔ out := w.noticeFrameOut_iff
      refine ⟨hchange.trans (hchangeKept.trans hmark), hlost.trans (hlostKept.trans hlostMark), fun hstop => ?_, fun hup hnotOut hroom => ?_⟩
      · have htry : w.tryNoticeFrame = w := by
          refine (w.tryNoticeFrame_spec hdst hwaiting).1 ?_
          rcases hstop with h | h | h
          · exact .inl h
          · exact .inr (.inl (hout.mpr h))
          · refine .inr (.inr (Bool.eq_false_iff.mpr fun hroom => ?_))
            rw [State.hasRoom_iff, (buildFrame_spec _ _ _).1, hoctets] at hroom
            exact absurd h (Nat.not_lt.mpr hroom)
        rw [htry] at hnotices hcbm htxs
        exact ⟨hnotices.trans hqueue, hcbm, htxs⟩
      · obtain ⟨hmga, hheld, hcq, d, hd⟩ := w.tryNoticeFrame_places hdst hwaiting hup (Bool.eq_false_iff.mpr (mt hout.mp hnotOut)) (by rw [hoctets]; exact hroom)
        rw [hoctets] at hheld hd
        obtain ⟨hlength, hcells, hsource, hq, hkind, haddress, hethertype, htag, hpayload, hbusy, hfree⟩ := hd
        refine ⟨hnotices.trans ((congrArg Agent.notices hmga).trans (by rw [hqueue])), (congrArg Buffer.reservedHeld hcbm).trans hheld,
          (congrArg Buffer.cq hcbm).trans hcq, d, hlength, hcells, hsource, hq, hkind, haddress, hethertype, htag, hpayload, fun h => ?_, fun h hempty => ?_⟩
        · obtain ⟨haq, hsame⟩ := hbusy h
          exact ⟨(congrArg Buffer.aq hcbm).trans haq, htxs.trans hsame⟩
        · obtain ⟨haq, hsent⟩ := hfree h hempty
          exact ⟨(congrArg Buffer.aq hcbm).trans haq, (congrArg Scheduler.uplinkTx htxs).trans hsent⟩
  · refine exec_never ?_
    unfold State.turn
    rw [hexec]
    exact if_neg fun h => h.2.2.elim (Nat.ne_of_gt hindex) fun hq => Bool.false_ne_true (hquiet.symm.trans hq)
  · have hturn' : s.turn o { code := 0x79#8, params := [] } = .inFrame e := by
      unfold State.turn
      rw [hexec]
      exact if_pos ⟨horigin, hdirective, hturn⟩
    let u : State := { s.taken (.resetDirective o []) with mga := { s.mga with resetWait := .unplaced } }
    have hanswer : (s.taken (.resetDirective o [])).answer o (noParams []) .changing (State.resetAsked .unplaced) = done u :=
      State.answer_of_mayChange (s.taken (.resetDirective o [])) o .changing _ may
    let after := (e.answered 0x79#8 (done u)).endHere
    have hentry : e.entryOf 0x79#8 (done u) = { code := 0x79#8, outcome := .done, data := [] } := congrArg (OutcomeEntry.mk 0x79#8 .done) (ite_self _)
    have hstate : (if e.fits (done u).data.length = true then (done u).state else (done u).ifCut) = u := ite_self _
    let w := u.noteEntry { code := 0x79#8, outcome := .done, data := [] }
    have hreset : exec (.resetDirective o []) s = .next (w.advance after) := by
      rw [exec_reset_inFrame hturn', hanswer]
      dsimp only
      rw [State.enterAnswer_eq, hstate, hentry]
      rfl
    have hquiet : w.quiet = s.quiet := State.quiet_taken rfl s
    have hlast : after.directives[after.index]? = none :=
      List.getElem?_eq_none_iff.mpr (List.length_take_le _ _)
    obtain ⟨-, hdone, honly⟩ := w.advance_spec after
    obtain ⟨hmga, hmail⟩ := hdone hlast
    have hlength : e.index < e.directives.length := (List.getElem?_eq_some_iff.mp hdirective).1
    refine ⟨_, hreset, (congrArg Agent.lastEntry hmga).trans (by simp [w, State.noteEntry]), congrArg Agent.resetWait hmga, fun hq => ?_, fun hq => ?_, ?_,
      OnlyIn.trans (fun part hp => by cases part <;> simp_all [Part.Same, w, u, State.noteEntry]) honly⟩
    · exact ⟨w.reportOf after, (congrArg Agent.exec hmga).trans (if_pos (hquiet.trans hq)), rfl, horigin, rfl⟩
    · refine ⟨after, (congrArg Agent.exec hmga).trans (if_neg (by simp [hquiet, hq])), ?_, rfl⟩
      show (e.directives.take (e.index + 1)).length = e.index + 1
      rw [List.length_take]
      omega
    · rw [hmail]
      exact List.mem_append_right _ (.head _)
  · have halone : s.turn o { code := 0x79#8, params := [] } = .alone := by
      unfold State.turn
      rw [hidle]
      exact if_pos hnone
    have hanswer : s.answer o (noParams []) .changing (State.resetAsked .over) = done { s with mga := { s.mga with resetWait := .over } } :=
      State.answer_of_mayChange s o .changing _ may
    refine ⟨(({ s with mga := { s.mga with resetWait := .over } } : State).noteEntry { code := 0x79#8, outcome := .done, data := [] }).post .directedReset,
      ?_, rfl, List.mem_append_right _ (.head _), fun part hp => by cases part <;> simp_all [Part.Same, State.noteEntry]⟩
    show execResetDirective o [] s = _
    unfold execResetDirective
    rw [halone]
    dsimp only
    rw [hanswer]
    rfl

end Sys2Proof.Machine
end

section
/-! The obligation on frames taken in and answered: O57 (10.1, 10.2, 10.7). -/

namespace Sys2Proof.Machine

variable {s t u : State} {o : Origin} {f : AgentFrame} {d : Directive} {ds : List Directive} {r : Report} {n : Nat}

/-! ## Frames in the form of R177 -/

/-- A directive's octets in a frame's body (R193). -/
def Directive.laid (d : Directive) : List Octet := d.code :: num2 d.params.length ++ d.params

theorem parseDirectives_succ (n : Nat) (code high low : Octet) (rest : List Octet) : parseDirectives (n + 1) (code :: high :: low :: rest) =
    if high.toNat * 256 + low.toNat ≤ rest.length then
      (parseDirectives n (rest.drop (high.toNat * 256 + low.toNat))).map fun ds => ⟨code, rest.take (high.toNat * 256 + low.toNat)⟩ :: ds
    else none := rfl

/-- Reading goes past the directives laid end to end (R177). -/
theorem parseDirectives_laid (ds : List Directive) (short : ∀ x ∈ ds, x.params.length < 65536) (n : Nat) (rest : List Octet) :
    parseDirectives (ds.length + n) ((ds.flatMap Directive.laid) ++ rest) = (parseDirectives n rest).map (ds ++ ·) := by
  induction ds with
  | nil => simp
  | cons d ds ih =>
    have hlen : (octet (d.params.length / 256)).toNat * 256 + (octet d.params.length).toNat = d.params.length := by
      have hd := short d (.head _)
      simp only [octet, BitVec.toNat_ofNat]
      omega
    have hstep : (d :: ds).length + n = (ds.length + n) + 1 := by simp [Nat.add_right_comm]
    have hlaid : ((d :: ds).flatMap Directive.laid) ++ rest =
        d.code :: octet (d.params.length / 256) :: octet d.params.length :: (d.params ++ ((ds.flatMap Directive.laid) ++ rest)) := by
      simp [Directive.laid, num2]
    rw [hstep, hlaid, parseDirectives_succ]
    simp only [hlen, List.length_append, Nat.le_add_right, if_true, List.drop_left, List.take_left, ih fun x hx => short x (.tail _ hx)]
    cases parseDirectives n rest <;> rfl

/-- A directive that does not end within the octets is not read (R177). -/
theorem parseDirectives_short {short : List Octet} (cut : short.length < 3 ∨ ∃ code x y tail, short = code :: x :: y :: tail ∧
    tail.length < x.toNat * 256 + y.toNat) (n : Nat) : parseDirectives (n + 1) short = none := by
  rcases cut with h | ⟨code, x, y, tail, rfl, h⟩
  · match short, h with
    | [], _ => rfl
    | [_], _ => rfl
    | [_, _], _ => rfl
  · rw [parseDirectives_succ]
    exact if_neg (Nat.not_le.mpr h)

/-- The form of a frame's first ten octets (R34, R177). -/
theorem AgentFrame.accepted_eq {kind a b c : Octet} {cabinet sequence count : Nat} {body : List Octet} {own : BitVec 16} (ethertype : f.ethertype = 0x88B5#16)
    (addressed : cabinet = own.toNat ∨ cabinet = 65535) (hsequence : sequence < 65536) (least : 1 ≤ count) (most : count ≤ 16)
    (payload : f.payload = [1#8, kind] ++ num2 cabinet ++ num2 sequence ++ [octet count, a, b, c] ++ body) :
    f.accepted own = (parseDirectives count body).map fun ds => (sequence, ds) := by
  have hcabinet : cabinet < 65536 := by
    rcases addressed with rfl | rfl
    · exact own.isLt
    · decide
  have hcount : (octet count).toNat = count := octet_toNat (by omega)
  have hread {x : Nat} (h : x < 65536) : read2 (octet (x / 256)) (octet x) = x := by
    simp only [read2, octet, BitVec.toNat_ofNat]
    omega
  unfold accepted
  rw [payload]
  simp only [num2, List.cons_append, List.nil_append, hread hcabinet, hread hsequence, hcount]
  exact if_pos ⟨ethertype, addressed, rfl, least, most⟩

/-- A frame outside the form of R177, or not for this part (R34). -/
def AgentFrame.Malformed (cabinet : BitVec 16) (f : AgentFrame) : Prop :=
  f.ethertype ≠ 0x88B5#16 ∨ f.payload.length < 10 ∨ f.payload[0]? ≠ some 1#8 ∨ f.payload[6]? = some 0#8 ∨
    (∃ n, f.payload[6]? = some n ∧ 16 < n.toNat) ∨
    (∃ x y, f.payload[2]? = some x ∧ f.payload[3]? = some y ∧ x.toNat * 256 + y.toNat ≠ cabinet.toNat ∧ x.toNat * 256 + y.toNat ≠ 65535) ∨
    (∃ (a b c d e g h i j : Octet) (n : Nat) (done : List Directive) (short : List Octet),
      f.payload = [a, b, c, d, e, g, octet n, h, i, j] ++ (done.flatMap Directive.laid) ++ short ∧ done.length < n ∧ n ≤ 16 ∧
        (∀ x ∈ done, x.params.length < 65536) ∧
        (short.length < 3 ∨ ∃ code x y tail, short = code :: x :: y :: tail ∧ tail.length < x.toNat * 256 + y.toNat))

/-- A malformed frame is not accepted (R34, R177). -/
theorem AgentFrame.accepted_none {cabinet : BitVec 16} (bad : f.Malformed cabinet) : f.accepted cabinet = none := by
  unfold accepted
  split
  case h_2 => rfl
  case h_1 version kind c1 c0 q1 q0 count a b c body hpayload =>
    dsimp only
    split
    case isFalse => rfl
    case isTrue hgood =>
      obtain ⟨hethertype, haddressed, hversion, hleast, hmost⟩ := hgood
      rw [Option.map_eq_none_iff]
      unfold Malformed at bad
      rw [hpayload] at bad
      rcases bad with h | h | h | h | ⟨n, h, hn⟩ | ⟨x, y, hx, hy, hown, hall⟩ | ⟨a', b', c', d', e', g', h', i', j', n, done, short, h, hmore, hn, hdone, hshort⟩
      · exact absurd hethertype h
      · simp at h
        omega
      · refine absurd ?_ h
        simpa using BitVec.eq_of_toNat_eq hversion
      · obtain rfl : count = 0#8 := Option.some.inj h
        exact absurd hleast (by decide)
      · obtain rfl : count = n := Option.some.inj h
        omega
      · obtain rfl : c1 = x := Option.some.inj hx
        obtain rfl : c0 = y := Option.some.inj hy
        exact haddressed.elim (absurd · hown) (absurd · hall)
      · simp only [List.cons_append, List.nil_append, List.cons.injEq] at h
        obtain ⟨-, -, -, -, -, -, rfl, -, -, -, rfl⟩ := h
        obtain ⟨k, rfl⟩ : ∃ k, n = done.length + (k + 1) := ⟨n - done.length - 1, by omega⟩
        rw [octet_toNat (by omega), parseDirectives_laid done hdone, parseDirectives_short hshort]
        rfl

/-! ## Taking in (R176) -/

/-- The attempt of a notice frame takes notices from the queue at most (R186). -/
theorem State.tryNoticeFrame_mga (s : State) : ∃ ns, s.tryNoticeFrame.mga = { s.mga with notices := ns } := by
  unfold tryNoticeFrame
  split
  · exact ⟨_, rfl⟩
  · split
    · exact ⟨_, rfl⟩
    · dsimp only
      split
      · exact ⟨s.mga.notices.drop Config.maxNoticeItems, by simp⟩
      · exact ⟨_, rfl⟩

/-- A frame accepted is in execution with its first directive up; an uplink frame teaches the notice destination (R177, R178). -/
theorem State.acceptFrame_spec (f : AgentFrame) (sequence : Nat) (d : Directive) (ds : List Directive) (s : State) :
    let t := s.acceptFrame f sequence (d :: ds)
    (∃ ns, t.mga =
      { s.mga with
        accepted := s.mga.accepted + 1#32
        exec := .executing { frame := f, sequence := sequence, directives := d :: ds, index := 0, entries := [], cut := 0 }
        destination := if f.origin = .uplink then some ⟨f.source, f.vid⟩ else s.mga.destination, notices := ns }) ∧
      t.mail = s.mail ++ [directiveCommand f.origin d] ∧ OnlyIn [.mga, .mail, .cbm, .txs] s t := by
  intro t
  obtain ⟨u, hu, hmga, hmail, honly⟩ : ∃ u : State, t = (match f.origin with | .uplink => u.tryNoticeFrame | .craft => u) ∧ u.mga =
      { s.mga with
        accepted := s.mga.accepted + 1#32
        exec := .executing { frame := f, sequence := sequence, directives := d :: ds, index := 0, entries := [], cut := 0 }
        destination := if f.origin = .uplink then some ⟨f.source, f.vid⟩ else s.mga.destination } ∧
      u.mail = s.mail ++ [directiveCommand f.origin d] ∧ OnlyIn [.mga, .mail, .cbm, .txs] s u := by
    simp only [t, acceptFrame]
    cases horigin : f.origin with
    | uplink => exact ⟨_, rfl, rfl, rfl, fun part hp => by cases part <;> simp_all [Part.Same]⟩
    | craft => exact ⟨_, rfl, rfl, rfl, fun part hp => by cases part <;> simp_all [Part.Same]⟩
  rw [hu]
  cases horigin : f.origin with
  | uplink =>
    obtain ⟨ns, hns⟩ := u.tryNoticeFrame_mga
    exact ⟨⟨ns, hns.trans (by rw [hmga, horigin])⟩, by simp [hmail, horigin], honly.trans fun part hp => by cases part <;> simp_all [Part.Same]⟩
  | craft => exact ⟨⟨u.mga.notices, by rw [hmga, horigin]⟩, by simp [hmail, horigin], honly⟩

/-- Which store is served: the only one with a frame, or the one not served last (R176). -/
theorem execAgentFrameTakeIn_serves (idle : s.mga.exec = .idle) (noReset : s.mga.resetWait = .none)
    (next : (o = .uplink ∧ s.mga.uplinkStore = some f ∧ (s.mga.craftStore = none ∨ s.mga.servedLast = .craft)) ∨
      (o = .craft ∧ s.mga.craftStore = some f ∧ (s.mga.uplinkStore = none ∨ s.mga.servedLast = .uplink))) :
    exec .agentFrameTakeIn s = .next ((s.taken .agentFrameTakeIn).takeFrameIn o f) := by
  have hstore : s.mga.nextStore = some o ∧ s.mga.store o = some f := by
    unfold Agent.nextStore Agent.store
    rcases next with ⟨rfl, hstore, hother⟩ | ⟨rfl, hstore, hother⟩
    · rw [hstore]
      refine ⟨?_, rfl⟩
      cases hcraft : s.mga.craftStore with
      | none => rfl
      | some g => simp [hother.resolve_left (by simp [hcraft])]
    · rw [hstore]
      refine ⟨?_, rfl⟩
      cases huplink : s.mga.uplinkStore with
      | none => rfl
      | some g => simp [hother.resolve_left (by simp [huplink])]
  show execAgentFrameTakeIn s = _
  unfold execAgentFrameTakeIn
  dsimp only
  rw [if_pos (show (s.taken .agentFrameTakeIn).mga.exec = .idle ∧ (s.taken .agentFrameTakeIn).mga.resetWait = .none from ⟨idle, noReset⟩)]
  rw [show (s.taken .agentFrameTakeIn).mga.nextStore = some o from hstore.1]
  dsimp only
  rw [show (s.taken .agentFrameTakeIn).mga.store o = some f from hstore.2]

/-- The agent after a store is served (R176). -/
theorem Agent.serve_spec (o : Origin) (a : Agent) : (a.serve o).servedLast = o ∧
    (o = .uplink → (a.serve o).uplinkStore = none ∧ (a.serve o).craftStore = a.craftStore) ∧
    (o = .craft → (a.serve o).craftStore = none ∧ (a.serve o).uplinkStore = a.uplinkStore) ∧
    a.serve o = { a with uplinkStore := (a.serve o).uplinkStore, craftStore := (a.serve o).craftStore, servedLast := o } := by
  cases o
  · exact ⟨rfl, fun _ => ⟨rfl, rfl⟩, nofun, rfl⟩
  · exact ⟨rfl, nofun, fun _ => ⟨rfl, rfl⟩, rfl⟩

theorem State.setMga_only (x : Agent) (s : State) : OnlyIn [.mga] s { s with mga := x } := fun part hp => by cases part <;> simp_all [Part.Same]

/-- A frame turned down (R34, R177). -/
theorem State.rejectFrame_spec (s : State) : s.rejectFrame.mga = { s.mga with rejected := bump s.mga.rejected } ∧ OnlyIn [.mga, .mail] s s.rejectFrame := by
  obtain ⟨honly, -⟩ := State.callTakeIn_spec { s with mga := { s.mga with rejected := bump s.mga.rejected } }
  exact ⟨honly .mga (by decide), ((s.setMga_only _).mono (by decide)).trans (honly.mono (by decide))⟩

/-- The report built for a frame: its addresses, its tag and its octets (R179, R193). -/
theorem State.reportOctets_eq (e : Execution) (s : State) : s.reportOctets e =
    [1#8, 2#8] ++ num2 s.mga.cabinet.toNat ++ num2 e.sequence ++
      [octet e.entries.length, octet e.cut,
        octet ((if s.mga.faults = [] then 0 else 1) + (if s.mga.changeMark then 2 else 0) + (if s.mga.locked then 4 else 0) +
          (if s.mga.lostMark then 8 else 0) + (if e.frame.origin = .craft then 16 else 0)), 0#8] ++
      e.entries.flatMap fun x => [x.code, octet x.outcome.code] ++ num2 x.data.length ++ x.data := by
  have halert : (if s.mga.alert = true then 1 else 0) = if s.mga.faults = [] then 0 else 1 := by
    by_cases h : s.mga.faults = [] <;> simp [Agent.alert_iff, h]
  have hcraft : (if (e.frame.origin == .craft) = true then 16 else 0) = if e.frame.origin = .craft then 16 else 0 := by
    cases e.frame.origin <;> rfl
  unfold reportOctets agentHeader Agent.reportFlags
  rw [setOctet_five, halert, hcraft]
  simp only [num1, num2, List.cons_append, List.nil_append, List.append_assoc, OutcomeEntry.octets]
  rfl

theorem AgentFrame.reportVid_isSome (f : AgentFrame) : (if f.reportVid.isSome then 22 else 18) = if f.origin = .uplink then 22 else 18 := by
  unfold reportVid
  cases f.origin <;> rfl

theorem AgentFrame.reportVid_map (f : AgentFrame) : f.reportVid.map (BitVec.ofNat 12) =
    match f.origin with | .uplink => some (BitVec.ofNat 12 f.vid) | .craft => none := by
  unfold reportVid
  cases f.origin <;> rfl

/-- The entry last added stands while the frame goes on. -/
theorem State.advance_lastEntry (e : Execution) (s : State) : (s.advance e).mga.lastEntry = s.mga.lastEntry := by
  unfold advance
  split
  · rfl
  · split <;> rfl

/-! ## Reports placed and abandoned (R59, R179, R180) -/

/-- What a freed cell sets off leaves the agent's execution and marks (R180, R186, R191). -/
theorem State.afterAgentFrames_marks (xs : List Descriptor) (s : State) : (s.afterAgentFrames xs).mga.exec = s.mga.exec ∧
    (s.afterAgentFrames xs).mga.changeMark = s.mga.changeMark ∧ (s.afterAgentFrames xs).mga.lostMark = s.mga.lostMark := by
  have hoffered : (s.offeredAgain xs).mga.exec = s.mga.exec ∧ (s.offeredAgain xs).mga.changeMark = s.mga.changeMark ∧
      (s.offeredAgain xs).mga.lostMark = s.mga.lostMark := by
    unfold offeredAgain
    dsimp only
    repeat' split
    all_goals exact ⟨rfl, rfl, rfl⟩
  obtain ⟨ns, hns⟩ := (s.offeredAgain xs).tryNoticeFrame_mga
  rw [afterAgentFrames_eq, hns]
  exact hoffered

theorem State.discardCraft_marks (s : State) : s.discardCraft.mga.exec = s.mga.exec ∧ s.discardCraft.mga.changeMark = s.mga.changeMark ∧
    s.discardCraft.mga.lostMark = s.mga.lostMark := by
  unfold discardCraft
  dsimp only
  split
  · exact ⟨rfl, rfl, rfl⟩
  · obtain ⟨hexec, hchange, hlost⟩ := State.afterAgentFrames_marks s.cbm.cq
      { (s.freeCells .reserved (cellsOf s.cbm.cq)).setQueue .cq [] with
        txs := { ((s.freeCells .reserved (cellsOf s.cbm.cq)).setQueue .cq []).txs with
          craftDiscards := bump ((s.freeCells .reserved (cellsOf s.cbm.cq)).setQueue .cq []).txs.craftDiscards s.cbm.cq.length } }
    exact ⟨hexec, hchange, hlost⟩

/-- A call to take a frame in adds at most a message. -/
theorem State.callTakeIn_eq (s : State) : ∃ ml, s.callTakeIn = { s with mail := ml } := by
  unfold callTakeIn
  split <;> exact ⟨_, rfl⟩

theorem OnlyIn.setMail {l : List Part} (h : OnlyIn l s t) (ml : List Instr) : OnlyIn l { s with mail := ml } { t with mail := ml } := fun part hp => by
  have hsame := h part hp
  cases part
  case mail => rfl
  all_goals exact hsame

/-- What messages there are does not change the arbiter's choice. -/
theorem State.UplinkChosen.setMail {u t : State} (h : u.UplinkChosen t) (ml : List Instr) :
    State.UplinkChosen { u with mail := ml } { t with mail := ml } := by
  obtain ⟨honly, hstays, haq, hexpress, hbulk, hnone⟩ := h
  refine ⟨honly.setMail ml, fun hfree => ?_, haq, hexpress, hbulk, fun hfree hempty hfits => ?_⟩
  · exact congrArg (fun x : State => { x with mail := ml }) (hstays hfree)
  · exact congrArg (fun x : State => { x with mail := ml }) (hnone hfree hempty hfits)

/-- The state whose choice follows a placement: the report at the tail of its queue, its marks cleared (R179, R180). -/
def State.withReport (r : Report) (s : State) : State :=
  { s.placeFrame (reportQueue r.origin) r.length r.image (.report r.answersReset) with mga := s.mga.reportPlaced r s.now }

theorem reportQueue_cases (o : Origin) : reportQueue o = .aq ∨ reportQueue o = .cq := by
  cases o
  · exact .inl rfl
  · exact .inr rfl

theorem State.offerReport_placed (room : s.hasRoom r.length = true) : s.offerReport r = ((s.withReport r).placed r.origin).callTakeIn := by
  obtain ⟨-, -, -, -, honly⟩ := s.placeFrame_spec r.length r.image (.report r.answersReset) (reportQueue_cases r.origin)
  have hmga : (s.placeFrame (reportQueue r.origin) r.length r.image (.report r.answersReset)).mga = s.mga := honly .mga (by decide)
  have hnow : (s.placeFrame (reportQueue r.origin) r.length r.image (.report r.answersReset)).now = s.now := honly .now (by decide)
  have hw : ({ s.placeFrame (reportQueue r.origin) r.length r.image (.report r.answersReset) with
      mga := (s.placeFrame (reportQueue r.origin) r.length r.image (.report r.answersReset)).mga.reportPlaced r
        (s.placeFrame (reportQueue r.origin) r.length r.image (.report r.answersReset)).now } : State) = s.withReport r := by
    rw [hmga, hnow]
    rfl
  exact (if_pos room).trans (congrArg (fun x => (x.placed r.origin).callTakeIn) hw)

/-- What every placement leaves of the agent (R179, R180). -/
theorem State.placed_marks (o : Origin) (s : State) : (s.placed o).mga.exec = s.mga.exec ∧ (s.placed o).mga.changeMark = s.mga.changeMark ∧
    (s.placed o).mga.lostMark = s.mga.lostMark ∧ OnlyIn [.mga, .mail, .cbm, .txs] s (s.placed o) := by
  unfold placed
  cases o with
  | uplink => exact ⟨by simp, by simp, by simp, s.uplinkChoice_chosen.1.mono (by decide)⟩
  | craft =>
    dsimp only
    split
    · exact ⟨by simp, by simp, by simp, s.craftChoice_spec.1.mono (by decide)⟩
    · obtain ⟨hexec, hchange, hlost⟩ := s.discardCraft_marks
      obtain ⟨-, -, -, -, -, -, -, -, honly⟩ := s.discardCraft_spec
      exact ⟨hexec, hchange, hlost, honly.mono (by decide)⟩

/-- Settles O57. -/
theorem framesAreTakenInAndAnswered : Obligations.FramesAreTakenInAndAnswered := by
  refine ⟨fun o f s hidle hnone hnext horigin => ?_, fun s hbusy => ?_, fun o d e s t hexec horigin hdirective hturn hstep => ?_, fun e s => ?_,
    fun e s hexec hdone => ⟨fun hquiet => ?_, fun hquiet => ?_⟩, fun r s hexec => ?_⟩
  · intro served
    have htake := execAgentFrameTakeIn_serves hidle hnone hnext
    let v : State := { s.taken .agentFrameTakeIn with mga := s.mga.serve o }
    obtain ⟨hlast, huplink, hcraft, hserve⟩ := s.mga.serve_spec o
    have hcabinet : (s.mga.serve o).cabinet = s.mga.cabinet := (congrArg Agent.cabinet hserve :)
    have hkept : (s.mga.serve o).subscribers = s.mga.subscribers ∧ (s.mga.serve o).faults = s.mga.faults ∧ (s.mga.serve o).locked = s.mga.locked ∧
        (s.mga.serve o).exec = .idle ∧ (s.mga.serve o).rejected = s.mga.rejected ∧ (s.mga.serve o).accepted = s.mga.accepted ∧
        (s.mga.serve o).destination = s.mga.destination := by
      rw [hserve]
      exact ⟨rfl, rfl, rfl, hidle, rfl, rfl, rfl⟩
    obtain ⟨hsubs, hfaults, hlocked, hidle', hrejects, haccepts, hdest⟩ := hkept
    have hv : OnlyIn [.mga, .mail, .cbm, .txs] s v := ((s.taken_only _).mono (by decide)).trans ((State.setMga_only _ _).mono (by decide))
    have htaken : (s.taken .agentFrameTakeIn).takeFrameIn o f = match f.accepted s.mga.cabinet with
        | some (sequence, ds) => v.acceptFrame f sequence ds
        | none => v.rejectFrame := by
      rw [← hcabinet]
      rfl
    refine ⟨fun kind cabinet sequence d ds rest a b c hethertype haddressed hsequence hmost hshort hpayload => ?_, fun hbad => ?_⟩
    · have hparse : parseDirectives (d :: ds).length (((d :: ds).flatMap Directive.laid) ++ rest) = some (d :: ds) := by
        rw [show (d :: ds).length = (d :: ds).length + 0 from rfl, parseDirectives_laid (d :: ds) hshort]
        simp [parseDirectives]
      have haccepted : f.accepted s.mga.cabinet = some (sequence, d :: ds) :=
        (AgentFrame.accepted_eq hethertype haddressed hsequence (Nat.le_add_left 1 _) hmost (hpayload.trans (List.append_assoc _ _ _))).trans
          (congrArg (Option.map fun ds => (sequence, ds)) hparse)
      have hexec : (s.taken .agentFrameTakeIn).takeFrameIn o f = v.acceptFrame f sequence (d :: ds) := by rw [htaken, haccepted]
      obtain ⟨⟨ns, hmga⟩, hmail, honly⟩ := v.acceptFrame_spec f sequence d ds
      refine ⟨_, htake.trans (congrArg _ hexec), ⟨(congrArg Agent.servedLast hmga).trans hlast, fun ho => ⟨(congrArg Agent.uplinkStore hmga).trans (huplink ho).1,
        (congrArg Agent.craftStore hmga).trans (huplink ho).2⟩, fun ho => ⟨(congrArg Agent.craftStore hmga).trans (hcraft ho).1,
        (congrArg Agent.uplinkStore hmga).trans (hcraft ho).2⟩, (congrArg Agent.subscribers hmga).trans hsubs, (congrArg Agent.faults hmga).trans hfaults,
        (congrArg Agent.locked hmga).trans hlocked, hv.trans honly⟩, congrArg Agent.exec hmga,
        (congrArg Agent.accepted hmga).trans (congrArg (· + 1#32) haccepts), (congrArg Agent.rejected hmga).trans hrejects, ?_, ?_⟩
      · refine (congrArg Agent.destination hmga).trans ?_
        rw [horigin]
        exact if_congr Iff.rfl rfl hdest
      · rw [hmail, horigin]
        exact List.mem_append_right _ (.head _)
    · have hrejected : (s.taken .agentFrameTakeIn).takeFrameIn o f = v.rejectFrame := by rw [htaken, AgentFrame.accepted_none hbad]
      obtain ⟨hmga, honly⟩ := v.rejectFrame_spec
      exact ⟨_, htake.trans (congrArg _ hrejected), ⟨(congrArg Agent.servedLast hmga).trans hlast,
        fun ho => ⟨(congrArg Agent.uplinkStore hmga).trans (huplink ho).1, (congrArg Agent.craftStore hmga).trans (huplink ho).2⟩,
        fun ho => ⟨(congrArg Agent.craftStore hmga).trans (hcraft ho).1, (congrArg Agent.uplinkStore hmga).trans (hcraft ho).2⟩,
        (congrArg Agent.subscribers hmga).trans hsubs, (congrArg Agent.faults hmga).trans hfaults, (congrArg Agent.locked hmga).trans hlocked,
        hv.trans (honly.mono (by decide))⟩, (congrArg Agent.exec hmga).trans hidle', (congrArg Agent.rejected hmga).trans (congrArg bump hrejects),
        (congrArg Agent.accepted hmga).trans haccepts, (congrArg Agent.destination hmga).trans hdest⟩
  · refine ⟨s.taken .agentFrameTakeIn, ?_, s.taken_only _⟩
    show execAgentFrameTakeIn s = _
    unfold execAgentFrameTakeIn
    exact if_neg fun h => hbusy.elim (absurd h.1) (absurd h.2)
  · have hturn' : s.turn o d = .inFrame e := by
      unfold State.turn
      rw [hexec]
      exact if_pos ⟨horigin, hdirective, hturn⟩
    obtain ⟨answer, ended, hanswer, hnotEnded⟩ := exec_inFrame hturn'
    rw [State.enterAnswer_eq] at hanswer
    obtain rfl := Host.Outcome.next.inj (hstep.symm.trans hanswer)
    let w := (if e.fits answer.data.length then answer.state else answer.ifCut).noteEntry (e.entryOf d.code answer)
    refine ⟨e.entryOf d.code answer, (e.answered d.code answer).cut, ?_, rfl, ?_, fun next hnext hcode => ?_, fun hnext => ?_⟩
    · exact w.advance_lastEntry _
    · show (if e.fits answer.data.length then e.cut else e.cut + 1) = e.cut ∨ _
      by_cases hfits : e.fits answer.data.length = true
      · exact .inl (if_pos hfits)
      · exact .inr ⟨if_neg hfits, if_neg hfits⟩
    · obtain rfl : ended = false := hnotEnded hcode
      obtain ⟨hmga, hmail⟩ := (w.advance_spec (e.answered d.code answer)).1 next hnext
      refine ⟨congrArg Agent.exec hmga, ?_⟩
      rw [show (w.advance (if false = true then (e.answered d.code answer).endHere else e.answered d.code answer)).mail = _ from hmail]
      exact List.mem_append_right _ (horigin ▸ .head _)
    · have hends : (if ended = true then (e.answered d.code answer).endHere else e.answered d.code answer) = e.answered d.code answer := by
        have hwhole : e.directives.take (e.index + 1) = e.directives := List.take_of_length_le (List.getElem?_eq_none_iff.mp hnext)
        have hsame : (e.answered d.code answer).endHere = e.answered d.code answer := by
          show ({ e.answered d.code answer with directives := e.directives.take (e.index + 1) } : Execution) = _
          rw [hwhole]
          rfl
        rw [hsame, ite_self]
      rw [hends]
      obtain ⟨hmga, hmail⟩ := (w.advance_spec (e.answered d.code answer)).2.1 hnext
      have hquiet : (w.advance (e.answered d.code answer)).quiet = w.quiet := by
        unfold State.quiet
        rw [hmail, List.any_append]
        simp [betweenBlocks]
      have hreport : (w.advance (e.answered d.code answer)).reportOf (e.answered d.code answer) = w.reportOf (e.answered d.code answer) := by
        unfold State.reportOf State.reportOctets
        rw [hmga]
        rfl
      refine ⟨?_, ?_⟩
      · show Instr.reportPlacement ∈ (w.advance (e.answered d.code answer)).mail
        rw [hmail]
        exact List.mem_append_right _ (.head _)
      · show (w.advance (e.answered d.code answer)).mga.exec = if (w.advance (e.answered d.code answer)).quiet then
          .reporting ((w.advance (e.answered d.code answer)).reportOf (e.answered d.code answer)) else .executing (e.answered d.code answer)
        rw [hquiet, hreport]
        exact congrArg Agent.exec hmga
  · intro r mga octets
    have hoctets : s.reportOctets e = octets := s.reportOctets_eq e
    obtain ⟨hlength, haddress, hethertype, htag, hpayload⟩ := buildFrame_spec e.frame.source e.frame.reportVid (s.reportOctets e)
    rw [e.frame.reportVid_isSome, hoctets] at hlength hpayload
    have hr : r.length = (buildFrame e.frame.source e.frame.reportVid octets).2 :=
      congrArg (fun x => (buildFrame e.frame.source e.frame.reportVid x).2) hoctets
    refine ⟨rfl, rfl, rfl, rfl, haddress, hethertype, htag.trans e.frame.reportVid_map, ?_, ?_⟩
    · rw [hr, hlength, show r.image = (buildFrame e.frame.source e.frame.reportVid octets).1 from
        congrArg (fun x => (buildFrame e.frame.source e.frame.reportVid x).1) hoctets]
      exact hpayload
    · exact hr.trans hlength
  · show execReportPlacement s = _
    unfold execReportPlacement
    rw [hexec]
    exact if_neg fun h => Bool.false_ne_true (hquiet.symm.trans h.2)
  · show execReportPlacement s = execReportPlacement (s.buildReport e)
    unfold execReportPlacement
    rw [hexec]
    exact if_pos ⟨hdone, hquiet⟩
  · intro cells d
    let v := s.taken .reportPlacement
    have hplacement : exec .reportPlacement s = .next (v.offerReport r) := by
      show execReportPlacement s = _
      unfold execReportPlacement
      rw [hexec]
    refine ⟨fun hroom => ?_, fun hfull => ?_, fun first hoffered => ?_, fun hnever => ?_⟩
    · let w := v.withReport r
      have hoffer : v.offerReport r = (w.placed r.origin).callTakeIn := State.offerReport_placed ((v.hasRoom_iff _).mpr hroom)
      obtain ⟨hidle, hchange, hlost, hplaced⟩ := w.placed_marks r.origin
      obtain ⟨htake, hcalls⟩ := (w.placed r.origin).callTakeIn_spec
      obtain ⟨haq, hothers, hheld, htxs, hplace⟩ := v.placeFrame_spec r.length r.image (.report r.answersReset) (reportQueue_cases r.origin)
      have hcells : cellsFor r.length = cells := cellsFor_eq _
      have hnumbers : (v.newCells .reserved (cellsFor r.length)).length = cells := (State.newCells_length _ _ _).trans hcells
      have hheld : w.cbm.reservedHeld = s.cbm.reservedHeld + cells := hheld.trans (congrArg (s.cbm.reservedHeld + ·) hcells)
      have hcbm : ((w.placed r.origin).callTakeIn).cbm = (w.placed r.origin).cbm := htake .cbm (by decide)
      have htxsKept : ((w.placed r.origin).callTakeIn).txs = (w.placed r.origin).txs := htake .txs (by decide)
      have hmgaKept : ((w.placed r.origin).callTakeIn).mga = (w.placed r.origin).mga := htake .mga (by decide)
      have hw : OnlyIn [.mga, .mail, .cbm, .txs] s w :=
        ((s.taken_only _).mono (by decide)).trans ((hplace.mono (by decide)).trans ((State.setMga_only _ _).mono (by decide)))
      let held := v.newCells .reserved (cellsFor r.length)
      have hd : v.placedDescriptor (reportQueue r.origin) r.length r.image (.report r.answersReset) = d held := by
        dsimp only [d, State.placedDescriptor]
        cases r.origin <;> rfl
      have hqueue : w.queue (reportQueue r.origin) = s.queue (reportQueue r.origin) ++ [d held] := haq.trans (congrArg (fun x => s.queue (reportQueue r.origin) ++ [x]) hd)
      have hmay : w.uplinkMayStart = s.uplinkMayStart := by
        unfold State.uplinkMayStart
        rw [show w.txs = s.txs from htxs, show w.scu = s.scu from hw .scu (by decide)]
      have halives : w.craftAlive = s.craftAlive := by
        unfold State.craftAlive
        rw [show w.txs = s.txs from htxs, show w.csu = s.csu from hw .csu (by decide)]
      refine ⟨_, hplacement.trans (congrArg _ hoffer), (congrArg Agent.exec hmgaKept).trans hidle, (congrArg Agent.changeMark hmgaKept).trans hchange,
        (congrArg Agent.lostMark hmgaKept).trans hlost, fun hup => ?_, fun hcraft halive => ?_, fun hcraft hdead => ?_, fun hreset hup => ?_,
        fun hreset hup hnone hstore => ?_, hw.trans (hplaced.trans (htake.mono (by decide)))⟩
      · rw [hcbm, htxsKept]
        have hchoice : w.placed r.origin = w.uplinkChoice := by rw [hup]; rfl
        rw [hup] at hqueue
        have haq : w.cbm.aq = s.cbm.aq ++ [d held] := hqueue
        obtain ⟨x, rest, hx⟩ : ∃ x rest, w.cbm.aq = x :: rest := by
          rw [haq]
          cases s.cbm.aq <;> exact ⟨_, _, rfl⟩
        obtain ⟨hstays, hstarts⟩ := State.uplinkChoice_aq hx
        have hkept : w.uplinkChoice.cbm.reservedHeld = w.cbm.reservedHeld := by
          cases h : w.uplinkMayStart with
          | false => rw [hstays h]
          | true => rw [(hstarts h).2]
        refine ⟨by rw [hchoice]; exact hkept.trans hheld, fun h => ⟨held, hnumbers, ?_⟩, fun h hempty => ⟨held, hnumbers, ?_⟩, ?_⟩
        · rw [hchoice, hstays (hmay.trans h)]
          exact ⟨haq, htxs⟩
        · obtain ⟨hsent, hleft⟩ := hstarts (hmay.trans h)
          rw [haq, hempty] at hx
          obtain ⟨rfl, rfl⟩ : d held = x ∧ [] = rest := List.cons.inj hx
          rw [hchoice]
          exact ⟨congrArg Buffer.aq hleft, congrArg Scheduler.uplinkTx hsent⟩
        · obtain ⟨ml, hml⟩ := (w.placed r.origin).callTakeIn_eq
          refine ⟨held, { w with mail := ml }, hnumbers, haq, fun q hq => ?_, htxs, hw .scu (by decide), ?_⟩
          · exact hothers q (by rw [hup]; exact hq)
          · rw [hml, hchoice]
            exact w.uplinkChoice_chosen.setMail ml
      · rw [hcbm, htxsKept]
        have hchoice : w.placed r.origin = w.craftChoice := by
          rw [hcraft]
          exact if_pos (halives.trans halive)
        rw [hcraft] at hqueue
        have hcq : w.cbm.cq = s.cbm.cq ++ [d held] := hqueue
        obtain ⟨-, hkept, -, hstays, hstarts⟩ := w.craftChoice_spec
        rw [hchoice]
        refine ⟨hkept.trans hheld, fun hbusy => ⟨held, hnumbers, ?_⟩, fun hfree hempty => ⟨held, hnumbers, ?_⟩⟩
        · rw [hstays (.inl (by rw [show w.txs = s.txs from htxs]; exact hbusy))]
          exact hcq
        · rw [hempty] at hcq
          obtain ⟨hsent, hleft⟩ := hstarts (d held) [] (by rw [show w.txs = s.txs from htxs]; exact hfree) hcq (halives.trans halive)
          exact ⟨hleft, hsent⟩
      · rw [hcbm]
        have hdiscard : w.placed r.origin = w.discardCraft := by
          rw [hcraft]
          exact if_neg (by rw [halives, hdead]; exact Bool.false_ne_true)
        rw [hdiscard]
        exact w.discardCraft_spec.1
      · have hchoice : w.placed r.origin = w.uplinkChoice := by rw [hup]; rfl
        rw [hmgaKept, hchoice, show w.uplinkChoice.mga = w.mga from w.uplinkChoice_chosen.1 .mga (by decide)]
        exact if_pos hreset
      · have hchoice : w.placed r.origin = w.uplinkChoice := by rw [hup]; rfl
        have hmga : (w.placed r.origin).mga = w.mga := by rw [hchoice]; exact w.uplinkChoice_chosen.1 .mga (by decide)
        refine hcalls hidle ?_ (.inl ?_)
        · rw [hmga]
          exact (if_neg (by rw [hreset]; exact Bool.false_ne_true)).trans hnone
        · rw [hmga]
          exact Option.isSome_iff_ne_none.mpr hstore
    · have hno : ¬v.hasRoom r.length = true := fun h => Nat.not_le.mpr hfull ((v.hasRoom_iff _).mp h)
      exact ⟨_, hplacement.trans (congrArg _ (if_neg hno)), rfl, ((s.taken_only _).mono (by decide)).trans ((State.setMga_only _ _).mono (by decide))⟩
    · let x : State := { s.reach (first + 2000000) with mga := { s.mga with exec := .idle, reportsLost := bump s.mga.reportsLost } }
      have habandon : exec .reportAbandon s = .next (if r.answersReset then x.endResetWait else x).callTakeIn := by
        show execReportAbandon s = _
        unfold execReportAbandon
        rw [hexec]
        dsimp only
        rw [hoffered]
        rfl
      have hx : OnlyIn [.now, .mga, .mail] s x := ((s.reach_only _).mono (by decide)).trans ((State.setMga_only _ (s.reach (first + 2000000))).mono (by decide))
      refine ⟨_, habandon, ?_⟩
      cases r.answersReset with
      | true =>
        obtain ⟨htake, -⟩ := x.endResetWait.callTakeIn_spec
        obtain ⟨more, hmore⟩ := x.endResetWait.callTakeIn_sends
        refine ⟨htake .now (by decide), htake .mga (by decide), fun _ => ?_, hx.trans (OnlyIn.trans (t := x.endResetWait) ?_ (htake.mono (by decide)))⟩
        · rw [show (if true = true then x.endResetWait else x).callTakeIn.mail = _ from hmore]
          exact List.mem_append_left _ (List.mem_append_right _ (.head _))
        · exact fun part hp => by cases part <;> simp_all [Part.Same, State.endResetWait]
      | false =>
        obtain ⟨htake, -⟩ := x.callTakeIn_spec
        exact ⟨htake .now (by decide), htake .mga (by decide), nofun, hx.trans (htake.mono (by decide))⟩
    · show execReportAbandon s = _
      unfold execReportAbandon
      rw [hexec]
      dsimp only
      rw [hnever]

end Sys2Proof.Machine
end

section
/-! The obligation on the sweeps of the Line Watch Unit: O52 (08). -/

namespace Sys2Proof.Machine

variable {s t u : State} {p q : Port} {src : FaultSource} {kind : FaultKind}

/-! ## The watch records -/

theorem Row.set_set {n : Nat} {α : Type} (v : Row n α) (i : Fin n) (x y : α) : (v.set i x).set i y = v.set i y := Row.ext fun j => by
  simp only [Row.get_set]
  split <;> rfl

theorem State.settleSweepTimer_records (s : State) : s.settleSweepTimer.lwu.records = s.lwu.records := by
  unfold settleSweepTimer
  split
  · split <;> rfl
  · rfl

/-- The comparison of R151 changes the last level reported of its own pair alone. -/
theorem State.reportLevel_records (p : Port) (s : State) : (s.reportLevel p).lwu.records =
    s.lwu.records.set p { s.lwu.records.get p with lastReported := (s.lwu.records.get p).level } := by
  unfold reportLevel
  dsimp only
  split
  · next hsame => rw [hsame, Row.set_get]
  · simp

theorem State.reportLevel_faults (p : Port) (s : State) : (s.reportLevel p).mga.faults = s.mga.faults := by
  unfold reportLevel
  dsimp only
  split <;> simp

/-- A watch worked out again changes the record of its own pair alone (R146, R151). -/
theorem State.rewatch_records (p : Port) (s : State) :
    let new := (s.lwu.records.get p).rewatched (s.wantsFv p) (s.wantsWake p)
    (s.rewatch p).lwu.records = s.lwu.records.set p
      (if (s.lwu.records.get p).fvWatched = true ∧ s.wantsFv p = false then { new with lastReported := new.level } else new) := by
  intro new
  unfold rewatch
  dsimp only
  cases hwatched : (s.lwu.records.get p).fvWatched <;> cases hwants : s.wantsFv p <;>
    simp only [Bool.and_true, Bool.and_false, Bool.not_true, Bool.not_false, Bool.false_eq_true, if_true, if_false,
      reduceCtorEq, and_true, and_false, and_self]
  case true.false =>
    rw [reportLevel_records]
    have hrec (v : State) : (if ((s.lwu.records.get p).warnDeclared || (s.lwu.records.get p).hazardDeclared) = true
        then v.clearFault (.line p) .foreignVoltage else v).lwu.records = v.lwu.records := by
      split <;> rfl
    rw [hrec, settleSweepTimer_records]
    simp [Row.set_set, new, hwants]
  all_goals simp [new, hwants]

theorem State.installPort_records (p : Port) (r : PortRecord) (s : State) : (s.installPort p r).lwu = s.lwu := by simp

theorem State.changePort_lwu (p : Port) (r : PortRecord) (s : State) (e : Bool) : (s.changePort p r e).lwu = ((s.installPort p r).rewatch p).lwu := by
  unfold changePort
  dsimp only
  split <;> split <;> simp

/-! ## What a change of one pair leaves -/

/-- What a step leaves of the other pairs: their watch records, and that their FOREIGN_VOLTAGE record is inactive. -/
structure OtherPairs (p : Port) (s t : State) : Prop where
  change : LineChange p s t
  records : ∀ q, q ≠ p → t.lwu.records.get q = s.lwu.records.get q
  inactive : ∀ q, q ≠ p → Inactive s.mga.faults (.line q) .foreignVoltage → Inactive t.mga.faults (.line q) .foreignVoltage

theorem OtherPairs.refl (p : Port) (s : State) : OtherPairs p s s := ⟨.refl p s, fun _ _ => rfl, fun _ _ h => h⟩

theorem OtherPairs.trans (h : OtherPairs p s t) (k : OtherPairs p t u) : OtherPairs p s u :=
  ⟨h.change.trans k.change, fun q hq => (k.records q hq).trans (h.records q hq), fun q hq hi => k.inactive q hq (h.inactive q hq hi)⟩

theorem Inactive.updateFault {log : List FaultRecord} {k : FaultSource} {j : FaultKind} (h : Inactive log src kind) :
    Inactive (updateFault k j (fun r => { r with active := false }) log) src kind := by
  intro f hf hsource hkind
  obtain ⟨g, hg, rfl⟩ := List.mem_map.mp hf
  split
  · rfl
  · next hkey =>
    rw [if_neg hkey] at hsource hkind
    exact h g hg hsource hkind

theorem Inactive.raiseFault {k : FaultSource} {j : FaultKind} (h : Inactive s.mga.faults src kind) (hother : ¬(src = k ∧ kind = j)) :
    Inactive (s.raiseFault k j).mga.faults src kind := fun f hf hsource hkind =>
  h f (s.raiseFault_otherKeys k j f hf (Bool.eq_false_iff.mpr fun hkey => hother (by rw [← hsource, ← hkind]; exact f.hasKey_iff.mp hkey)))
    hsource hkind

theorem State.raiseFault_otherPairs (p : Port) (kind : FaultKind) (s : State) : OtherPairs p s (s.raiseFault (.line p) kind) :=
  ⟨s.raiseFault_lineChange p _ _, fun _ _ => by simp, fun q hq h => h.raiseFault fun hkey => hq (FaultSource.line.inj hkey.1)⟩

theorem State.clearFault_otherPairs (p : Port) (kind : FaultKind) (s : State) : OtherPairs p s (s.clearFault (.line p) kind) :=
  ⟨⟨fun _ _ => rfl, s.reported_clearFault _ _, fun part hp => by cases part <;> simp_all [Part.Same, clearFault]⟩, fun _ _ => rfl,
    fun _ _ h => h.updateFault⟩

theorem State.changePort_otherPairs (p : Port) (r : PortRecord) (s : State) (e : Bool) : OtherPairs p s (s.changePort p r e) where
  change := s.changePort_lineChange p r e
  records q hq := by rw [changePort_lwu, rewatch_records, Row.get_set_ne _ _ hq, installPort_records]
  inactive q _ h := by
    rcases s.changePort_faults p r e with hf | hf <;> rw [hf]
    · exact h
    · exact h.updateFault

theorem State.hold_otherPairs (p : Port) (reason : HeldReason) (s : State) : OtherPairs p s (s.hold p reason) := by
  have hpost (v : State) (m : Instr) : OtherPairs p v (v.post m) := ⟨v.post_lineChange p m, fun _ _ => rfl, fun _ _ h => h⟩
  have hmodify (f : PortRecord → PortRecord) : OtherPairs p s (s.modifyPort p f) := ⟨s.modifyPort_lineChange p f, fun _ _ => rfl, fun _ _ h => h⟩
  have hchange := (s.changePort_otherPairs p ((s.port p).enterHeld reason) false).trans (raiseFault_otherPairs p (heldFault reason) _)
  unfold hold
  dsimp only
  split
  · exact (hmodify _).trans (raiseFault_otherPairs p (heldFault reason) _)
  · split
    · exact hchange.trans (hpost _ _)
    · exact hchange

/-! ## The turns of a sweep -/

theorem State.followLevel_otherPairs (p : Port) (before after : WatchLevel) (s : State) : OtherPairs p s (s.followLevel p before after) := by
  unfold followLevel
  split
  · exact s.raiseFault_otherPairs p _
  · split
    · exact s.clearFault_otherPairs p _
    · exact .refl p s

theorem State.followLevel_port (p : Port) (before after : WatchLevel) (s : State) : (s.followLevel p before after).ports = s.ports := by
  unfold followLevel
  split
  · simp
  · split <;> simp

theorem State.followLevel_lwu (p : Port) (before after : WatchLevel) (s : State) : (s.followLevel p before after).lwu = s.lwu := by
  unfold followLevel
  split
  · simp
  · split <;> simp

/-- A level that goes takes its record to inactive (R150). -/
theorem State.followLevel_inactive {before after : WatchLevel} (s : State) (gone : before ≠ .none ∧ after = .none) :
    Inactive (s.followLevel p before after).mga.faults (.line p) .foreignVoltage := by
  rw [followLevel, if_neg fun h => gone.1 h.1, if_pos gone]
  exact s.clearFault_inactive _ _

/-- A pair as another state has it: its Port Record, its watch record, and that its FOREIGN_VOLTAGE record is inactive. -/
structure PairKept (p : Port) (s t : State) : Prop where
  port : t.port p = s.port p
  record : t.lwu.records.get p = s.lwu.records.get p
  inactive : Inactive s.mga.faults (.line p) .foreignVoltage → Inactive t.mga.faults (.line p) .foreignVoltage

theorem PairKept.refl (p : Port) (s : State) : PairKept p s s := ⟨rfl, rfl, id⟩

theorem PairKept.trans (h : PairKept p s t) (k : PairKept p t u) : PairKept p s u :=
  ⟨k.port.trans h.port, k.record.trans h.record, fun hi => k.inactive (h.inactive hi)⟩

theorem OtherPairs.kept (h : OtherPairs q s t) (hne : p ≠ q) : PairKept p s t := ⟨h.change.1 p hne, h.records p hne, h.inactive p hne⟩

/-- Turns that each reach one pair, over different pairs: a pair without a turn is kept, and a pair with one is found as it was, and left as its turn
leaves it. -/
theorem foldl_otherPairs (f : State → Port → State) (ps : List Port) (nodup : ps.Nodup) (s : State)
    (turn : ∀ q ∈ ps, ∀ u : State, u.port q = s.port q → OtherPairs q u (f u q)) :
    (∀ p ∉ ps, PairKept p s (ps.foldl f s)) ∧
      (∀ p ∈ ps, ∃ u, PairKept p s u ∧ PairKept p (f u p) (ps.foldl f s)) ∧
      Reported s (ps.foldl f s) ∧ OnlyIn [.ports, .mail, .scu, .txs, .cbm, .lwu, .mga] s (ps.foldl f s) := by
  induction ps generalizing s with
  | nil => exact ⟨fun p _ => .refl p s, fun _ h => absurd h List.not_mem_nil, .refl s, .refl _ s⟩
  | cons q rest ih =>
    obtain ⟨hq, hrest⟩ := List.nodup_cons.mp nodup
    have hfirst := turn q (.head _) s rfl
    obtain ⟨hout, hin, hreported, honly⟩ := ih hrest (f s q) fun r hr u hu =>
      turn r (.tail _ hr) u (hu.trans (hfirst.change.1 r fun heq => hq (heq ▸ hr)))
    refine ⟨fun p hp => ?_, fun p hp => ?_, hfirst.change.2.1.trans hreported, hfirst.change.2.2.trans honly⟩
    · obtain ⟨hne, hp⟩ := not_or.mp (List.mem_cons.not.mp hp)
      exact (hfirst.kept hne).trans (hout p hp)
    · rcases List.mem_cons.mp hp with rfl | hp
      · exact ⟨s, .refl _ s, hout _ hq⟩
      · obtain ⟨u, hu, hfinal⟩ := hin p hp
        exact ⟨u, (hfirst.kept fun heq => hq (heq ▸ hp)).trans hu, hfinal⟩

/-- A wake from the Line Watch Unit reaches a port in DOZE as PORT_WAKE does (R16). -/
theorem State.wake_dozing (s : State) (h : (s.port p).state = .doze) : s.wake p false = s.wake p true := by simp [wake, h]

/-- What a sweep hands on for a pair: its level, and then nothing, the hazard, or a wake. -/
theorem State.handOnSweep_quiet (p : Port) {old new : WatchRecord} {energy : Bool} (s : State)
    (hazard : ¬(old.hazardDeclared = false ∧ new.hazardDeclared = true)) (wake : (old.wakeWatched && old.wakeSeen && energy) = false) :
    s.handOnSweep p old new energy = s.followLevel p old.level new.level := by
  have hsame : (!old.hazardDeclared && new.hazardDeclared) = false := by simpa using hazard
  rw [handOnSweep, hsame, wake]
  rfl

theorem State.handOnSweep_held (p : Port) {old new : WatchRecord} {energy : Bool} (s : State)
    (hazard : old.hazardDeclared = false ∧ new.hazardDeclared = true) (wake : (old.wakeWatched && old.wakeSeen && energy) = false) :
    s.handOnSweep p old new energy = (s.followLevel p old.level new.level).hold p .hazard := by
  rw [handOnSweep, hazard.1, hazard.2, wake]
  rfl

theorem State.handOnSweep_woken (p : Port) {old new : WatchRecord} {energy : Bool} (s : State)
    (hazard : ¬(old.hazardDeclared = false ∧ new.hazardDeclared = true)) (wake : (old.wakeWatched && old.wakeSeen && energy) = true) :
    s.handOnSweep p old new energy = (s.followLevel p old.level new.level).wake p false := by
  have hsame : (!old.hazardDeclared && new.hazardDeclared) = false := by simpa using hazard
  rw [handOnSweep, hsame, wake]
  rfl

/-- The clock, the stage and the settings are not a sweep's to change. -/
theorem State.handOnSweep_time (p : Port) (old new : WatchRecord) (energy : Bool) (s : State) :
    (s.handOnSweep p old new energy).now = s.now ∧ (s.handOnSweep p old new energy).csu = s.csu ∧
      (s.handOnSweep p old new energy).settings = s.settings := by
  obtain ⟨-, -, honly⟩ := (s.followLevel_otherPairs p old.level new.level).change
  have hnow : (s.followLevel p old.level new.level).now = s.now := honly .now (by decide)
  have hcsu : (s.followLevel p old.level new.level).csu = s.csu := honly .csu (by decide)
  have hsettings : (s.followLevel p old.level new.level).settings = s.settings := honly .settings (by decide)
  unfold handOnSweep
  dsimp only
  split <;> split <;> simp [hnow, hcsu, hsettings]

/-- A pair's turn that wakes no port, or one whose doze has another cause besides, reaches that pair alone. -/
theorem State.handOnSweep_otherPairs (p : Port) {old new : WatchRecord} {energy : Bool} (s : State)
    (wake : (old.wakeWatched && old.wakeSeen && energy) = true → ¬(old.hazardDeclared = false ∧ new.hazardDeclared = true) ∧
      (s.port p).state = .doze ∧ ((s.port p).causes.shed = true ∨ (s.port p).causes.thermal = true)) :
    OtherPairs p s (s.handOnSweep p old new energy) := by
  have hfollow := s.followLevel_otherPairs p old.level new.level
  cases hwake : old.wakeWatched && old.wakeSeen && energy with
  | true =>
    obtain ⟨hazard, hdoze, hleft⟩ := wake hwake
    have hport : (s.followLevel p old.level new.level).port p = s.port p := by rw [port, followLevel_port]; rfl
    rw [← hport] at hdoze hleft
    rw [handOnSweep_woken p s hazard hwake, wake_dozing _ hdoze, (wake_spec p _ (.inl hdoze)).1 hleft]
    exact hfollow.trans (changePort_otherPairs p _ _ _)
  | false =>
    by_cases hazard : old.hazardDeclared = false ∧ new.hazardDeclared = true
    · rw [handOnSweep_held p s hazard hwake]
      exact hfollow.trans (hold_otherPairs p _ _)
    · rw [handOnSweep_quiet p s hazard hwake]
      exact hfollow

/-- Levels that come are recorded, as long as the log has places (R150). -/
theorem foldl_followLevel_stands (old new : Port → WatchRecord) (came : (old p).level = .none ∧ (new p).level ≠ .none) (ps : List Port) (s : State)
    (room : s.mga.faults.length + ps.length ≤ 24) (h : p ∈ ps ∨ Stands s.mga.faults (.line p) .foreignVoltage) :
    Stands (ps.foldl (fun s q => s.followLevel q (old q).level (new q).level) s).mga.faults (.line p) .foreignVoltage := by
  induction ps generalizing s with
  | nil => exact h.resolve_left List.not_mem_nil
  | cons q rest ih =>
    rw [List.length_cons] at room
    have hroom : s.mga.faults.length < 24 := by omega
    rw [List.foldl_cons]
    apply ih
    · have hlength : (s.followLevel q (old q).level (new q).level).mga.faults.length ≤ s.mga.faults.length + 1 := by
        unfold State.followLevel
        split
        · exact State.raiseFault_length _ _ _ hroom
        · split
          · simp [State.clearFault, updateFault]
          · exact Nat.le_succ _
      omega
    · by_cases hq : q = p
      · subst hq
        rw [State.followLevel, if_pos came]
        exact .inr (State.raiseFault_records _ _ _ hroom nofun)
      · rcases h.imp_left fun h => List.mem_of_ne_of_mem (Ne.symm hq) h with h | h
        · exact .inl h
        · refine .inr ?_
          unfold State.followLevel
          split
          · exact h.raiseFault hroom nofun
          · split
            · exact h.updateFault (fun _ => rfl) (fun _ => rfl) fun hkey => absurd (FaultSource.line.inj hkey) hq
            · exact h

/-! ## The end of a sweep -/

/-- A watch record after the comparison of R151, which is made for the pairs that are fv watched. -/
def WatchRecord.compared (w : WatchRecord) : WatchRecord := if w.fvWatched then { w with lastReported := w.level } else w

theorem WatchRecord.compared_compared (w : WatchRecord) : w.compared.compared = w.compared := by
  cases h : w.fvWatched <;> simp [compared, h, level]

/-- The comparison of R151 over a list of pairs: the last level reported of those that are watched, and nothing else that a sweep reads. -/
theorem foldl_reportWatched (ps : List Port) (s : State) :
    let t := ps.foldl (fun s p => s.reportWatched p) s
    t.ports = s.ports ∧ t.mga.faults = s.mga.faults ∧
      (∀ p, t.lwu.records.get p = if p ∈ ps then (s.lwu.records.get p).compared else s.lwu.records.get p) ∧
      Reported s t ∧ OnlyIn [.txs, .cbm, .lwu, .mga] s t := by
  induction ps generalizing s with
  | nil => exact ⟨rfl, rfl, fun p => by simp, .refl s, .refl _ s⟩
  | cons q rest ih =>
    intro t
    have hturn : (s.reportWatched q).ports = s.ports ∧ (s.reportWatched q).mga.faults = s.mga.faults ∧
        (∀ p, (s.reportWatched q).lwu.records.get p = if p = q then (s.lwu.records.get p).compared else s.lwu.records.get p) ∧
        Reported s (s.reportWatched q) ∧ OnlyIn [.txs, .cbm, .lwu, .mga] s (s.reportWatched q) := by
      unfold State.reportWatched
      split
      · next hwatched =>
        refine ⟨by simp, State.reportLevel_faults q s, fun p => ?_, ?_, fun part hp => by cases part <;> simp_all [Part.Same]⟩
        · rw [State.reportLevel_records, Row.get_set]
          by_cases hp : p = q
          · subst hp
            rw [if_pos rfl, if_pos rfl, WatchRecord.compared, if_pos hwatched]
          · rw [if_neg hp, if_neg hp]
        · unfold State.reportLevel
          dsimp only
          split
          · exact .refl s
          · exact State.reported_raiseNotice _ _
      · next hwatched =>
        refine ⟨rfl, rfl, fun p => ?_, .refl s, .refl _ s⟩
        split
        · next hp =>
          subst hp
          exact (if_neg hwatched).symm
        · rfl
    obtain ⟨hports, hfaults, hrecords, hreported, honly⟩ := hturn
    obtain ⟨hports', hfaults', hrecords', hreported', honly'⟩ := ih (s.reportWatched q)
    refine ⟨hports'.trans hports, hfaults'.trans hfaults, fun p => (hrecords' p).trans ?_, hreported.trans hreported', honly.trans honly'⟩
    rw [hrecords p]
    by_cases hp : p = q
    · simp [hp, WatchRecord.compared_compared]
    · simp [hp]

theorem State.restartSweep_spec (s : State) :
    s.restartSweep.ports = s.ports ∧ s.restartSweep.mga = s.mga ∧ s.restartSweep.lwu.records = s.lwu.records ∧ OnlyIn [.lwu] s s.restartSweep ∧
      s.restartSweep.lwu.timer = if s.restartSweep.lwu.anyWatched = true then some ⟨s.sweepInterval, s.now + s.sweepInterval * 1000⟩ else none := by
  unfold restartSweep
  split
  · next hany => exact ⟨rfl, rfl, rfl, fun part hp => by cases part <;> simp_all [Part.Same], (if_pos hany).symm⟩
  · next hany => exact ⟨rfl, rfl, rfl, fun part hp => by cases part <;> simp_all [Part.Same], (if_neg hany).symm⟩

/-! ## A sweep -/

variable {samples : Row 16 PairSample}

/-- The state with the watch records judged by their samples (R149, R153). -/
def State.sampled (samples : Row 16 PairSample) (s : State) : State :=
  { s with lwu := { s.lwu with records := s.lwu.records.mapEach fun p w => w.swept s.settings (samples.get p) } }

theorem State.sampled_port (samples : Row 16 PairSample) (s : State) (p : Port) : (s.sampled samples).port p = s.port p := by simp only [port, sampled]

/-- The turn of a pair in a sweep of the state `s`. -/
def State.sweepTurn (samples : Row 16 PairSample) (s : State) (u : State) (p : Port) : State :=
  u.handOnSweep p (s.lwu.records.get p) ((s.lwu.records.get p).swept s.settings (samples.get p)) (samples.get p).wakeEnergy

/-- The state once every pair has had its turn. -/
def State.handedOn (samples : Row 16 PairSample) (s : State) : State := allPorts.foldl (s.sweepTurn samples) (s.sampled samples)

theorem State.sweep_eq (samples : Row 16 PairSample) (s : State) :
    s.sweep samples = (allPorts.foldl (fun s p => s.reportWatched p) (s.handedOn samples)).restartSweep := by
  have hturn : s.sweepTurn samples = fun u p => u.handOnSweep p (s.lwu.records.get p)
      ((s.lwu.records.mapEach fun p w => w.swept s.settings (samples.get p)).get p) (samples.get p).wakeEnergy := by
    funext u p
    rw [Row.get_mapEach]
    rfl
  rw [handedOn, hturn]
  rfl

/-- The clock, the stage and the settings stand through the turns. -/
theorem State.handedOn_time (samples : Row 16 PairSample) (s : State) :
    (s.handedOn samples).now = s.now ∧ (s.handedOn samples).csu = s.csu ∧ (s.handedOn samples).settings = s.settings := by
  have hfold (ps : List Port) (u : State) : (ps.foldl (s.sweepTurn samples) u).now = u.now ∧ (ps.foldl (s.sweepTurn samples) u).csu = u.csu ∧
      (ps.foldl (s.sweepTurn samples) u).settings = u.settings := by
    induction ps generalizing u with
    | nil => exact ⟨rfl, rfl, rfl⟩
    | cons p rest ih =>
      obtain ⟨hnow, hcsu, hsettings⟩ := ih (s.sweepTurn samples u p)
      obtain ⟨hnow', hcsu', hsettings'⟩ := u.handOnSweep_time p (s.lwu.records.get p) ((s.lwu.records.get p).swept s.settings (samples.get p))
        (samples.get p).wakeEnergy
      exact ⟨hnow.trans hnow', hcsu.trans hcsu', hsettings.trans hsettings'⟩
  obtain ⟨hnow, hcsu, hsettings⟩ := hfold allPorts (s.sampled samples)
  exact ⟨hnow.trans (by simp only [sampled]), hcsu.trans (by simp only [sampled]), hsettings.trans (by simp only [sampled])⟩

/-- What a sweep adds to the turns of the pairs: the comparisons of R151 and the timer (R148). -/
structure SweepEnds (s h t : State) : Prop where
  ports : t.ports = h.ports
  faults : t.mga.faults = h.mga.faults
  records : ∀ p, t.lwu.records.get p = (h.lwu.records.get p).compared
  reported : Reported h t
  within : OnlyIn [.txs, .cbm, .lwu, .mga] h t
  now : t.now = s.now
  timer : t.lwu.timer = if t.lwu.anyWatched = true then some ⟨s.sweepInterval, s.now + s.sweepInterval * 1000⟩ else none

theorem State.sweep_ends (samples : Row 16 PairSample) (s : State) : SweepEnds s (s.handedOn samples) (s.sweep samples) := by
  obtain ⟨hnow, hcsu, hsettings⟩ := s.handedOn_time samples
  rw [sweep_eq]
  generalize s.handedOn samples = h at *
  obtain ⟨hports, hfaults, hrecords, hreported, honly⟩ := foldl_reportWatched allPorts h
  generalize allPorts.foldl (fun s p => s.reportWatched p) h = r at *
  obtain ⟨hports', hmga, hrecords', honly', htimer⟩ := r.restartSweep_spec
  have hnow' : r.now = s.now := (honly .now (by decide)).trans hnow
  have hinterval : r.sweepInterval = s.sweepInterval := by
    have hcsu' : r.csu = s.csu := (honly .csu (by decide)).trans hcsu
    have hsettings' : r.settings = s.settings := (honly .settings (by decide)).trans hsettings
    rw [sweepInterval, hcsu', hsettings']
    rfl
  rw [hinterval, hnow'] at htimer
  exact {
    ports := hports'.trans hports
    faults := (congrArg Agent.faults hmga).trans hfaults
    records := fun p => by rw [hrecords', hrecords p, if_pos (mem_allPorts p)]
    reported := hreported.trans (by rw [Reported, hmga])
    within := honly.trans (honly'.mono (by decide))
    now := (honly' .now (by decide)).trans hnow'
    timer := htimer }

/-- A wake of the pair completes in a sweep (R153). -/
def State.wakesIn (samples : Row 16 PairSample) (s : State) (p : Port) : Bool :=
  (s.lwu.records.get p).wakeWatched && (s.lwu.records.get p).wakeSeen && (samples.get p).wakeEnergy

/-- The hazard of the pair is declared in a sweep (R150). -/
def State.hazardIn (samples : Row 16 PairSample) (s : State) (p : Port) : Prop :=
  (s.lwu.records.get p).hazardDeclared = false ∧ ((s.lwu.records.get p).swept s.settings (samples.get p)).hazardDeclared = true

/-- When the wakes that complete bring no port back to service, each pair is found as it was and left as its turn leaves it. -/
theorem State.handedOn_turns (s : State) (wakes : ∀ p, s.wakesIn samples p = true → ¬s.hazardIn samples p ∧ (s.port p).state = .doze ∧
      ((s.port p).causes.shed = true ∨ (s.port p).causes.thermal = true)) :
    (∀ p, ∃ u : State, PairKept p (s.sampled samples) u ∧ PairKept p (s.sweepTurn samples u p) (s.handedOn samples)) ∧
      Reported s (s.handedOn samples) ∧ OnlyIn [.ports, .mail, .scu, .txs, .cbm, .lwu, .mga] s (s.handedOn samples) := by
  obtain ⟨-, hturns, hreported, honly⟩ := foldl_otherPairs (s.sweepTurn samples) allPorts (List.nodup_finRange 16) (s.sampled samples)
    fun q _ u hu => u.handOnSweep_otherPairs q fun hwake => by
      have hport : u.port q = s.port q := hu.trans (s.sampled_port samples q)
      rw [hport]
      exact wakes q hwake
  have hsampled : OnlyIn [.ports, .mail, .scu, .txs, .cbm, .lwu, .mga] s (s.sampled samples) := fun part hp => by
    cases part <;> simp_all [Part.Same, sampled]
  have hagent : Reported s (s.sampled samples) := by simp only [Reported, sampled]
  exact ⟨fun p => hturns p (mem_allPorts p), hagent.trans hreported, hsampled.trans honly⟩

theorem State.sampled_record (samples : Row 16 PairSample) (s : State) (p : Port) :
    (s.sampled samples).lwu.records.get p = (s.lwu.records.get p).swept s.settings (samples.get p) := Row.get_mapEach _ _ _

/-- A pair with no hazard newly declared and no wake (R149 to R151). -/
theorem State.handedOn_quiet (s : State) (wakes : ∀ p, s.wakesIn samples p = false) (hazard : ¬s.hazardIn samples p) :
    (s.handedOn samples).port p = s.port p ∧
      (s.handedOn samples).lwu.records.get p = (s.lwu.records.get p).swept s.settings (samples.get p) ∧
      ((s.lwu.records.get p).level ≠ .none → ((s.lwu.records.get p).swept s.settings (samples.get p)).level = .none →
        Inactive (s.handedOn samples).mga.faults (.line p) .foreignVoltage) := by
  obtain ⟨u, hfound, hleft⟩ := (s.handedOn_turns fun q hq => absurd ((wakes q).symm.trans hq) Bool.false_ne_true).1 p
  have hturn : s.sweepTurn samples u p = _ := u.handOnSweep_quiet p hazard (wakes p)
  rw [hturn] at hleft
  refine ⟨?_, ?_, fun hlevel hgone => hleft.inactive (u.followLevel_inactive ⟨hlevel, hgone⟩)⟩
  · rw [hleft.port, port, followLevel_port]
    exact hfound.port.trans (s.sampled_port samples _)
  · rw [hleft.record, followLevel_lwu, hfound.record, sampled_record]

/-- A hazard newly declared holds its port (R150). -/
theorem State.handedOn_held (s : State) (wakes : ∀ p, s.wakesIn samples p = false) (hazard : s.hazardIn samples p) :
    (s.handedOn samples).port p = (s.port p).heldBy .hazard := by
  obtain ⟨u, hfound, hleft⟩ := (s.handedOn_turns fun q hq => absurd ((wakes q).symm.trans hq) Bool.false_ne_true).1 p
  have hturn : s.sweepTurn samples u p = _ := u.handOnSweep_held p hazard (wakes p)
  rw [hturn] at hleft
  rw [hleft.port, (hold_spec p .hazard _).1, port, followLevel_port]
  exact congrArg _ (hfound.port.trans (s.sampled_port samples p))

/-- With no wake and no new hazard, a level that comes is recorded while the log has places (R150). -/
theorem State.handedOn_came (s : State) (wakes : ∀ p, s.wakesIn samples p = false) (hazards : ∀ p, ¬s.hazardIn samples p)
    (room : s.mga.faults.length ≤ 8) (old : (s.lwu.records.get p).level = .none)
    (new : ((s.lwu.records.get p).swept s.settings (samples.get p)).level ≠ .none) :
    Stands (s.handedOn samples).mga.faults (.line p) .foreignVoltage := by
  have hturn : s.sweepTurn samples = fun u q => u.followLevel q (s.lwu.records.get q).level
      ((s.lwu.records.get q).swept s.settings (samples.get q)).level := by
    funext u q
    exact u.handOnSweep_quiet q (hazards q) (wakes q)
  rw [handedOn, hturn]
  exact foldl_followLevel_stands (fun q => s.lwu.records.get q) (fun q => (s.lwu.records.get q).swept s.settings (samples.get q)) ⟨old, new⟩ allPorts
    (s.sampled samples) (by simpa [allPorts, sampled] using room) (.inl (mem_allPorts p))

/-- A wake that completes on a port whose doze has another cause besides makes its wake pending, and reaches no other port (R16, R153). -/
theorem State.handedOn_woken (s : State) (hazards : ∀ q, ¬s.hazardIn samples q) (wakes : s.wakesIn samples p = true)
    (others : ∀ q, q ≠ p → s.wakesIn samples q = false) (hdoze : (s.port p).state = .doze)
    (hcauses : (s.port p).causes.shed = true ∨ (s.port p).causes.thermal = true) :
    (s.handedOn samples).port p =
        PortRecord.ordered (PortRecord.outOfUp
          { s.port p with causes := ⟨(s.port p).causes.shed, (s.port p).causes.thermal, false⟩, wakePending := true }) ∧
      OtherPorts p s (s.handedOn samples) := by
  have hturns := (s.handedOn_turns (samples := samples) fun q hq => by
    have heq : q = p := by_contra fun hne => absurd ((others q hne).symm.trans hq) Bool.false_ne_true
    subst heq
    exact ⟨hazards q, hdoze, hcauses⟩).1
  refine ⟨?_, fun q hq => ?_⟩
  · obtain ⟨u, hfound, hleft⟩ := hturns p
    have hport : u.port p = s.port p := hfound.port.trans (s.sampled_port samples p)
    have hfollow : (u.followLevel p (s.lwu.records.get p).level ((s.lwu.records.get p).swept s.settings (samples.get p)).level).port p = s.port p := by
      rw [port, followLevel_port]
      exact hport
    have hturn : s.sweepTurn samples u p = _ := u.handOnSweep_woken p (hazards p) wakes
    rw [hturn, wake_dozing _ (by rw [hfollow, hdoze]), (wake_spec p _ (.inl (by rw [hfollow, hdoze]))).1 (by rw [hfollow]; exact hcauses)] at hleft
    rw [hleft.port, port_changePort_self, hfollow]
  · obtain ⟨u, hfound, hleft⟩ := hturns q
    have hturn : s.sweepTurn samples u q = _ := u.handOnSweep_quiet q (hazards q) (others q hq)
    rw [hturn] at hleft
    rw [hleft.port, port, followLevel_port]
    exact hfound.port.trans (s.sampled_port samples _)

/-! ## O52 -/

/-- Settles O52. -/
theorem sweepsJudgeThePairs : Obligations.SweepsJudgeThePairs := by
  intro samples s g old x size volts warn hazard count declared counted energy after newHazard wakes
  have hswept (p : Port) : ((old p).swept g (x p)).hazardDeclared = (counted p).hazardDeclared ∧ ((old p).swept g (x p)).level = (counted p).level ∧
      ((old p).swept g (x p)).compared = after p := by
    cases hfv : (old p).fvWatched <;> cases hwake : (old p).wakeWatched <;>
      simp [WatchRecord.swept, WatchRecord.level, WatchRecord.compared, after, counted, energy, hfv, hwake, declared, count, warn, hazard, judged,
        sweepCount, beyond, largest, size, volts, Nat.mul_comm, LevelSetting.volts, Settings.effectiveHazard]
  refine ⟨fun hstopped => ?_, fun timer htimer => ?_⟩
  · show execSweep samples s = _
    rw [execSweep, hstopped]
  have hexec : exec (.sweep samples) s = .next ((s.reach timer.ends).sweep samples) := by
    show execSweep samples s = _
    rw [execSweep, htimer]
  have hreach : OnlyIn [.now, .ports, .mail, .scu, .txs, .cbm, .lwu, .mga] s (s.reach timer.ends) := (s.reach_only _).mono (by decide)
  have hport (p : Port) : (s.reach timer.ends).port p = s.port p := State.port_reach s _ p
  have hnow : (s.reach timer.ends).now = max s.now timer.ends := rfl
  have hwakes (p : Port) : wakes p ↔ (s.reach timer.ends).wakesIn samples p = true := by
    show energy p = true ∧ (old p).wakeSeen = true ↔ ((old p).wakeWatched && (old p).wakeSeen && (x p).wakeEnergy) = true
    simp only [energy, Bool.and_eq_true]
    exact and_right_comm
  have hhazard (p : Port) : newHazard p ↔ (s.reach timer.ends).hazardIn samples p := by
    show _ ↔ (old p).hazardDeclared = false ∧ ((old p).swept g (x p)).hazardDeclared = true
    rw [(hswept p).1]
  have hroom : (s.reach timer.ends).mga.faults = s.mga.faults := rfl
  have hinterval : (s.reach timer.ends).sweepInterval =
      pollInterval (if s.csu.stage = some .mains ∨ s.csu.stage = some .normal then g.watchPoll else g.economyPoll) := by
    show (match s.csu.stage with
      | some .mains | some .normal => pollInterval g.watchPoll
      | some .economy | some .conserve | none => pollInterval g.economyPoll) = _
    split <;> simp_all
  have hreported : Reported s (s.reach timer.ends) := rfl
  have hrecord (p : Port) : (s.reach timer.ends).lwu.records.get p = old p := rfl
  have hsettings : (s.reach timer.ends).settings = g := rfl
  generalize s.reach timer.ends = w at *
  have hend := w.sweep_ends samples
  have hendPort (p : Port) : (w.sweep samples).port p = (w.handedOn samples).port p := by rw [State.port, hend.ports]; rfl
  refine ⟨w.sweep samples, hexec, hend.now.trans hnow, ?_, fun nowakes => ?_, fun p nohazard hwake others hdoze hcauses => ?_⟩
  · intro interval
    rw [hend.timer, hend.now, hinterval]
  · have hquiet (p : Port) : w.wakesIn samples p = false := Bool.eq_false_iff.mpr fun h => nowakes p ((hwakes p).mpr h)
    obtain ⟨-, hturns, honly⟩ := w.handedOn_turns (samples := samples) fun p h => absurd ((hwakes p).mpr h) (nowakes p)
    refine ⟨fun p hp => ?_, fun p hp => ?_, fun p hlevel hgone f hf => ?_, fun nohazard hfew p hlevel hcame => ?_,
      hreported.trans (hturns.trans hend.reported), hreach.trans ((honly.mono (by decide)).trans (hend.within.mono (by decide)))⟩
    · obtain ⟨hkept, hrecord', -⟩ := w.handedOn_quiet hquiet fun h => hp ((hhazard p).mpr h)
      refine ⟨(hendPort p).trans (hkept.trans (hport p)), ?_⟩
      rw [hend.records, hrecord', hrecord, hsettings]
      exact (hswept p).2.2
    · rw [hendPort, w.handedOn_held hquiet ((hhazard p).mp hp), hport]
      unfold PortRecord.heldBy
      dsimp only
      split
      · next hheld => exact ⟨rfl, rfl, fun hstate => hheld.resolve_right fun h => hstate h.1⟩
      · exact ⟨rfl, rfl, fun _ => rfl⟩
    · have hgone' : ((old p).swept g (x p)).level = .none := (hswept p).2.1.trans hgone
      have hno : ¬w.hazardIn samples p := fun h => by
        rw [State.hazardIn, hrecord, hsettings] at h
        have hlevel' : ((old p).swept g (x p)).level = .hazard := if_pos h.2
        exact nomatch hlevel'.symm.trans hgone'
      obtain ⟨-, -, hinactive⟩ := w.handedOn_quiet hquiet hno
      rw [hrecord, hsettings] at hinactive
      rw [hend.faults] at hf
      exact hinactive hlevel hgone' f hf
    · have hstands := w.handedOn_came (p := p) hquiet (fun q h => nohazard q ((hhazard q).mpr h)) (by rwa [hroom])
      rw [hrecord, hsettings, (hswept p).2.1, ← hend.faults] at hstands
      exact hstands hlevel hcame
  · obtain ⟨hwoken, hothers⟩ := w.handedOn_woken (p := p) (fun q h => nohazard q ((hhazard q).mpr h)) ((hwakes p).mp hwake)
      (fun q hq => Bool.eq_false_iff.mpr fun h => others q hq ((hwakes q).mpr h)) (by rw [hport, hdoze]) (by rw [hport]; exact hcauses)
    rw [hport] at hwoken
    refine ⟨?_, ?_, ?_, fun q hq => (hendPort q).trans ((hothers q hq).trans (hport q))⟩ <;> rw [hendPort, hwoken]
    · simp [PortRecord.ordered, PortRecord.outOfUp, hdoze]
    · simp [PortRecord.ordered, PortRecord.outOfUp, hdoze]
    · simp [PortRecord.ordered, PortRecord.outOfUp, hdoze]

end Sys2Proof.Machine
end

section
/-! The obligation on the writes of parameters by field items: O59 (10), the items and SET_WRITE, MEAS_CONFIG and CONTACT_CONFIG. -/

namespace Sys2Proof.Machine

variable {s t u : State} {o : Origin} {n : Nat} {v : Int}

/-! ## Field items (R192, R195) -/

/-- A number of four octets put together again. -/
theorem append_octets (x : BitVec 32) :
    (octet (x.toNat / 16777216) ++ octet (x.toNat / 65536) ++ octet (x.toNat / 256) ++ octet x.toNat : BitVec 32) = x := by
  apply BitVec.eq_of_getLsbD_eq
  intro i hi
  have h24 : (16777216 : Nat) = 2 ^ 24 := rfl
  have h16 : (65536 : Nat) = 2 ^ 16 := rfl
  have h8 : (256 : Nat) = 2 ^ 8 := rfl
  simp only [octet, BitVec.getLsbD_append, BitVec.getLsbD_ofNat, h24, h16, h8, Nat.testBit_div_two_pow]
  rw [BitVec.getLsbD]
  split
  · next h => rw [decide_eq_true h, Bool.true_and]
  · split
    · next h => rw [decide_eq_true h, Bool.true_and, show i - 8 + 8 = i by omega]
    · split
      · next h => rw [decide_eq_true h, Bool.true_and, show i - 8 - 8 + 16 = i by omega]
      · rw [decide_eq_true (show i - 8 - 8 - 8 < 8 by omega), Bool.true_and, show i - 8 - 8 - 8 + 24 = i by omega]

theorem readInt4_of_int4 (low : -2147483648 ≤ v) (high : v < 2147483648) :
    ∃ a b c d, int4 v = [a, b, c, d] ∧ readInt4 a b c d = v := by
  refine ⟨_, _, _, _, rfl, ?_⟩
  rw [readInt4, append_octets, BitVec.toInt_ofInt]
  exact Int.bmod_eq_of_le (by omega) (by omega)

theorem fieldItems_single (hn : n < 256) (low : -2147483648 ≤ v) (high : v < 2147483648) (rest : List Octet) :
    fieldItems ((octet n :: int4 v) ++ rest) = (n, v) :: fieldItems rest := by
  obtain ⟨a, b, c, d, hint, hread⟩ := readInt4_of_int4 low high
  rw [hint]
  show ((octet n).toNat, readInt4 a b c d) :: fieldItems rest = _
  rw [octet_toNat hn, hread]

/-- One item is written by its field's rule. -/
theorem writeFields_single {α : Type} (write : Nat → Int → α → Option α) (hn : n < 256) (low : -2147483648 ≤ v) (high : v < 2147483648) (a : α) :
    writeFields write (fieldItems (octet n :: int4 v)) a = write n v a ∧ (fieldItems (octet n :: int4 v)).map (·.1) = [n] := by
  have hitems : fieldItems (octet n :: int4 v) = [(n, v)] := by
    rw [← List.append_nil (octet n :: int4 v), fieldItems_single hn low high]
    rfl
  rw [hitems]
  refine ⟨?_, rfl⟩
  simp only [writeFields, List.map_cons, List.map_nil, distinct, List.contains_nil, Bool.not_false, Bool.and_self, if_true, writeItems]
  cases write n v a <;> rfl

theorem isItems_single (n : Nat) (v : Int) : isItems (octet n :: int4 v) = true := by simp [isItems, int4, num4]

theorem isItems_twice (n : Nat) (v : Int) : isItems ((octet n :: int4 v) ++ (octet n :: int4 v)) = true := by simp [isItems, int4, num4]

/-- A field named twice is refused (R143, R159, R187, R188). -/
theorem writeFields_twice {α : Type} (write : Nat → Int → α → Option α) (hn : n < 256) (low : -2147483648 ≤ v) (high : v < 2147483648) (a : α) :
    writeFields write (fieldItems ((octet n :: int4 v) ++ (octet n :: int4 v))) a = none := by
  have hitems : fieldItems ((octet n :: int4 v) ++ (octet n :: int4 v)) = [(n, v), (n, v)] := by
    rw [fieldItems_single hn low high, ← List.append_nil (octet n :: int4 v), fieldItems_single hn low high]
    rfl
  rw [hitems]
  exact if_neg (by simp [distinct])

/-! ## MEAS_CONFIG (R143) -/

theorem measConfig_single (may : s.mayChange o) (hn : n < 256) (low : -2147483648 ≤ v) (high : v < 2147483648)
    (comes : s.comesUp o 0x50#8 (octet n :: int4 v)) :
    (MeasConfig.write n v s.msu.config = none → Refused (.measConfig o (octet n :: int4 v)) 0x50#8 .badParam s) ∧
      ∀ c, MeasConfig.write n v s.msu.config = some c →
        (c.consistent = false → Refused (.measConfig o (octet n :: int4 v)) 0x50#8 .badParam s) ∧
          (c.consistent = true → s.ptc.state ≠ .suspended → Refused (.measConfig o (octet n :: int4 v)) 0x50#8 .notSuspended s) ∧
          (c.consistent = true → s.ptc.state = .suspended → ∃ t, exec (.measConfig o (octet n :: int4 v)) s = .next t ∧
            Answered 0x50#8 .done [] s t ∧ t.msu = { s.msu with config := c } ∧ OnlyIn [.msu, .mga, .mail] s t) := by
  have hwrite := (writeFields_single MeasConfig.write hn low high s.msu.config).1
  have hbody (ml : List Instr) : State.measConfig (octet n :: int4 v) { s with mail := ml } =
      match MeasConfig.write n v s.msu.config with
      | none => refuse .badParam { s with mail := ml }
      | some c =>
        if !c.consistent then refuse .badParam { s with mail := ml }
        else if s.ptc.state ≠ .suspended then refuse .notSuspended { s with mail := ml }
        else done { s with mail := ml, msu := { s.msu with config := c } } := by
    rw [← hwrite]
    rfl
  refine ⟨fun hnone => ?_, fun c hsome => ⟨fun hbad => ?_, fun hgood hstate => ?_, fun hgood hstate => ?_⟩⟩
  · exact ⟨_, rfl, direct_refuses may (isItems_single n v) comes fun ml => by rw [hbody, hnone]⟩
  · exact ⟨_, rfl, direct_refuses may (isItems_single n v) comes fun ml => by rw [hbody, hsome]; simp [hbad]⟩
  · exact ⟨_, rfl, direct_refuses may (isItems_single n v) comes fun ml => by rw [hbody, hsome]; simp [hgood, hstate]⟩
  · obtain ⟨hanswered, ml, hbeside, -⟩ := direct_does (good := isItems (octet n :: int4 v)) (demands := .changing)
      (body := State.measConfig (octet n :: int4 v)) (f := fun u => { u with msu := { s.msu with config := c } }) may (isItems_single n v) comes fun ml => by rw [hbody, hsome]; simp [hgood, hstate]
    exact ⟨_, rfl, hanswered, congrArg State.msu hbeside, onlyIn_of_beside hbeside fun part hp => by cases part <;> simp_all [Part.Same]⟩

/-! ## CONTACT_CONFIG (R159) -/

/-- A field of a contact is none of its levels. -/
theorem ContactRecord.write_levels {c d : ContactRecord} (h : ContactRecord.write n v c = some d) :
    d.debounced = c.debounced ∧ d.lastReported = c.lastReported := by
  unfold write at h
  split at h
  · obtain ⟨x, -, rfl⟩ := Option.map_eq_some_iff.mp h
    exact ⟨rfl, rfl⟩
  · obtain ⟨x, -, rfl⟩ := Option.map_eq_some_iff.mp h
    exact ⟨rfl, rfl⟩
  · obtain ⟨x, -, rfl⟩ := Option.map_eq_some_iff.mp h
    exact ⟨rfl, rfl⟩
  · obtain ⟨x, -, rfl⟩ := Option.map_eq_some_iff.mp h
    exact ⟨rfl, rfl⟩
  · cases h

/-- A contact configured anew: its record, and that of no other contact (R159). -/
theorem State.configContact_spec (k : Contact) (new : ContactRecord) (s : State) :
    let old := s.csu.contacts.get k
    let tells : Bool := !old.noticeEnable && new.noticeEnable && new.debounced.isSome && new.debounced != new.lastReported
    (s.configContact k new).csu.contacts =
        s.csu.contacts.set k { new with lastReported := if tells then new.debounced else new.lastReported } ∧
      OnlyIn [.csu, .mga, .cbm, .txs] s (s.configContact k new) := by
  intro old tells
  have hset (c : ContactRecord) : OnlyIn [.csu, .mga, .cbm, .txs] s (s.setContact k c) := fun part hp => by cases part <;> simp_all [Part.Same, setContact]
  obtain ⟨wetting, inverted, enable, wake, sample, debounced, reported⟩ := new
  cases debounced with
  | none => exact ⟨by simp [tells, configContact, setContact], hset _⟩
  | some level =>
    have hsame : tells = (!old.noticeEnable && enable && reported != some level) := by
      simp only [tells, Option.isSome_some, Bool.and_true, bne, Bool.beq_comm (a := some level)]
    rw [hsame]
    unfold configContact
    dsimp only
    split
    · exact ⟨by simp [reportContact, setContact], fun part hp => by cases part <;> simp_all [Part.Same, reportContact, setContact]⟩
    · exact ⟨rfl, hset _⟩

theorem contactConfig_single (may : s.mayChange o) (hn : n < 256) (low : -2147483648 ≤ v) (high : v < 2147483648) :
    (∀ x : Octet, 8 ≤ x.toNat → s.comesUp o 0x60#8 (x :: octet n :: int4 v) →
      Refused (.contactConfig o (x :: octet n :: int4 v)) 0x60#8 .badParam s) ∧
      ∀ k : Contact, s.comesUp o 0x60#8 (octet k.val :: octet n :: int4 v) →
        let old := s.csu.contacts.get k
        (ContactRecord.write n v old = none → Refused (.contactConfig o (octet k.val :: octet n :: int4 v)) 0x60#8 .badParam s) ∧
          ∀ new, ContactRecord.write n v old = some new → ∃ t, exec (.contactConfig o (octet k.val :: octet n :: int4 v)) s = .next t ∧
            Answered 0x60#8 .done [] s t ∧
            (let tells : Bool := !old.noticeEnable && new.noticeEnable && old.debounced.isSome && old.debounced != old.lastReported
             t.csu.contacts = s.csu.contacts.set k { new with lastReported := if tells then old.debounced else old.lastReported }) ∧
            OnlyIn [.csu, .mga, .cbm, .txs, .mail] s t := by
  refine ⟨fun x hx comes => ⟨_, rfl, direct_refuses may (isItems_single n v) comes fun ml => ?_⟩, fun k comes => ?_⟩
  · have hnone : contactOf x.toNat = none := dif_neg (by omega)
    simp only [State.contactConfig, hnone]
  · intro old
    have hk : contactOf (octet k.val).toNat = some k := by
      rw [octet_toNat (by omega)]
      exact dif_pos k.isLt
    have hbody (ml : List Instr) : State.contactConfig (octet k.val :: octet n :: int4 v) { s with mail := ml } =
        match ContactRecord.write n v old with
        | none => refuse .badParam { s with mail := ml }
        | some c => done (({ s with mail := ml } : State).configContact k c) := by
      simp only [State.contactConfig, hk, (writeFields_single ContactRecord.write hn low high _).1]
      rfl
    refine ⟨fun hnone => ⟨_, rfl, direct_refuses may (isItems_single n v) comes fun ml => by rw [hbody, hnone]⟩, fun new hnew => ?_⟩
    obtain ⟨hanswered, ml, hbeside, -⟩ := direct_does (good := isItems (octet n :: int4 v)) (demands := .changing)
      (body := State.contactConfig (octet k.val :: octet n :: int4 v)) (f := fun u => u.configContact k new) may (isItems_single n v) comes fun ml => by rw [hbody, hnew]
    obtain ⟨hcontacts, honly⟩ := ({ s with mail := ml } : State).configContact_spec k new
    obtain ⟨hdebounced, hreported⟩ := ContactRecord.write_levels hnew
    rw [← hdebounced, ← hreported]
    refine ⟨_, rfl, hanswered, (congrArg (fun u => u.csu.contacts) hbeside).trans hcontacts, onlyIn_of_beside hbeside ?_⟩
    exact ((s.setMail_only ml).mono (by decide)).trans (honly.mono (by decide))

/-! ## What SET_WRITE brings (R65, R105, R147, R168, R169) -/

theorem State.judgeCraftPower_subscribers (s : State) : s.judgeCraftPower.mga.subscribers = s.mga.subscribers := by
  by_cases hsame : s.craftPower = s.csu.craftPowered
  · rw [judgeCraftPower_stays hsame]
  · cases hon : s.craftPower with
    | true =>
      rw [judgeCraftPower_on (by simpa [hon] using hsame) hon]
      simp [switchCraft]
    | false =>
      have hcut (v : State) : v.cutCraftFrame.mga.subscribers = v.mga.subscribers := by
        cases hr : v.reception .craft with
        | none => rw [cutCraftFrame_none hr]
        | some r =>
          obtain ⟨-, -, -, -, -, -, ⟨store, hmga⟩, -⟩ := cutCraftFrame_spec hr
          rw [hmga]
      rw [judgeCraftPower_off (by simpa [hon] using hsame) hon, hcut]
      simp [switchCraft]

/-- The craft port is judged right after a judgement of its power (R168). -/
theorem State.judgeCraftPower_judged (s : State) : s.judgeCraftPower.CraftJudged := by
  have hcsu := s.judgeCraftPower_spec.1
  have hsettings : s.judgeCraftPower.settings = s.settings := by simp
  simp only [CraftJudged, doorOpen, hcsu, hsettings]
  rfl

/-- Requests that end one after another: they leave the list, and nothing enters it (R105). -/
theorem foldl_endQueued (rs : List Request) (o : TestOutcome) (c : Option TestCause) (s : State) :
    let t := rs.foldl (fun s r => s.endQueued r o c) s
    (∀ r ∈ t.ptc.requests, r ∈ s.ptc.requests ∧ r ∉ rs) ∧ t.mga.subscribers = s.mga.subscribers ∧ OnlyIn [.ptc, .mga, .cbm, .txs, .mail] s t := by
  induction rs generalizing s with
  | nil => exact ⟨fun r h => ⟨h, List.not_mem_nil⟩, rfl, .refl _ s⟩
  | cons q rest ih =>
    obtain ⟨hrequests, hsubscribers, honly⟩ := ih (s.endQueued q o c)
    have hfirst := (s.endQueued_ptc q o c).2.1
    refine ⟨fun r hr => ?_, hsubscribers.trans (by simp), ((s.endQueued_selects q o c).within.mono (by decide)).trans honly⟩
    obtain ⟨hin, hnot⟩ := hrequests r hr
    rw [hfirst, List.mem_filter, bne_iff_ne] at hin
    exact ⟨hin.1, List.mem_cons.not.mpr (not_or.mpr ⟨fun heq => hin.2 (congrArg Request.id heq), hnot⟩)⟩

/-- After a lowered wait limit no request waits behind its deadline (R105). -/
theorem State.expireOverdue_spec (s : State) :
    (∀ r ∈ s.expireOverdue.ptc.requests, r.status = .waiting → s.now < s.deadline r) ∧
      s.expireOverdue.mga.subscribers = s.mga.subscribers ∧ OnlyIn [.ptc, .mga, .cbm, .txs, .mail] s s.expireOverdue := by
  obtain ⟨hrequests, hrest⟩ := foldl_endQueued (s.ptc.requests.filter fun r => r.status == .waiting && decide (s.deadline r ≤ s.now)) .expired none s
  refine ⟨fun r hr hwaiting => ?_, hrest⟩
  obtain ⟨hin, hnot⟩ := hrequests r hr
  by_contra hlate
  exact hnot (List.mem_filter.mpr ⟨hin, by simp [hwaiting, Nat.le_of_not_lt hlate]⟩)

/-- What a setting written brings at once: a trigger, an expiry, a cut of the counts, a judgement of the craft port's power, an evaluation. -/
theorem State.settingsWritten_spec (n : Nat) (g : Settings) (s : State) :
    let t := s.settingsWritten [n] g
    (97 ≤ n ∧ n ≤ 101 → t.scu.computation.isSome = true) ∧ (203 ≤ n ∧ n ≤ 211 → Instr.evaluation ∈ t.mail) ∧
      (n = 163 → ∀ p, (t.lwu.records.get p).warnCount ≤ g.persistence ∧ (t.lwu.records.get p).hazardCount ≤ g.persistence) ∧
      (g.testWaitLimit < s.settings.testWaitLimit → ∀ r ∈ t.ptc.requests, r.status = .waiting →
        s.now < s.resetAt + (r.accepted + g.testWaitLimit) * 1000000) ∧
      (n = 194 → t.CraftJudged) ∧ (n ≠ 194 → t.fcl = s.fcl) ∧ t.settings = g ∧ t.mga.subscribers = s.mga.subscribers ∧
      OnlyIn [.settings, .scu, .ptc, .lwu, .csu, .fcl, .mga, .cbm, .txs, .mail] s t := by
  intro t
  let s₀ : State := { s with settings := g }
  let s₁ := if anyIn 97 101 [n] then s₀.trigger else s₀
  let s₂ := if g.testWaitLimit < s.settings.testWaitLimit then s₁.expireOverdue else s₁
  let s₃ := if [n].contains 163 then s₂.cutCounts else s₂
  let s₄ := if [n].contains 194 then s₃.judgeCraftPower else s₃
  have ht : t = if anyIn 203 211 [n] then s₄.post .evaluation else s₄ := rfl
  have hin (low high : Nat) : anyIn low high [n] = true ↔ low ≤ n ∧ n ≤ high := by simp [anyIn]
  have his (m : Nat) : [n].contains m = true ↔ n = m := by simp [eq_comm]
  have h₁ : OnlyIn [.scu] s₀ s₁ ∧ s₁.mga = s₀.mga ∧ (97 ≤ n ∧ n ≤ 101 → s₁.scu.computation.isSome = true) := by
    by_cases h : anyIn 97 101 [n] = true
    · rw [show s₁ = s₀.trigger from if_pos h]
      exact ⟨fun part hp => by cases part <;> simp_all [Part.Same], by simp, fun _ => trigger_computes _⟩
    · rw [show s₁ = s₀ from if_neg h]
      exact ⟨.refl _ _, rfl, fun hn => absurd ((hin 97 101).mpr hn) h⟩
  have h₂ : OnlyIn [.ptc, .mga, .cbm, .txs, .mail] s₁ s₂ ∧ s₂.mga.subscribers = s₁.mga.subscribers ∧
      (g.testWaitLimit < s.settings.testWaitLimit → ∀ r ∈ s₂.ptc.requests, r.status = .waiting → s₁.now < s₁.deadline r) := by
    by_cases h : g.testWaitLimit < s.settings.testWaitLimit
    · rw [show s₂ = s₁.expireOverdue from if_pos h]
      obtain ⟨hrequests, hsubscribers, honly⟩ := s₁.expireOverdue_spec
      exact ⟨honly, hsubscribers, fun _ => hrequests⟩
    · rw [show s₂ = s₁ from if_neg h]
      exact ⟨.refl _ _, rfl, fun hn => absurd hn h⟩
  have h₃ : OnlyIn [.lwu] s₂ s₃ ∧ s₃.mga = s₂.mga ∧
      (n = 163 → ∀ p, (s₃.lwu.records.get p).warnCount ≤ s₂.settings.persistence ∧ (s₃.lwu.records.get p).hazardCount ≤ s₂.settings.persistence) := by
    by_cases h : [n].contains 163 = true
    · rw [show s₃ = s₂.cutCounts from if_pos h]
      refine ⟨fun part hp => by cases part <;> simp_all [Part.Same, cutCounts], rfl, fun _ p => ?_⟩
      simp only [cutCounts, Row.get_mapEach]
      exact ⟨Nat.min_le_left _ _, Nat.min_le_left _ _⟩
    · rw [show s₃ = s₂ from if_neg h]
      exact ⟨.refl _ _, rfl, fun hn => absurd ((his 163).mpr hn) h⟩
  have h₄ : OnlyIn [.csu, .cbm, .txs, .mga, .mail, .fcl] s₃ s₄ ∧ s₄.mga.subscribers = s₃.mga.subscribers ∧ (n = 194 → s₄.CraftJudged) ∧
      (n ≠ 194 → s₄ = s₃) := by
    by_cases h : [n].contains 194 = true
    · rw [show s₄ = s₃.judgeCraftPower from if_pos h]
      obtain ⟨-, -, -, -, -, -, honly⟩ := s₃.judgeCraftPower_spec
      exact ⟨honly, s₃.judgeCraftPower_subscribers, fun _ => s₃.judgeCraftPower_judged, fun hn => absurd ((his 194).mp h) hn⟩
    · rw [show s₄ = s₃ from if_neg h]
      exact ⟨.refl _ _, rfl, fun hn => absurd ((his 194).mpr hn) h, fun _ => rfl⟩
  have h₅ : OnlyIn [.mail] s₄ t ∧ (203 ≤ n ∧ n ≤ 211 → Instr.evaluation ∈ t.mail) := by
    rw [ht]
    by_cases h : anyIn 203 211 [n] = true
    · rw [if_pos h]
      exact ⟨post_only _ _, fun _ => by simp⟩
    · rw [if_neg h]
      exact ⟨.refl _ _, fun hn => absurd ((hin 203 211).mpr hn) h⟩
  have h₀ : OnlyIn [.settings] s s₀ := fun part hp => by cases part <;> simp_all [Part.Same, s₀]
  clear_value t s₁ s₂ s₃ s₄
  obtain ⟨honly₁, hmga₁, hcomputes⟩ := h₁
  obtain ⟨honly₂, hsub₂, hlate⟩ := h₂
  obtain ⟨honly₃, hmga₃, hcounts⟩ := h₃
  obtain ⟨honly₄, hsub₄, hjudged, hnotJudged⟩ := h₄
  obtain ⟨honly₅, hevaluates⟩ := h₅
  have h₃₅ : OnlyIn [.csu, .cbm, .txs, .mga, .mail, .fcl] s₃ t := honly₄.trans (honly₅.mono (by decide))
  have h₂₅ : OnlyIn [.lwu, .csu, .cbm, .txs, .mga, .mail, .fcl] s₂ t := (honly₃.mono (by decide)).trans (h₃₅.mono (by decide))
  have h₁₅ : OnlyIn [.ptc, .lwu, .csu, .cbm, .txs, .mga, .mail, .fcl] s₁ t := (honly₂.mono (by decide)).trans (h₂₅.mono (by decide))
  have hsettings₁ : s₁.settings = g := honly₁ .settings (by decide)
  have hscu : t.scu = s₁.scu := h₁₅ .scu (by decide)
  have hlwu : t.lwu = s₃.lwu := h₃₅ .lwu (by decide)
  have hptc : t.ptc = s₂.ptc := h₂₅ .ptc (by decide)
  have hpersistence : s₂.settings = g := (honly₂ .settings (by decide)).trans hsettings₁
  refine ⟨fun hn => hscu ▸ hcomputes hn, hevaluates, fun hn => ?_, fun hlower => ?_, fun hn => ?_, fun hn => ?_,
    (h₁₅ .settings (by decide)).trans hsettings₁, ?_, h₀.mono (by decide) |>.trans ((honly₁.mono (by decide)).trans (h₁₅.mono (by decide)))⟩
  · rw [hlwu, ← hpersistence]
    exact hcounts hn
  · have hnow : s₁.now = s.now := honly₁ .now (by decide)
    have hreset : s₁.resetAt = s.resetAt := honly₁ .resetAt (by decide)
    have hdeadline (r : Request) : s₁.deadline r = s.resetAt + (r.accepted + g.testWaitLimit) * 1000000 := by
      rw [deadline, hreset, hsettings₁]
      rfl
    rw [hptc, ← hnow]
    exact fun r hr hwaiting => (hdeadline r) ▸ hlate hlower r hr hwaiting
  · have hcsu : t.csu = s₄.csu := honly₅ .csu (by decide)
    have hsettings : t.settings = s₄.settings := honly₅ .settings (by decide)
    have hj := hjudged hn
    simp only [CraftJudged, doorOpen, hcsu, hsettings] at hj ⊢
    exact hj
  · have hfcl : t.fcl = s₄.fcl := honly₅ .fcl (by decide)
    rw [hfcl, hnotJudged hn]
    have hfcl₃ : s₃.fcl = s₁.fcl := (honly₃ .fcl (by decide)).trans (honly₂ .fcl (by decide))
    exact hfcl₃.trans (honly₁ .fcl (by decide))
  · have hmga : t.mga = s₄.mga := honly₅ .mga (by decide)
    rw [hmga, hsub₄, hmga₃, hsub₂, hmga₁]

/-- SET_WRITE of one item (R188). -/
theorem setWrite_single (hn : n < 256) (low : -2147483648 ≤ v) (high : v < 2147483648) (s : State) :
    (Settings.write n v s.settings = none → State.setWrite (octet n :: int4 v) s = refuse .badParam s) ∧
      ∀ g, Settings.write n v s.settings = some g →
        State.setWrite (octet n :: int4 v) s = if g.ordered then done (s.settingsWritten [n] g) else refuse .badParam s := by
  obtain ⟨hwrite, hnumbers⟩ := writeFields_single Settings.write hn low high s.settings
  exact ⟨fun h => by simp only [State.setWrite, hwrite, h], fun g h => by simp only [State.setWrite, hwrite, hnumbers, h]⟩

end Sys2Proof.Machine
end

section
/-! The obligation on the writes of parameters by field items: O59 (10), SUB_WRITE and the whole. -/

namespace Sys2Proof.Machine

variable {s t u : State} {p : Port} {o : Origin} {n : Nat} {v : Int}

/-! ## The watches of a pair (R146, R148, R151) -/

theorem Watch.anyWatched_iff (w : Watch) : w.anyWatched = true ↔ ∃ q, (w.records.get q).fvWatched = true ∨ (w.records.get q).wakeWatched = true := by
  simp only [anyWatched, List.any_eq_true, Bool.or_eq_true]
  constructor
  · rintro ⟨r, hr, h⟩
    obtain ⟨i, hi, rfl⟩ := List.getElem_of_mem hr
    exact ⟨⟨i, by simpa using hi⟩, by simpa [Row.get] using h⟩
  · rintro ⟨q, h⟩
    exact ⟨_, by simp [Row.get], h⟩

/-- The timer follows the watches (R148). -/
theorem State.settleSweepTimer_timer (s : State) :
    (s.settleSweepTimer.lwu.timer ≠ none ↔ s.lwu.anyWatched = true) ∧
      (∀ x, s.lwu.timer = some x → s.settleSweepTimer.lwu.timer ≠ none → s.settleSweepTimer.lwu.timer = some x) := by
  unfold settleSweepTimer
  split
  · next hany =>
    cases htimer : s.lwu.timer with
    | none => exact ⟨⟨fun _ => hany, fun _ => nofun⟩, fun _ h => nomatch h⟩
    | some y =>
      dsimp only
      rw [htimer]
      exact ⟨⟨fun _ => hany, fun _ => nofun⟩, fun _ h _ => h⟩
  · next hany => exact ⟨⟨fun h => absurd rfl h, fun h => absurd h hany⟩, fun _ _ h => absurd rfl h⟩

/-- A watch record whose watches are worked out again, whole: a watch that begins or ends starts afresh, and one that ends leaves no sample. -/
def WatchRecord.anew (fv wake : Bool) (w : WatchRecord) : WatchRecord :=
  { fvWatched := fv, wakeWatched := wake
    warnCount := if fv = w.fvWatched then w.warnCount else 0
    hazardCount := if fv = w.fvWatched then w.hazardCount else 0
    warnDeclared := fv == w.fvWatched && w.warnDeclared, hazardDeclared := fv == w.fvWatched && w.hazardDeclared
    lastReported := if (w.fvWatched && !fv) = true then .none else w.lastReported
    wakeSeen := wake == w.wakeWatched && w.wakeSeen
    lastSample := if (w.fvWatched && !fv) = true then none else w.lastSample }

theorem WatchRecord.rewatched_eq (fv wake : Bool) (w : WatchRecord) :
    (if w.fvWatched = true ∧ fv = false then { w.rewatched fv wake with lastReported := (w.rewatched fv wake).level } else w.rewatched fv wake) =
      w.anew fv wake := by
  obtain ⟨fv', wake', warnCount, hazardCount, warn, hazard, reported, seen, sample⟩ := w
  cases fv <;> cases fv' <;> cases wake <;> cases wake' <;> simp [anew, rewatched, level]

/-- A watch worked out again: the pair's record, the timer, and the fault record of a watch that ends. -/
theorem State.rewatch_spec (p : Port) (s : State) :
    let w := s.lwu.records.get p
    let t := s.rewatch p
    (∀ q, q ≠ p → t.lwu.records.get q = s.lwu.records.get q) ∧
      t.lwu.records.get p = w.anew (s.wantsFv p) (s.wantsWake p) ∧
      (t.lwu.timer ≠ none ↔ t.lwu.anyWatched = true) ∧
      (∀ x, s.lwu.timer = some x → t.lwu.timer ≠ none → t.lwu.timer = some x) ∧
      (w.fvWatched = true ∧ s.wantsFv p = false → w.warnDeclared = true ∨ w.hazardDeclared = true →
        Inactive t.mga.faults (.line p) .foreignVoltage) := by
  intro w t
  have hrecords : t.lwu.records = _ := s.rewatch_records p
  let new := w.rewatched (s.wantsFv p) (s.wantsWake p)
  let v : State := { s with lwu := { s.lwu with records := s.lwu.records.set p new } }
  have hclear (b : Bool) : (if b = true then v.settleSweepTimer.clearFault (.line p) .foreignVoltage else v.settleSweepTimer).lwu =
      v.settleSweepTimer.lwu := by split <;> rfl
  have htimer : t.lwu.timer = v.settleSweepTimer.lwu.timer := by
    show (s.rewatch p).lwu.timer = _
    unfold rewatch
    dsimp only
    split
    · rw [show ∀ z : State, (z.reportLevel p).lwu.timer = z.lwu.timer from fun z => by simp, hclear]
    · rfl
  have hany : v.lwu.anyWatched = true ↔ t.lwu.anyWatched = true := by
    rw [Watch.anyWatched_iff, Watch.anyWatched_iff, hrecords]
    refine exists_congr fun q => ?_
    simp only [v, Row.get_set]
    split
    · split <;> rfl
    · rfl
  obtain ⟨hruns, hkeeps⟩ := v.settleSweepTimer_timer
  rw [hrecords, htimer]
  refine ⟨fun q hq => Row.get_set_ne _ _ hq, (Row.get_set_self _ _ _).trans (WatchRecord.rewatched_eq _ _ _), hruns.trans hany, hkeeps, fun hends hdeclared => ?_⟩
  have ht : t = (v.settleSweepTimer.clearFault (.line p) .foreignVoltage).reportLevel p := by
    show s.rewatch p = _
    unfold rewatch
    dsimp only
    rw [if_pos (by simp [w] at hends; simp [hends]), if_pos (by simpa [w] using hdeclared)]
  rw [ht, reportLevel_faults]
  exact clearFault_inactive _ _ _

/-! ## The selection that a write brings (R104) -/

theorem State.endQueued_buckets (r : Request) (o : TestOutcome) (c : Option TestCause) (s : State) :
    (s.endQueued r o c).txs.upBuckets = s.txs.upBuckets ∧ (s.endQueued r o c).txs.downBuckets = s.txs.downBuckets := by
  simp [endQueued, concludeRequest]

theorem walkRequests_buckets (rs : List Request) (s : State) :
    (walkRequests rs s).txs.upBuckets = s.txs.upBuckets ∧ (walkRequests rs s).txs.downBuckets = s.txs.downBuckets := by
  induction rs generalizing s with
  | nil => exact ⟨rfl, rfl⟩
  | cons r rs ih =>
    unfold walkRequests
    split
    · exact ih s
    · split
      · split
        · exact ⟨rfl, rfl⟩
        · exact ih s
      · obtain ⟨hup, hdown⟩ := ih (s.endQueued r .aborted (some .policy))
        obtain ⟨hup', hdown'⟩ := s.endQueued_buckets r .aborted (some .policy)
        exact ⟨hup.trans hup', hdown.trans hdown'⟩

/-- A selection charges no bucket. -/
theorem State.select_buckets (s : State) : s.select.txs.upBuckets = s.txs.upBuckets ∧ s.select.txs.downBuckets = s.txs.downBuckets := by
  unfold select
  split
  · simpa using walkRequests_buckets s.ptc.requests s
  · simp

/-- A lone request that is no longer permitted ends (R104, R110). -/
theorem State.select_lone {r : Request} (idle : s.ptc.state = .idle) (blocked : s.ptc.blocked = false) (shed : s.ptc.shedMark = false)
    (list : s.ptc.requests = [r]) (waits : r.status = .waiting) (refused : (s.sub r.port).policy.permits r.mode = false) :
    s.select.ptc.state = .idle ∧ s.select.ptc.requests = [] ∧ s.select.ptc.log = pushResult (s.resultOf r .aborted (some .policy) []) s.ptc.log := by
  have hselect : s.select = (s.endQueued r .aborted (some .policy)).workDemand := by
    unfold select
    rw [if_pos (by simp [idle, blocked, shed]), list]
    simp [walkRequests, waits, refused]
  obtain ⟨hlog, hrequests, -, hstate⟩ := s.endQueued_ptc r .aborted (some .policy)
  rw [hselect, workDemand_ptc]
  exact ⟨hstate.trans idle, by rw [hrequests, list]; simp, hlog⟩

/-! ## What SUB_WRITE brings (R187) -/

/-- A changed burst cuts its bucket (R83, R93). -/
theorem State.cutBuckets_spec (p : Port) (old new : Subscriber) (s : State) :
    (new.upBurst ≠ old.upBurst → ((s.cutBuckets p old new).txs.upBuckets.get p).tokens ≤ max 1664 new.upBurst) ∧
      (new.downBurst ≠ old.downBurst → ((s.cutBuckets p old new).txs.downBuckets.get p).tokens ≤ max 1664 new.downBurst) ∧
      OnlyIn [.txs] s (s.cutBuckets p old new) := by
  have hcut (k : Nat) (b : Bucket) : (b.cut (depthOf k)).tokens ≤ max 1664 k := Nat.min_le_left _ _
  unfold cutBuckets
  dsimp only
  refine ⟨fun h => ?_, fun h => ?_, ?_⟩
  · rw [if_neg h]
    split <;> simp [hcut]
  · rw [if_neg h]
    simp [hcut]
  · split <;> split <;> exact fun part hp => by cases part <;> simp_all [Part.Same]

/-- A changed idle doze time restarts or stops the idle timer of a port in UP (R17). -/
theorem State.newIdleDoze_spec (p : Port) (old new : Subscriber) (s : State) :
    ((s.newIdleDoze p old new).port p).state = (s.port p).state ∧ OtherPorts p s (s.newIdleDoze p old new) ∧
      ((s.port p).state = .up → new.idleDoze ≠ old.idleDoze →
        ((s.newIdleDoze p old new).port p).idleTimer = if new.idleDoze = 0 then none else some (s.now + new.idleDoze * 1000000)) ∧
      OnlyIn [.ports] s (s.newIdleDoze p old new) := by
  unfold newIdleDoze
  split
  · next hsame => exact ⟨rfl, .refl p s, fun hup hne => absurd hsame (by simp [hup, hne]), .refl _ s⟩
  · obtain ⟨hothers, -, -⟩ := s.modifyPort_lineChange p fun r =>
      { r with idleTimer := if new.idleDoze = 0 then none else some (s.now + sec new.idleDoze) }
    refine ⟨?_, hothers, fun _ _ => ?_, fun part hp => by cases part <;> simp_all [Part.Same, modifyPort]⟩
    · rw [port_modifyPort_self]
    · rw [port_modifyPort_self]
      rfl

theorem State.trigger_only (s : State) : OnlyIn [.scu] s s.trigger := fun part hp => by cases part <;> simp_all [Part.Same]

/-- What a SUB_WRITE of one field has brought when its selection comes. -/
structure SubWritten (p : Port) (n : Nat) (old new : Subscriber) (s w : State) : Prop where
  subscribers : w.mga.subscribers = s.mga.subscribers.set p new
  state : (w.port p).state = (s.port p).state
  others : OtherPorts p s w
  idle : (s.port p).state = .up → new.idleDoze ≠ old.idleDoze →
    (w.port p).idleTimer = if new.idleDoze = 0 then none else some (s.now + new.idleDoze * 1000000)
  computes : w.scu.computation.isSome = true
  evaluates : n = 9 ∨ n = 10 → Instr.evaluation ∈ w.mail
  up : new.upBurst ≠ old.upBurst → (w.txs.upBuckets.get p).tokens ≤ max 1664 new.upBurst
  down : new.downBurst ≠ old.downBurst → (w.txs.downBuckets.get p).tokens ≤ max 1664 new.downBurst
  unwatched : n ≠ 12 → n ≠ 13 → w.lwu = s.lwu
  watched : n = 12 ∨ n = 13 → ∃ x : State, w = x.rewatch p ∧ x.lwu = s.lwu ∧ x.sub p = new ∧ (x.port p).state = (s.port p).state
  ptc : w.ptc = s.ptc
  within : OnlyIn [.ports, .scu, .lwu, .mga, .cbm, .txs, .mail] s w

theorem State.subWritten_spec (p : Port) (n : Nat) (old new : Subscriber) (s : State) :
    ∃ w : State, s.subWritten p [n] old new = w.select ∧ SubWritten p n old new s w := by
  let s₀ : State := { s with mga := { s.mga with subscribers := s.mga.subscribers.set p new } }
  let s₁ := s₀.cutBuckets p old new
  let s₂ := s₁.newIdleDoze p old new
  let s₃ := s₂.trigger
  let s₄ := if [n].contains 9 || [n].contains 10 then s₃.post .evaluation else s₃
  let s₅ := if [n].contains 12 || [n].contains 13 then s₄.rewatch p else s₄
  have his (a b : Nat) : ([n].contains a || [n].contains b) = true ↔ n = a ∨ n = b := by
    rw [Bool.or_eq_true, List.contains_iff_mem, List.contains_iff_mem, List.mem_singleton, List.mem_singleton]
    exact or_congr eq_comm eq_comm
  have h₀ : OnlyIn [.mga] s s₀ := s.setMga_only _
  obtain ⟨hup, hdown, h₁⟩ := s₀.cutBuckets_spec p old new
  obtain ⟨hstate, hothers, hidle, h₂⟩ := s₁.newIdleDoze_spec p old new
  have h₃ : OnlyIn [.scu] s₂ s₃ := s₂.trigger_only
  have h₄ : OnlyIn [.mail] s₃ s₄ ∧ (n = 9 ∨ n = 10 → Instr.evaluation ∈ s₄.mail) := by
    by_cases h : ([n].contains 9 || [n].contains 10) = true
    · rw [show s₄ = s₃.post .evaluation from if_pos h]
      exact ⟨post_only _ _, fun _ => by simp⟩
    · rw [show s₄ = s₃ from if_neg h]
      exact ⟨.refl _ _, fun hn => absurd ((his 9 10).mpr hn) h⟩
  obtain ⟨h₄, hevaluates⟩ := h₄
  have h₀₄ : OnlyIn [.ports, .scu, .mga, .txs, .mail] s s₄ := (h₀.mono (by decide)).trans ((h₁.mono (by decide)).trans ((h₂.mono (by decide)).trans
    ((h₃.mono (by decide)).trans (h₄.mono (by decide)))))
  have h₁₄ : OnlyIn [.ports, .scu, .mail] s₁ s₄ := (h₂.mono (by decide)).trans ((h₃.mono (by decide)).trans (h₄.mono (by decide)))
  have h₂₄ : OnlyIn [.scu, .mail] s₂ s₄ := (h₃.mono (by decide)).trans (h₄.mono (by decide))
  have h₅ : s₅.mga.subscribers = s₄.mga.subscribers ∧ s₅.ports = s₄.ports ∧ s₅.scu = s₄.scu ∧ s₅.mail = s₄.mail ∧
      s₅.txs.upBuckets = s₄.txs.upBuckets ∧ s₅.txs.downBuckets = s₄.txs.downBuckets ∧ s₅.ptc = s₄.ptc ∧ OnlyIn [.lwu, .mga, .cbm, .txs] s₄ s₅ := by
    by_cases h : ([n].contains 12 || [n].contains 13) = true
    · rw [show s₅ = s₄.rewatch p from if_pos h]
      exact ⟨by simp, by simp, by simp, by simp, by simp, by simp, by simp, fun part hp => by cases part <;> simp_all [Part.Same]⟩
    · rw [show s₅ = s₄ from if_neg h]
      exact ⟨rfl, rfl, rfl, rfl, rfl, rfl, rfl, .refl _ _⟩
  obtain ⟨hsub₅, hports₅, hscu₅, hmail₅, hup₅, hdown₅, hptc₅, honly₅⟩ := h₅
  have hport₄ (q : Port) : s₄.port q = s₂.port q := by
    have hports : s₄.ports = s₂.ports := h₂₄ .ports (by decide)
    rw [port, hports]
    rfl
  have hport₅ (q : Port) : s₅.port q = s₂.port q := by
    rw [port, hports₅]
    exact hport₄ q
  have hport₁ (q : Port) : s₁.port q = s.port q := by
    have hports : s₁.ports = s.ports := (h₁ .ports (by decide)).trans (h₀ .ports (by decide))
    rw [port, hports]
    rfl
  have hmga₄ : s₄.mga = s₀.mga := (h₁₄ .mga (by decide)).trans (h₁ .mga (by decide))
  have htxs₄ : s₄.txs = s₁.txs := h₁₄ .txs (by decide)
  have hscu₄ : s₄.scu = s₃.scu := h₄ .scu (by decide)
  have hnow₁ : s₁.now = s.now := (h₁ .now (by decide)).trans (h₀ .now (by decide))
  exact ⟨s₅, rfl, {
    subscribers := by rw [hsub₅, hmga₄]
    state := by rw [hport₅, hstate, hport₁]
    others := fun q hq => by rw [hport₅, hothers q hq, hport₁]
    idle := fun hst hne => by rw [hport₅, hidle (by rw [hport₁]; exact hst) hne, hnow₁]
    computes := by rw [hscu₅, hscu₄]; exact trigger_computes _
    evaluates := fun hn => hmail₅ ▸ hevaluates hn
    up := fun hne => by rw [hup₅, htxs₄]; exact hup hne
    down := fun hne => by rw [hdown₅, htxs₄]; exact hdown hne
    unwatched := fun h12 h13 => by
      rw [show s₅ = s₄ from if_neg fun h => ((his 12 13).mp h).elim h12 h13]
      exact h₀₄ .lwu (by decide)
    watched := fun hn => ⟨s₄, if_pos ((his 12 13).mpr hn), h₀₄ .lwu (by decide), by rw [sub, hmga₄]; simp [s₀],
      by rw [hport₄, hstate, hport₁]⟩
    ptc := hptc₅.trans (h₀₄ .ptc (by decide))
    within := (h₀₄.mono (by decide)).trans (honly₅.mono (by decide)) }⟩

/-- What a written wake or watch field leaves of the pair's watches (R146, R148, R151). -/
theorem SubWritten.watches {old new : Subscriber} {w : State} (h : SubWritten p n old new s w) (hn : n = 12 ∨ n = 13) :
    let r := s.lwu.records.get p
    let fv : Bool := s.lwu.armed && new.watch && (s.port p).state != .test
    let wake : Bool := s.lwu.armed && new.wake && (s.port p).state == .doze
    w.lwu.armed = s.lwu.armed ∧ (∀ q, q ≠ p → w.lwu.records.get q = s.lwu.records.get q) ∧ w.lwu.records.get p = r.anew fv wake ∧
      (w.lwu.timer ≠ none ↔ w.lwu.anyWatched = true) ∧ (∀ x, s.lwu.timer = some x → w.lwu.timer ≠ none → w.lwu.timer = some x) ∧
      (r.fvWatched = true ∧ fv = false → r.warnDeclared = true ∨ r.hazardDeclared = true → Inactive w.mga.faults (.line p) .foreignVoltage) := by
  intro r fv wake
  obtain ⟨x, hx, hxlwu, hxsub, hxstate⟩ := h.watched hn
  obtain ⟨hothers, hself, htimer, hkeeps, hinactive⟩ := x.rewatch_spec p
  have hfv : x.wantsFv p = fv := by simp only [State.wantsFv, hxlwu, hxsub, hxstate, fv]
  have hwake : x.wantsWake p = wake := by simp only [State.wantsWake, hxlwu, hxsub, hxstate, wake]
  have harmed : (x.rewatch p).lwu.armed = x.lwu.armed := by simp
  rw [← hx, hfv, hxlwu] at hinactive
  rw [hfv, hwake] at hself
  rw [← hx, hxlwu] at hothers hself hkeeps harmed
  rw [← hx] at htimer
  exact ⟨harmed, hothers, hself, htimer, hkeeps, hinactive⟩

/-- SUB_WRITE of one item (R187). -/
theorem subWrite_single (hn : n < 256) (low : -2147483648 ≤ v) (high : v < 2147483648) (p : Port) (s : State) :
    (Subscriber.write n v (s.sub p) = none → State.subWrite (portOctet p :: octet n :: int4 v) s = refuse .badParam s) ∧
      ∀ x, Subscriber.write n v (s.sub p) = some x →
        State.subWrite (portOctet p :: octet n :: int4 v) s = done (s.subWritten p [n] (s.sub p) x) := by
  obtain ⟨hwrite, hnumbers⟩ := writeFields_single Subscriber.write hn low high (s.sub p)
  have hp : portOf (portOctet p).toNat = some p := by
    rw [portOctet_toNat]
    exact dif_pos p.isLt
  exact ⟨fun h => by simp only [State.subWrite, hp, hwrite, h], fun x h => by simp only [State.subWrite, hp, hwrite, hnumbers, h]⟩

/-! ## O59 -/

/-- A state that is another beside its directive is that other with its own messages, execution and last entry. -/
theorem eq_of_besideDirective (h : t.besideDirective = u.besideDirective) :
    ∃ ml ex entry, t = { u with mail := ml, mga := { u.mga with exec := ex, lastEntry := entry } } := by
  have ht : t = { t.besideDirective with
      mail := t.mail, mga := { t.besideDirective.mga with exec := t.mga.exec, lastEntry := t.mga.lastEntry } } := rfl
  rw [h] at ht
  exact ⟨t.mail, t.mga.exec, t.mga.lastEntry, ht⟩

/-- Settles O59. -/
theorem fieldWritesTakeEffect : Obligations.FieldWritesTakeEffect := by
  intro o n v s may hn low high item refused
  refine ⟨fun comes => ⟨fun hnone => ?_, fun g hsome hbad => ?_, fun g hsome hordered => ?_⟩, fun comes => ?_, fun x => ⟨fun hx comes => ?_,
    (contactConfig_single may hn low high).1 x⟩, fun p comes => ⟨fun hnone => ?_, fun new hsome => ?_⟩, fun comes => ?_, fun k comes => ?_⟩
  · exact ⟨_, rfl, direct_refuses may (isItems_single n v) comes fun ml => (setWrite_single hn low high { s with mail := ml }).1 hnone⟩
  · exact ⟨_, rfl, direct_refuses may (isItems_single n v) comes fun ml =>
      ((setWrite_single hn low high { s with mail := ml }).2 g hsome).trans (if_neg (ne_true_of_eq_false hbad))⟩
  · obtain ⟨hanswered, ml, hbeside, more, hmore⟩ := direct_does (good := isItems item) (demands := .changing) (body := State.setWrite item)
      (f := fun u => u.settingsWritten [n] g) may (isItems_single n v) comes fun ml =>
        ((setWrite_single hn low high { s with mail := ml }).2 g hsome).trans (if_pos hordered)
    obtain ⟨hcomputes, hevaluates, hcounts, hlate, hjudged, hfcl, hsettings, hsub, honly⟩ := State.settingsWritten_spec n g { s with mail := ml }
    have honly' := onlyIn_of_beside hbeside (((s.setMail_only ml).mono (by decide)).trans honly)
    refine ⟨_, rfl, hanswered, ?_⟩
    generalize s.direct o 0x72#8 item (isItems item) .changing (State.setWrite item) = t at *
    have hmail (h : 203 ≤ n ∧ n ≤ 211) : Instr.evaluation ∈ t.mail := hmore ▸ List.mem_append_left more (hevaluates h)
    obtain ⟨_, _, _, rfl⟩ := eq_of_besideDirective hbeside
    exact ⟨hsettings, fun h97 h101 => hcomputes ⟨h97, h101⟩, fun h203 h211 => hmail ⟨h203, h211⟩, hcounts, fun _ => hlate, hjudged, hfcl, honly', hsub⟩
  · exact ⟨_, rfl, direct_refuses may (isItems_twice n v) comes fun ml => by
      simp only [State.setWrite, item, writeFields_twice Settings.write hn low high]⟩
  · exact ⟨_, rfl, direct_refuses may (isItems_single n v) comes fun ml => by
      have hnone : portOf x.toNat = none := dif_neg (by omega)
      simp only [State.subWrite, hnone]⟩
  · exact ⟨_, rfl, direct_refuses may (isItems_single n v) comes fun ml => (subWrite_single hn low high p { s with mail := ml }).1 hnone⟩
  · obtain ⟨hanswered, ml, hbeside, more, hmore⟩ := direct_does (good := isItems ((portOctet p :: item).drop 1)) (demands := .changing)
      (body := State.subWrite (portOctet p :: item)) (f := fun u => u.subWritten p [n] (s.sub p) new) may (isItems_single n v) comes fun ml =>
        (subWrite_single hn low high p { s with mail := ml }).2 new hsome
    obtain ⟨w, hw, hwritten⟩ := ({ s with mail := ml } : State).subWritten_spec p n (s.sub p) new
    rw [hw] at hbeside hmore
    have honly : OnlyIn [.ports, .scu, .lwu, .ptc, .mga, .cbm, .txs, .mail] s _ := onlyIn_of_beside hbeside (((s.setMail_only ml).mono (by decide)).trans
      ((hwritten.within.mono (by decide)).trans (w.select_selects.within.mono (by decide))))
    refine ⟨_, rfl, hanswered, ?_⟩
    generalize s.direct o 0x70#8 (portOctet p :: item) (isItems ((portOctet p :: item).drop 1)) .changing (State.subWrite (portOctet p :: item)) = t at *
    have hmail {m : Instr} (h : m ∈ w.select.mail) : m ∈ t.mail := hmore ▸ List.mem_append_left more h
    obtain ⟨_, _, _, rfl⟩ := eq_of_besideDirective hbeside
    have hports : w.select.ports = w.ports := by simp
    have hlwu : w.select.lwu = w.lwu := by simp
    have hscu : w.select.scu = w.scu := by simp
    have hsub (q : Port) : w.select.sub q = w.sub q := by simp [State.sub]
    have hsubscribers (q : Port) : w.sub q = if q = p then new else s.sub q := by
      rw [State.sub, hwritten.subscribers, Row.get_set]
      rfl
    obtain ⟨hup, hdown⟩ := w.select_buckets
    refine ⟨(hsub p).trans ((hsubscribers p).trans (if_pos rfl)), fun q hq => (hsub q).trans ((hsubscribers q).trans (if_neg hq)), fun q hq => ?_, ?_,
      ?_, fun h => ?_, fun h => ?_, fun h => ?_, fun hstate h => ?_, fun h12 h13 => ?_, fun h => ?_, ?_, honly⟩
    · exact (congrArg (Row.get · q) hports).trans (hwritten.others q hq)
    · exact (congrArg (fun ps : Row 16 PortRecord => (ps.get p).state) hports).trans hwritten.state
    · exact (congrArg (fun x : Share => x.computation.isSome) hscu).trans hwritten.computes
    · obtain ⟨more', hmore', -⟩ := w.select_sends
      exact hmail (hmore' ▸ List.mem_append_left more' (hwritten.evaluates h))
    · exact hup ▸ hwritten.up h
    · exact hdown ▸ hwritten.down h
    · exact (congrArg (fun ps : Row 16 PortRecord => (ps.get p).idleTimer) hports).trans (hwritten.idle hstate h)
    · exact hlwu.trans (hwritten.unwatched h12 h13)
    · intro r fv wake ends
      obtain ⟨harmed, hothers, hself, htimer, hkeeps, hinactive⟩ := hwritten.watches h
      have hends : ends = true ↔ r.fvWatched = true ∧ fv = false := by simp [ends]
      show w.select.lwu.armed = _ ∧ (∀ q, q ≠ p → w.select.lwu.records.get q = _) ∧ w.select.lwu.records.get p = _ ∧
        (w.select.lwu.timer ≠ none ↔ ∃ q, (w.select.lwu.records.get q).fvWatched = true ∨ (w.select.lwu.records.get q).wakeWatched = true) ∧
        (∀ x, _ → w.select.lwu.timer ≠ none → w.select.lwu.timer = some x) ∧
        (_ → _ → Inactive w.select.mga.faults (.line p) .foreignVoltage)
      rw [hlwu, w.select_selects.faults]
      exact ⟨harmed, hothers, hself, htimer.trans (Watch.anyWatched_iff _), hkeeps, fun hend => hinactive (hends.mp hend)⟩
    · intro selects permitted view free
      have hptc : w.ptc = s.ptc := hwritten.ptc
      have hpermitted (r : Request) : permitted r ↔ (w.sub r.port).policy.permits r.mode = true := by
        show (w.select.sub r.port).policy = _ ∨ (w.select.sub r.port).policy = _ ∧ _ ↔ _
        rw [TestPolicy.permits_iff, hsub]
      have hfree (r : Request) : r.status = .waiting → free r → w.ptc.isTakeable r = true := fun hwaiting h => by
        rw [PairTest.isTakeable_iff, hptc]
        exact ⟨hwaiting, h⟩
      refine ⟨?_, fun hno => ?_, fun r rest hselects hlist hwaiting hpermits h => ?_, fun r hselects hlist hwaiting hforbids => ?_⟩
      · exact (congrArg PairTest.view w.select_selects.ptc).trans (congrArg PairTest.view hptc :)
      · have hno' : w.ptc.state ≠ .idle ∨ w.ptc.blocked = true ∨ w.ptc.shedMark = true ∨ w.ptc.requests = [] := by
          by_contra hall
          obtain ⟨hidle, hblocked, hshed, -⟩ : w.ptc.state = .idle ∧ w.ptc.blocked = false ∧ w.ptc.shedMark = false ∧ w.ptc.requests ≠ [] := by
            simpa using hall
          rw [hptc] at hidle hblocked hshed
          exact hno ⟨hidle, hblocked, hshed⟩
        have hselect : w.select.ptc = { s.ptc with demand := w.select.ptc.demand } := by rw [State.select_none hno', State.workDemand_ptc, hptc]
        exact hselect
      · obtain ⟨hidle, hblocked, hshed⟩ := hselects
        rw [← hptc] at hidle hblocked hshed hlist
        obtain ⟨hstate, hcourse, hlog, htake, hrequests⟩ :=
          w.select_first hidle hblocked hshed hlist hwaiting ((hpermitted r).mp hpermits) (hfree r hwaiting h)
        rw [hptc] at hlog hrequests
        exact ⟨hstate, hcourse, hlog, hmail htake, hrequests⟩
      · obtain ⟨hidle, hblocked, hshed⟩ := hselects
        rw [← hptc] at hidle hblocked hshed hlist
        obtain ⟨hstate, hrequests, hlog⟩ :=
          w.select_lone hidle hblocked hshed hlist hwaiting (Bool.eq_false_iff.mpr fun h => hforbids ((hpermitted r).mpr h))
        rw [hptc] at hlog
        refine ⟨hstate, hrequests, hlog.trans ?_⟩
        have hnow : w.now = s.now := hwritten.within .now (by decide)
        have hreset : w.resetAt = s.resetAt := hwritten.within .resetAt (by decide)
        rw [State.resultOf, State.sinceReset, hnow, hreset]
        rfl
  · obtain ⟨hnone, hsome⟩ := measConfig_single may hn low high comes
    exact ⟨hnone, fun c hc => (hsome c hc).1, fun c hc => (hsome c hc).2.1, fun c hc => (hsome c hc).2.2⟩
  · intro old
    obtain ⟨hnone, hsome⟩ := (contactConfig_single may hn low high).2 k comes
    refine ⟨hnone, fun new hnew => ?_⟩
    obtain ⟨t, hexec, hanswered, hcontacts, honly⟩ := hsome new hnew
    refine ⟨t, hexec, hanswered, ?_, fun j hj => ?_, honly⟩
    · dsimp only at hcontacts ⊢
      rw [hcontacts, Row.get_set_self]
    · rw [hcontacts, Row.get_set_ne _ _ hj]

end Sys2Proof.Machine
end
